-- ==== Sys2Proof/Word.lean ====
section
/-! DEFINITION. The word types of the CHD1616 register fabric, the shape of a sparse table, of a register field
and of a row of the register map. -/

namespace Sys2Proof

/-- A register word: every register is 32 bits wide (00_scope.md R9). -/
abbrev Word := BitVec 32

/-- A byte of an addressed memory. -/
abbrev Byte := BitVec 8

/-- A sparse table: keys strictly rising, no entry equal to what an unlisted key holds.
Its operations stand in Machine/Tbl.lean. -/
abbrev Tbl (α : Type) := List (Nat × α)

/-- A field [hi:lo] of the register at an address. -/
structure Fld where
  addr : Nat
  hi : Nat
  lo : Nat
  deriving DecidableEq, Repr

/-- A row of the register map: up to two indexed dimensions inside a block, the bits of each access
code (00_scope.md R11), and the reset value. -/
structure RegRow where
  off : Nat
  n1 : Nat
  s1 : Nat
  n2 : Nat
  s2 : Nat
  rw : Nat
  rwl : Nat
  w1c : Nat
  wo : Nat
  reset : Nat
  deriving DecidableEq, Repr

end Sys2Proof
end

