-- ==== Sys2Proof/Syntax.lean ====
section
/-! DEFINITION. The commands of the block: one constructor of `Instr` per row of spec/opcode_table.json,
in the table's order, with the operands the row's event carries. -/

namespace Sys2Proof

/-- What woke the device (11_modes.md R248). -/
inductive WakeSource | wakeBall | canRx
  deriving DecidableEq, Repr

/-- Which of the two PLLs enabled together reports lock (02_time_base_and_clocks.md R30). -/
inductive PllBC | b | c
  deriving DecidableEq, Repr

/-- What the loader learns of the flash from SFDP (12_image_and_start.md R265, R266): the density as
log2 of bytes, the mode and wait clocks of each fast read it offers, the suspend latency in ticks
(none: no suspend and resume), log2 of the page size and of the size of each erase type, and whether the set-up calls for a
status write. Pages are programmed whole, so that their size shows in no content. -/
structure FlashParams where
  sfdp : Bool
  dens : BitVec 8
  dtr144 : Option Nat
  m144 : Option Nat
  m114 : Option Nat
  suspend : Option Nat
  page : Nat
  erase : List Nat
  statusWrite : Bool
  deriving DecidableEq, Repr

/-- What a step of the automatic monitor test observes (08_monitors_and_protection.md R195):
the raw levels of all monitors at the end of a mode, or a threshold-DAC readback. -/
inductive SelfTestObs
  | levels (hi lo : BitVec 42)
  | readback (code : BitVec 16) (ovr settle : Bool)
  deriving DecidableEq, Repr

/-- The two comparators of a window monitor (08 R178). -/
inductive Side | hi | lo
  deriving DecidableEq, Repr

/-- The registers whose latch bits clear by W1C (08 R190). -/
inductive LatchReg | mon (m : Fin 42) | nfst
  deriving DecidableEq, Repr

/-- What a calibration of a slice measures (07_feedback_converter.md R168): OFS in 1/16 LSB, GNDEV in
2^-18, the eighteen bit weights in 1/16 LSB, the skew trim in steps, and whether the weights and the
residual skew lie within their limits. -/
structure SliceCal where
  ofs : BitVec 16
  gndev : BitVec 16
  weights : List Int
  skew : Int
  weightsOk : Bool
  skewOk : Bool
  deriving DecidableEq, Repr

/-- The spaces that LFC_CIDX selects (03_kareo_loop_fabric.md R84). -/
inductive LfcSpace | bankA | bankB | state
  deriving DecidableEq, Repr

/-- What a SECDED read of an entry finds. -/
inductive EccFound | clean | single | double
  deriving DecidableEq, Repr

/-- The three planner limits (05_rail_tracking.md R122). -/
inductive PrfLimit | v | a | j
  deriving DecidableEq, Repr

/-- A Weft frame: its 65 symbols in the order of the line, each a byte and, in bit 8, whether it is a control symbol
(K27.7 is 0x1FB, K29.7 is 0x1FD) of the 8b/10b code (02 R44). -/
structure WeftFrame where
  sym : List (BitVec 9)
  deriving DecidableEq, Repr

/-- Why the MAC drops a frame (10_audio_inputs.md R229). -/
inductive FrameReject | badFcs | other
  deriving DecidableEq, Repr

/-- The header of a received Ethernet frame with a good FCS: the VID of its 802.1Q tag, its destination and its EtherType
(10 R229). -/
structure EthHdr where
  tag : Option (BitVec 12)
  dst : BitVec 48
  etherType : BitVec 16
  deriving DecidableEq, Repr

/-- The header of a gPTP message: its Ethernet header and its domainNumber (10 R229, R230). -/
structure GptpHdr where
  eth : EthHdr
  domain : BitVec 8
  deriving DecidableEq, Repr

/-- A time of the grandmaster, in seconds and nanoseconds (02_time_base_and_clocks.md R41). -/
structure GptpTime where
  sec : Nat
  ns : Nat
  deriving DecidableEq, Repr

/-- An Announce: its header and the grandmaster identity that it gives (10 R230). -/
structure AnnounceMsg where
  hdr : GptpHdr
  grandmaster : BitVec 64
  deriving DecidableEq, Repr

/-- What an exchange of Pdelay messages finds: the propagation delay, and whether IEEE 802.1AS lets the link be asCapable but for
the threshold (10 R230). -/
structure PdelayResult where
  delayNs : Nat
  capable : Bool
  deriving DecidableEq, Repr

/-- The clock of a TDM frame: the bit clocks that it had, and whether they come from MCLK_OUT (10 R239, R240). -/
structure TdmClock where
  bitClocks : Nat
  mclk : Bool
  deriving DecidableEq, Repr

/-- A context switch of engine e: a block instruction of the outgoing context stops after so many more of its steps
(09_zuelm_engines_and_gallery.md R203). -/
structure EngSwitch where
  e : Fin 16
  steps : Nat
  deriving DecidableEq, Repr

/-- The AAF sample formats (10 R232). -/
inductive AafFormat | int32 | int24 | int16 | other
  deriving DecidableEq, Repr

/-- The nominal sample rates (10 R232). -/
inductive AafRate | k48 | k96 | other
  deriving DecidableEq, Repr

/-- A received AVTP AAF packet (10 R232, R233). The samples of a frame are the raw words, right-aligned. -/
structure AvtpPacket where
  eth : EthHdr
  streamId : BitVec 64
  subtype : BitVec 8
  version : BitVec 3
  format : AafFormat
  rate : AafRate
  channels : Nat
  bitDepth : Nat
  dataLen : Nat
  tv : Bool
  timestamp : BitVec 32
  seqNum : BitVec 8
  frames : List (List Word)
  deriving DecidableEq, Repr

/-- The two TDM ports (10 R238). -/
inductive TdmPort | a | b
  deriving DecidableEq, Repr

/-- A received CAN frame (16_service_and_vehicle_bus.md R348, R350). -/
structure CanFrame where
  remote : Bool := false
  id : BitVec 29
  ext : Bool
  fd : Bool
  data : List Byte
  deriving DecidableEq, Repr

/-- A control frame as it comes: the frame, and whether it finds the queue of 02 R34 full (16 R351). -/
structure CanArrival where
  frame : CanFrame
  full : Bool
  deriving DecidableEq, Repr

/-- The transport timers of ISO 15765-2 (16 R352). -/
inductive TpTimer | nBs | nCr
  deriving DecidableEq, Repr

/-- A segment of a multi-frame request (16 R352). -/
inductive TpFrame
  | first (len : Nat) (data : List Byte)
  | consecutive (sn : BitVec 4) (data : List Byte)
  deriving DecidableEq, Repr

/-- How a diagnostic request came: under which identifier in base format, functionally addressed, with the positive response
suppressed, in FD frames (16 R348, R352, R353). -/
structure ReqKind where
  id : BitVec 11
  functional : Bool
  suppress : Bool
  fd : Bool
  deriving DecidableEq, Repr

/-- One access of one master in a cycle of the register arbiter (01_signal_to_speaker.md R21): a write, a read, or the oldest
access of the register queue of an engine or a mover, which then stands in for address and value. hw tells which W1C bits the
hardware sets in that cycle, and by the lowest bit of a counter field that it counts (00_scope.md R13). -/
structure RegAccess where
  master : Fin 25
  addr : Word
  value : Word
  read : Bool := false
  queued : Bool := false
  hw : Word := 0
  deriving DecidableEq, Repr

/-- The clocks the clock-stop monitor watches (15_drip_and_flowstone.md R324). -/
inductive DripClock | rc | cclk
  deriving DecidableEq, Repr

/-- How the media behave at a commit (15 R337, R340): the read-back agrees; the record's slot fails;
the slot fails and so does the spill ring; the slot fails and so does the retirement map. -/
inductive MediaOutcome | good | slotFails | spillFails | mapFails
  deriving DecidableEq, Repr

/-- The commands: the steps of spec/opcode_table.json, each whole and indivisible. -/
inductive Instr
  /-- VBAT_POWER_ON (R287). -/
  | vbatPowerOn
  /-- VBAT_POWER_LOSS (R287). -/
  | vbatPowerLoss
  /-- WAKE_REQUEST (R248). -/
  | wakeRequest (src : WakeSource)
  /-- WAKE_REQUEST_END (R289). -/
  | wakeRequestEnd
  /-- CORE_RESET_RELEASE (R291). -/
  | coreResetRelease
  /-- PLL_A_LOCK (R30). -/
  | pllALock
  /-- PLL_B_C_LOCK (R30). -/
  | pllBCLock (which : PllBC)
  /-- RESISTOR_CHECK_DONE (R151). -/
  | resistorCheckDone (up down : BitVec 68)
  /-- WAKE_TIMEOUT (R248). -/
  | wakeTimeout
  /-- REFERENCE_CLOCK_FAULT (R31). -/
  | referenceClockFault
  /-- PLL_C_LOCK_LOSS (R31). -/
  | pllCLockLoss
  /-- PLL_C_RETRY (R31). -/
  | pllCRetry (locked : Bool)
  /-- TRIM_UPDATE (R38). -/
  | trimUpdate
  /-- NRESET_ASSERT (R251). -/
  | nresetAssert
  /-- NRESET_RELEASE (R251). -/
  | nresetRelease
  /-- VAUX_GOOD (R299). -/
  | vauxGood
  /-- WRITE_INHIBIT (R300). -/
  | writeInhibit (vhold : BitVec 16)
  /-- POWER_FAIL_DETECT (R302). -/
  | powerFailDetect (vhold : BitVec 16) (fit : Nat)
  /-- SUPPLY_FAULT (R293). -/
  | supplyFault (mask : BitVec 5) (vhold : BitVec 16)
  /-- RAIL_RECOVERY (R292). -/
  | railRecovery (rail : Fin 5)
  /-- SLEEP_DELAY_EXPIRE (R289). -/
  | sleepDelayExpire
  /-- SLEEP (R289). -/
  | sleep
  /-- KEEP (R289). -/
  | keep (on : Bool)
  /-- HOLD_TEST_START (R306). -/
  | holdTestStart
  /-- HOLD_TEST_END (R306). -/
  | holdTestEnd (code : BitVec 16)
  /-- HOLD_TEST_TIMEOUT (R306). -/
  | holdTestTimeout
  /-- DERATE_EXIT (R249). -/
  | derateExit
  /-- ENSEMBLE_WAIT_TIMEOUT (R257). -/
  | ensembleWaitTimeout
  /-- DRIVER_ENABLE (R150). -/
  | driverEnable (d : Fin 4)
  /-- DRIVER_WAKE (R254). -/
  | driverWake (d : Fin 4)
  /-- PRECHARGE_TIMEOUT (R254). -/
  | prechargeTimeout (d : Fin 4)
  /-- MUTE_RAMP_END (R255). -/
  | muteRampEnd (d : Fin 4)
  /-- NMUTE_CHANGE (R255). -/
  | nmuteChange (low : Bool)
  /-- FAULTED_DWELL_END (R259). -/
  | faultedDwellEnd (d : Fin 4)
  /-- REPAIR_COUNT_CLEAR (R259). -/
  | repairCountClear (d : Fin 4)
  /-- OFF_RELEASE (R150). -/
  | offRelease (d : Fin 4)
  /-- SYS_REQ_HOLD (R250). -/
  | sysReqHold (on : Bool)
  /-- SYS_REQ_FIXED (R249). -/
  | sysReqFixed (on : Bool)
  /-- SYS_REQ_DERATE (R249). -/
  | sysReqDerate (on : Bool)
  /-- SYS_REQ_EMUTE (R256). -/
  | sysReqEmute (on : Bool)
  /-- SYS_REQ_MUTE (R255). -/
  | sysReqMute (mask : BitVec 4)
  /-- SYS_REQ_FLT (R258). -/
  | sysReqFlt (flt repair : BitVec 4)
  /-- RELOAD_START (R277). -/
  | reloadStart (d : Fin 4)
  /-- RELOAD_SECTION_DONE (R277). -/
  | reloadSectionDone (d : Fin 4)
  /-- RELOAD_END (R277). -/
  | reloadEnd (d : Fin 4)
  /-- IMG_RELOAD_REQUEST (R259). -/
  | imgReloadRequest (word : Word)
  /-- FLASH_DISCOVERY (R265). -/
  | flashDiscovery (p : FlashParams)
  /-- HEADER_READ_DONE (R273). -/
  | headerReadDone
  /-- TABLE_READ_DONE (R273). -/
  | tableReadDone
  /-- SECTION_READ_DONE (R273). -/
  | sectionReadDone
  /-- COPY_CLEAR_DONE (R273). -/
  | copyClearDone
  /-- LOAD_COMPLETE (R275). -/
  | loadComplete
  /-- AUTO_SELFTEST_STEP (R195). -/
  | autoSelftestStep (obs : SelfTestObs)
  /-- AUTO_SELFTEST_DONE (R195). -/
  | autoSelftestDone
  /-- MON_TEST_WRITE (R194). -/
  | monTestWrite (word : Word)
  /-- TEST_MODE_EFFECT (R194). -/
  | testModeEffect
  /-- FILTERED_LEVEL_CHANGE (R182). The levels that the input of a monitor takes one after another, in 1/1024 of a DAC step of the
  reference in force from the level of code 512 (R179), and whether the filters sample at each. -/
  | filteredLevelChange (m : Fin 42) (levels : List Int) (sampled : List Bool)
  /-- NFLT_LEVEL_CHANGE (R183). -/
  | nfltLevelChange (i : Fin 8) (samples : List Bool)
  /-- LATCH_CLEAR (R190). -/
  | latchClear (reg : LatchReg) (word : Word)
  /-- ASSERT_AFTER_DEADTIME (R147). -/
  | assertAfterDeadtime (d : Fin 4) (g : Fin 17)
  /-- SLOT_OWNER_FIX (R161). -/
  | slotOwnerFix
  /-- CONVERSION_RESULT (R164). -/
  | conversionResult (slot : Nat) (decisions : BitVec 18) (overload : Bool)
  /-- START_CALIBRATION_DONE (R166). -/
  | startCalibrationDone (cal : List SliceCal)
  /-- SWAP_REQUEST (R167). -/
  | swapRequest
  /-- NOW (R167). -/
  | now
  /-- SWAP_TAKES_EFFECT (R167). -/
  | swapTakesEffect
  /-- SLICE_CALIBRATION_DONE (R168). -/
  | sliceCalibrationDone (cal : SliceCal)
  /-- SCAN_CYCLE_START (R170). -/
  | scanCycleStart
  /-- ADC_INJ (R173). -/
  | adcInj (code : BitVec 8)
  /-- ADC_QDATA_READ (R172). The latch of the reader: 3e + x of an engine context, 48 + n of a DMA channel, 80 of the DSU. -/
  | adcQdataRead (latch : Fin 82)
  /-- REFERENCE_SELECT (R174). -/
  | referenceSelect (src : BitVec 2)
  /-- REFERENCE_SETTLED (R174). -/
  | referenceSettled
  /-- ADC_CORRS_COMMIT (R177). -/
  | adcCorrsCommit (code : BitVec 8) (word : Word)
  /-- SAMPLE_INSTANT (R62). -/
  | sampleInstant (d : Fin 4) (j : Fin 12)
  /-- LOOP_UPDATE (R59). -/
  | loopUpdate (d : Fin 4) (j : Fin 12)
  /-- MISS_DECISION (R76). -/
  | missDecision (d : Fin 4) (j : Fin 12)
  /-- BACKGROUND_JOB (R74). -/
  | backgroundJob (d : Fin 4)
  /-- BACKGROUND_JOB_DONE (R74). -/
  | backgroundJobDone (d : Fin 4)
  /-- FEED_INSTANT (R63). -/
  | feedInstant (d : Fin 4)
  /-- LFC_REF_WRITE (R63). -/
  | lfcRefWrite (d k : Fin 4) (word : Word)
  /-- SINGLE_SWAP (R81). -/
  | singleSwap (d : Fin 4) (mask : BitVec 12)
  /-- GROUP_SWAP (R82). -/
  | groupSwap (d : Fin 4) (mask : BitVec 12)
  /-- LFC_CM_WRITE (R69). -/
  | lfcCmWrite (d : Fin 4) (word : Word)
  /-- LFC_CS_WRITE (R69). -/
  | lfcCsWrite (d : Fin 4) (word : Word)
  /-- LFC_CS_READ (R69). -/
  | lfcCsRead (d : Fin 4)
  /-- LFC_SCRUB (R70). -/
  | lfcScrub (d : Fin 4) (j : Fin 12) (space : LfcSpace) (entry : Fin 90) (found : EccFound)
  /-- IMPEDANCE_START (R104). -/
  | impedanceStart (d : Fin 4) (word : Word)
  /-- LDEN_WRITE (R102). -/
  | ldenWrite (d : Fin 4) (word : Word)
  /-- PROFILE_UPDATE (R116). -/
  | profileUpdate (d : Fin 4)
  /-- PRF_TGT_WRITE (R18). -/
  | prfTgtWrite (d : Fin 4) (word : Word)
  /-- PRF_LIMIT_WRITE (R122). -/
  | prfLimitWrite (d : Fin 4) (which : PrfLimit) (word : Word)
  /-- PHASE_EVALUATION (R140). -/
  | phaseEvaluation (d : Fin 4)
  /-- EDGE_UPDATE (R135). -/
  | edgeUpdate (c : Fin 16)
  /-- MISSED_EDGE_ARM (R135). -/
  | missedEdgeArm (d : Fin 4) (j : Fin 12)
  /-- GATE_EDGE (R130). -/
  | gateEdge (d : Fin 4) (g : Fin 16)
  /-- HALF_CYCLE_START (R137). -/
  | halfCycleStart (d p : Fin 4)
  /-- TB_NOW_LO_READ (R37). -/
  | tbNowLoRead (master : Nat)
  /-- WEFT_SOF_SEND (R44). -/
  | weftSofSend
  /-- WEFT_FRAME_ARRIVE (R45). -/
  | weftFrameArrive (f : WeftFrame) (frac : Fin 16)
  /-- WEFT_FRAME_RETURN (R46). -/
  | weftFrameReturn (f : WeftFrame) (frac : Fin 16)
  /-- WEFT_FRAME_MISSING (R47). -/
  | weftFrameMissing
  /-- ETHERNET_FRAME_REJECTED (R229). -/
  | ethernetFrameRejected (why : FrameReject)
  /-- GPTP_SYNC (R41). -/
  | gptpSync (hdr : GptpHdr) (tbAt : Nat) (time : GptpTime) (rate : BitVec 32)
  /-- GPTP_ANNOUNCE (R230). -/
  | gptpAnnounce (a : AnnounceMsg)
  /-- PDELAY_REQ_SEND (R230). -/
  | pdelayReqSend
  /-- PDELAY_REQ_RECEIVED (R230), of a request that the MAC passes on; one that it drops is ETHERNET_FRAME_REJECTED (R229). -/
  | pdelayReqReceived
  /-- PDELAY_RESP_RECEIVED (R230). -/
  | pdelayRespReceived (eth : EthHdr) (found : PdelayResult)
  /-- SYNC_TIMEOUT (R231). -/
  | syncTimeout
  /-- HOLDOVER_END (R231). -/
  | holdoverEnd
  /-- AVTP_PACKET (R232). -/
  | avtpPacket (p : AvtpPacket)
  /-- FRAME_RELEASE (R234). -/
  | frameRelease (n : Fin 4)
  /-- ZERO_FILL (R236). -/
  | zeroFill (n : Fin 4)
  /-- STREAM_LOSS (R236). -/
  | streamLoss (n : Fin 4)
  /-- STREAM_ENABLE (R236). -/
  | streamEnable (n : Fin 4) (word : Word)
  /-- TDM_FRAME (R239). -/
  | tdmFrame (port : TdmPort) (line0 line1 : List Word) (clock : TdmClock)
  /-- TDM_LOSS (R240). -/
  | tdmLoss (port : TdmPort)
  /-- TDMB_MASTER_FRAME (R242). -/
  | tdmbMasterFrame
  /-- CONTROL_FRAME_RECEIVED (R351). -/
  | controlFrameReceived (a : CanArrival)
  /-- CONTROL_FRAME_TIMEOUT (R351). -/
  | controlFrameTimeout (i : Fin 32)
  /-- BUS_OFF (R348). -/
  | busOff (tec recv : BitVec 8)
  /-- ERROR_PASSIVE (R348). -/
  | errorPassive (tec recv : BitVec 8)
  /-- BUS_OFF_RECOVERY (R348). -/
  | busOffRecovery
  /-- TRANSPORT_TIMEOUT (R352). -/
  | transportTimeout (which : TpTimer)
  /-- RESPONSE_PENDING (R353). -/
  | responsePending (sid : BitVec 8)
  /-- S3_EXPIRE (R354). -/
  | s3Expire
  /-- DEFAULT_SESSION (R354). -/
  | defaultSession (q : ReqKind)
  /-- PROGRAMMING_SESSION (R354). -/
  | programmingSession (q : ReqKind)
  /-- EXTENDED_SESSION (R354). -/
  | extendedSession (q : ReqKind)
  /-- ECU_RESET (R355). -/
  | ecuReset (q : ReqKind)
  /-- ECU_RESET_DELAY (R355). -/
  | ecuResetDelay
  /-- CLEAR_DIAGNOSTIC_INFORMATION (R364). -/
  | clearDiagnosticInformation (q : ReqKind) (group : BitVec 24)
  /-- REPORT_NUMBER_OF_DTC (R362). -/
  | reportNumberOfDtc (q : ReqKind) (mask : BitVec 8)
  /-- REPORT_DTC_BY_STATUS_MASK (R362). -/
  | reportDtcByStatusMask (q : ReqKind) (mask : BitVec 8)
  /-- REPORT_DTC_EXT_DATA_RECORD (R362). -/
  | reportDtcExtDataRecord (q : ReqKind) (dtc : BitVec 24) (record : BitVec 8)
  /-- READ_DATA_BY_IDENTIFIER (R358). -/
  | readDataByIdentifier (q : ReqKind) (dids : List (BitVec 16))
  /-- READ_MEMORY_BY_ADDRESS (R360). -/
  | readMemoryByAddress (q : ReqKind) (fmt : BitVec 8) (addr size : Word)
  /-- REQUEST_SEED (R356). -/
  | requestSeed (q : ReqKind)
  /-- SEND_KEY (R356). -/
  | sendKey (q : ReqKind) (key : List Byte)
  /-- LOCKOUT_END (R357). -/
  | lockoutEnd
  /-- WRITE_DATA_BY_IDENTIFIER (R359). -/
  | writeDataByIdentifier (q : ReqKind) (did : BitVec 16) (data : List Byte)
  /-- IMPEDANCE_MEASURE_ROUTINE (R365). -/
  | impedanceMeasureRoutine (q : ReqKind) (c : BitVec 8) (zinc zamp : Word) (zcnt : BitVec 24)
  /-- TEST_TONE_ROUTINE (R365). -/
  | testToneRoutine (q : ReqKind) (c : BitVec 8) (zinc zamp : Word) (ms : BitVec 16)
  /-- DOMAIN_RELOAD_ROUTINE (R365). -/
  | domainReloadRoutine (q : ReqKind) (option : BitVec 8)
  /-- RECORDER_CLEAR_ROUTINE (R364). -/
  | recorderClearRoutine (q : ReqKind)
  /-- REQUEST_RESULTS (R366). -/
  | requestResults (q : ReqKind) (rid : BitVec 16) (c : BitVec 8)
  /-- STOP_ROUTINE (R365). -/
  | stopRoutine (q : ReqKind) (rid : BitVec 16)
  /-- REQUEST_DOWNLOAD (R280). -/
  | requestDownload (q : ReqKind) (dfi fmt : BitVec 8) (addr size : Word)
  /-- TRANSFER_DATA (R367). -/
  | transferData (q : ReqKind) (counter : BitVec 8) (data : List Byte)
  /-- REQUEST_TRANSFER_EXIT (R281). -/
  | requestTransferExit (q : ReqKind)
  /-- WRITE_MEMORY_BY_ADDRESS (R360). -/
  | writeMemoryByAddress (q : ReqKind) (fmt : BitVec 8) (addr size : Word) (data : List Byte)
  /-- TESTER_PRESENT (R355). -/
  | testerPresent (q : ReqKind)
  /-- DTC_SETTING_ON (R363). -/
  | dtcSettingOn (q : ReqKind)
  /-- DTC_SETTING_OFF (R363). -/
  | dtcSettingOff (q : ReqKind)
  /-- DRP_KICK (R325). -/
  | drpKick (word : Word)
  /-- DRIP_EXPIRE (R326). -/
  | dripExpire
  /-- DRIP_CLOCK_STOP (R324). -/
  | dripClockStop (which : DripClock)
  /-- HOLD_DRIP_CYCLE (R327). -/
  | holdDripCycle
  /-- TOKEN_REFILL (R335). -/
  | tokenRefill (code : BitVec 16)
  /-- FLOWSTONE_COMMIT (R337). -/
  | flowstoneCommit (media : MediaOutcome)
  /-- FLOWSTONE_SCAN_DONE (R341). -/
  | flowstoneScanDone
  /-- FLS_CLEAR (R344). -/
  | flsClear (tester : Bool)
  /-- CLEAR_TAKES_EFFECT (R344). -/
  | clearTakesEffect
  /-- FLS_CURSOR_WRITE (R342). -/
  | flsCursorWrite (word : Word)
  /-- FLS_COPY_DONE (R342). -/
  | flsCopyDone
  /-- FLS_DATA7_READ (R342). -/
  | flsData7Read
  /-- THERMAL_EVALUATION (R310). -/
  | thermalEvaluation
  /-- LAST_HEAT_RECORD (R318). -/
  | lastHeatRecord
  /-- ENG_RUN_SET (R200). -/
  | engRunSet (e : Fin 16)
  /-- ENG_RUN_CLEAR (R201). -/
  | engRunClear (e : Fin 16)
  /-- RSTRT (R222). -/
  | rstrt (e : Fin 16) (x : Fin 3)
  /-- POLICY_RESTART (R222). -/
  | policyRestart (e : Fin 16) (x : Fin 3)
  /-- TB_ACTIVATION (R202). -/
  | tbActivation (e : Fin 16) (x : Fin 3)
  /-- CONTEXT_SWITCH (R203). -/
  | contextSwitch (w : EngSwitch)
  /-- REGISTER_READ_RETURN (R204). -/
  | registerReadReturn (e : Fin 16) (x : Fin 3)
  /-- WAITT_RESUME (R208). -/
  | waittResume (e : Fin 16) (x : Fin 3)
  /-- DMA_BURST (R218). -/
  | dmaBurst (mover : Fin 4)
  /-- GALLERY_SCRUB (R212). -/
  | galleryScrub (word : Fin 524288) (found : EccFound)
  /-- WIN_MAP_WRITE (R225). -/
  | winMapWrite (word : Word)
  /-- DMA_CH_WRITE (R216). -/
  | dmaChWrite (n : Fin 32) (word : Word)
  /-- DMA_RST (R226). -/
  | dmaRst (mask : Word)
  /-- NOP (R208). -/
  | nop (e : Fin 16)
  /-- JMP (R208). -/
  | jmp (e : Fin 16)
  /-- CALL (R208). -/
  | call (e : Fin 16)
  /-- RET (R208). -/
  | ret (e : Fin 16)
  /-- LOOP (R208). -/
  | loop (e : Fin 16)
  /-- SKIP (R207). -/
  | skip (e : Fin 16)
  /-- WAIT (R202). -/
  | wait (e : Fin 16)
  /-- WAITT (R208). -/
  | waitt (e : Fin 16)
  /-- LDI (R208). -/
  | ldi (e : Fin 16)
  /-- MOV (R208). -/
  | mov (e : Fin 16)
  /-- ADD (R206). -/
  | add (e : Fin 16)
  /-- SUB (R206). -/
  | sub (e : Fin 16)
  /-- AND (R208). -/
  | and (e : Fin 16)
  /-- OR (R208). -/
  | or (e : Fin 16)
  /-- XOR (R208). -/
  | xor (e : Fin 16)
  /-- SHF (R208). -/
  | shf (e : Fin 16)
  /-- CMP (R207). -/
  | cmp (e : Fin 16)
  /-- LD (R214). -/
  | ld (e : Fin 16)
  /-- ST (R214). -/
  | st (e : Fin 16)
  /-- LDA (R208). -/
  | lda (e : Fin 16)
  /-- STA (R208). -/
  | sta (e : Fin 16)
  /-- MPY (R208). -/
  | mpy (e : Fin 16)
  /-- MAC2 (R208). -/
  | mac2 (e : Fin 16)
  /-- RND (R208). -/
  | rnd (e : Fin 16)
  /-- BIQ (R209). -/
  | biq (e : Fin 16)
  /-- FIR (R208). -/
  | fir (e : Fin 16)
  /-- DLW (R208). -/
  | dlw (e : Fin 16)
  /-- DLR (R208). -/
  | dlr (e : Fin 16)
  /-- GAIN (R208). -/
  | gain (e : Fin 16)
  /-- MIX (R208). -/
  | mix (e : Fin 16)
  /-- LIM (R209). -/
  | lim (e : Fin 16)
  /-- PKA (R209). -/
  | pka (e : Fin 16)
  /-- INTP (R209). -/
  | intp (e : Fin 16)
  /-- CPY (R208). -/
  | cpy (e : Fin 16)
  /-- CLR (R208). -/
  | clr (e : Fin 16)
  /-- SQA (R208). -/
  | sqa (e : Fin 16)
  /-- DMAI (R217). -/
  | dmai (e : Fin 16)
  /-- DMAW (R216). -/
  | dmaw (e : Fin 16)
  /-- CHK (R328). -/
  | chk (e : Fin 16)
  /-- EVT (R208). -/
  | evt (e : Fin 16)
  /-- SIG (R202). -/
  | sig (e : Fin 16)
  /-- FLG (R207). -/
  | flg (e : Fin 16)
  /-- TBR (R208). -/
  | tbr (e : Fin 16)
  /-- ILLEGAL_OPCODE (R221). -/
  | illegalOpcode (e : Fin 16)
  /-- REGISTER_WRITE (R11). -/
  | registerWrite (accesses : List RegAccess)
  /-- PHY_LINK (R230). -/
  | phyLink (up : Bool)
  /-- ERROR_ACTIVE (R348). -/
  | errorActive (tec recv : BitVec 8)
  /-- FIRST_FRAME (R352). -/
  | firstFrame (p : TpFrame)
  /-- FLOW_CONTROL_FRAME (R352). -/
  | flowControlFrame (bs stmin : BitVec 8)
  /-- SERVICE_NOT_SUPPORTED (R355). -/
  | serviceNotSupported (q : ReqKind) (sid : BitVec 8)
  /-- FLASH_PROGRAM_ERASE_DONE (R279). -/
  | flashProgramEraseDone
  /-- HOLD_ISLAND_LOST (R301). -/
  | holdIslandLost
  deriving DecidableEq, Repr

end Sys2Proof
end

