-- ==== Sys2Proof/Decode.lean ====
section
/-! DEFINITION. Decoding: the words of the opcode table. -/

namespace Sys2Proof

/-- The command that a word spells by the bits of the opcode table. The table gives no row any bits: no word spells one. -/
def decodeTableWord (_nbits _w : Nat) : Option Instr := none

end Sys2Proof
end

