-- ==== Sys2Proof/Config.lean ====
section
/-! DEFINITION. The free values: what the spec leaves open. Each is a constant without a body, so no proof can see it. -/

namespace Sys2Proof

/-- The lag of the ECLK copy of TB_NOW against its nominal value (02_time_base_and_clocks.md R35):
the corrected stamp lies within one tick of TB_NOW. Its remainder modulo 2 chooses the Drip clock edge that registers a write
(15_drip_and_flowstone.md R326). Applied to the model's counter of free values (log 8). -/
opaque Config.tbSkew : Nat → Nat

/-- The contents of a register whose value the spec calls not defined while a supply fault holds the
core in reset (13_supply_events.md R293), of a FeRAM slot that fails its CRC (15_drip_and_flowstone.md R342), and whatever word
an error of the host's own making leaves unpredictable (00_scope.md R7), by free-value count and place (log 4, log 8). -/
opaque Config.undefinedReg : Nat → Nat → Word

/-- Which of two trim entries equally near to a temperature counts as the nearest (02_time_base_and_clocks.md R38), by
free-value count; only its parity is used (log 8). -/
opaque Config.trimTie : Nat → Nat

/-- The presentation time, in ns, of an AVTP packet with tv = 0 that no packet of its stream precedes
(10_audio_inputs.md R232), by free-value count (log 8). -/
opaque Config.firstPt : Nat → Nat

end Sys2Proof
end

