-- ==== Sys2Proof/Machine/State.lean ====
section
/-! DEFINITION. Everything the spec gives the block, as plain data, the reasons a step can stop, and the state after reset.
A table that is empty stands for its reset contents: what an unlisted key holds is the default of Machine/Ops.lean.
Signals that the spec calls s32 are integers; every operation saturates them where the spec says so. -/

namespace Sys2Proof.Machine

/-- Why a step stops with a fault: no command does. After an error of the host's own making the machine goes on, and what the
affected function produces is left free (00_scope.md R7, R8; log 4). -/
inductive Fault
  deriving DecidableEq, Repr

/-- Why a command has no meaning. -/
inductive Refusal
  /-- Raised by an arm of exec for a command without a meaning in this model. Safe. -/
  | notModelled (mnemonic : String)
  deriving DecidableEq, Repr

/-- The twelve device modes (11_modes.md R246). -/
inductive Mode
  | off | standby | wake | load | selftest | precharge | play | playFixed | derate | crank | service | hold
  deriving DecidableEq, Repr

/-- The six domain states (11_modes.md R252). -/
inductive Dst | off | reload | precharge | active | muted | faulted
  deriving DecidableEq, Repr

/-- The level of a ball (06_edges_and_phases.md R149). -/
inductive Lvl | low | high | hiz
  deriving DecidableEq, Repr

/-- Factory and board-maker fuses (00_scope.md R1; 14_thermal.md R311). -/
structure Fuse where
  keyed : Bool := false
  key : BitVec 128 := 0
  bgref : Int := 19200
  tofs : Tbl Int := []
  trim : Tbl (BitVec 22) := []
  deriving DecidableEq, Repr

/-- The time base and the clocks (02_time_base_and_clocks.md R30 to R38). -/
structure TimeBase where
  now : Nat := 0
  latch : Tbl Word := []
  run : Bool := false
  retry : Bool := false
  trimIdx : Nat := 13
  trimFresh : Bool := true
  deriving DecidableEq, Repr

/-- The mode machine beyond its registers (11_modes.md R248 to R259). -/
structure Sys where
  mode : Mode := .off
  noImage : Bool := false
  sdHold : Bool := false
  deadHold : Bool := false
  wakeCycle : Bool := false
  derateHeld : Bool := false
  ensWaitOver : Bool := false
  nmuteLow : Bool := false
  past : Bool := false
  startNext : Nat := 0
  reloadQ : List Nat := []
  preSeq : Nat := 0
  deriving DecidableEq, Repr

/-- The supply functions beyond their registers (13_supply_events.md R287 to R306): among them whether VHOLD stands at 4.30 V, where what
has happened since it was last known fixes that, and whether the hold test is not run any more in this start. -/
structure Pwr where
  coreUp : Bool := false
  vbat : Bool := false
  vauxEn : Bool := false
  vauxGood : Bool := false
  wakeBall : Bool := false
  sleepLow : Bool := false
  supplyHeld : Bool := false
  nrstHeld : Bool := false
  pfd : Bool := true
  rails : BitVec 4 := 15
  pgx : Bool := true
  inh : Bool := false
  holdRdy : Option Bool := some false
  crRun : Nat := 0
  crExit : Option Nat := none
  crStart : Nat := 0
  crLow : Nat := 0
  htRun : Bool := false
  htOver : Bool := false
  charger : Bool := false
  sink : Bool := false
  vholdSrc : Bool := false
  saCnt : Nat := 0
  saLock : Bool := false
  deriving DecidableEq, Repr

/-- A requested reload: the copy it names and whether power-down is asked (11 R259, 12 R282). -/
structure RelReq where
  copy : Nat
  pdn : Bool
  deriving DecidableEq, Repr

/-- One domain (11 R252 to R259; 03 R61, R62; 04 R104; 06 R144, R150): with the winner before the tick of the last evaluations
(04 R90), the masters that last wrote LFC_CIDX and LFC_CM (03 R69), and the gates that protection controls (08 R192). -/
structure Dom where
  dst : Dst := .off
  t0 : Nat := 0
  seq : Nat := 0
  awake : Bool := false
  drvOn : Bool := false
  draining : Bool := false
  repair : Bool := false
  dwellOver : Bool := false
  refused : Bool := false
  relReq : Option RelReq := none
  railCnt : Nat := 0
  railGood : Bool := false
  gm : Nat := 0
  g0 : Nat := 0
  ts : Nat := 0
  rampDown : Bool := false
  rampOn : Bool := false
  isp : Tbl Int := []
  ispMiss : Tbl Bool := []
  railF : Option Int := none
  batF : Option Int := none
  vlP : Option Int := none
  shedCnt : Nat := 0
  cmHold : Word := 0
  zphi : Nat := 0
  zvs : Int := 0
  zvc : Int := 0
  zis : Int := 0
  zic : Int := 0
  zleft : Nat := 0
  zrun : Bool := false
  zopen : Bool := false
  jobRun : Option Nat := none
  winPrev : Int := 0
  winTick : Option Nat := none
  cOwn : Option Nat := none
  mOwn : Option Nat := none
  ovr : Nat := 0
  deriving DecidableEq, Repr

/-- What a sample leaves for its post-update (03 R59, R60, R76); fc holds the rail and battery values of a sample whose bank is still
to be latched, and from which f is then formed (03 R82). -/
structure Post where
  v : Int
  q1 : Int
  q2 : Int
  ua : Int
  r : Int
  f : Int
  e : Int
  clamped : Bool
  missed : Bool
  bank : Bool
  fc : Option (Int × Int) := none
  deriving DecidableEq, Repr

/-- A background job of a loop: the post-update part it carries (none for the first job), the instant of the sample it
prepares, and its deadline (03 R74). -/
structure Job where
  post : Option Post
  inst : Nat
  dl : Nat
  deriving DecidableEq, Repr

/-- One loop of the fabric (03 R59 to R83; 04 R87 to R102; 11 R255): the state space; the input combiner and the pre-sample
results; the open sample; jobs, banks and swaps; misses; monitors and degraded operation; the reference; load supervision;
the errors of the ECC by entry, 128 times the space plus the entry: 1 a single-bit error, 2 a double-bit error. -/
structure Loop where
  x : List Int := [0, 0, 0, 0, 0, 0]
  s11 : Int := 0
  s21 : Int := 0
  s12 : Int := 0
  s22 : Int := 0
  ua : Int := 0
  e : Int := 0
  r : Int := 0
  g : Int := 0
  d : Int := 0
  y : Int := 0
  yMiss : Bool := false
  yHave : Bool := false
  yGood : Int := 0
  yp : Int := 0
  acc : Int := 0
  preReady : Bool := false
  opn : Bool := false
  tS : Nat := 0
  rS : Int := 0
  fRail : Int := 0
  fBat : Int := 0
  posS : Int := 0
  bank : Bool := false
  jobQ : List Job := []
  swapT : Option Nat := none
  bankBad : BitVec 2 := 0
  bankFill : Tbl Nat := []
  missRun : Nat := 0
  missArm : Bool := false
  handed : Bool := false
  uLast : Int := 0
  uApp : Int := 0
  exWin : List Bool := []
  frzCnt : Nat := 0
  lostCnt : Nat := 0
  blank : Nat := 0
  lastY : Int := 0
  lastYp : Int := 0
  haveLast : Bool := false
  degTick : Nat := 0
  degCnt : Nat := 0
  ramp : Nat := 0
  heldU : Int := 0
  heldD : Int := 0
  ra : Int := 0
  rk : Int := 0
  rNew : Option Int := none
  tk : Nat := 0
  late : Bool := false
  ldp : Int := 0
  ldq : Int := 0
  ldw : Int := 0
  ldn : Nat := 0
  ldShort : Nat := 0
  ldOpen : Nat := 0
  ecc : Tbl Nat := []
  deriving DecidableEq, Repr

/-- A coefficient entry: mantissa and shift (03 R56, R66). -/
structure Coef where
  m : Word := 0
  s : BitVec 5 := 0
  deriving DecidableEq, Repr

/-- One profile generator (05_rail_tracking.md R110 to R122). -/
structure Prf where
  p : Int := 0
  v : Int := 0
  a : Int := 0
  dir : Int := 0
  started : Bool := false
  limV : Nat := 0x600
  limA : Nat := 0x240
  limJ : Nat := 0x6C00
  wrote : Bool := false
  noWr : Nat := 0
  dem : Nat := 0
  tLoc : Nat := 0
  rVL : Int := 0
  deriving DecidableEq, Repr

/-- An edge of a half-bridge: its absolute time in taps and the level it leads to (06 R134, R135). -/
structure Edge where
  at16 : Int
  rise : Bool
  deriving DecidableEq, Repr

/-- One audio lane (06 R133 to R136): the last duty and sign since RUN was set, the armed set, and the installed edges of P
and N that have not occurred yet, the earliest first. -/
structure Lane where
  duty : Option (Int × Int) := none
  armed : Option (Edge × Edge) := none
  pendP : List Edge := []
  pendN : List Edge := []
  deriving DecidableEq, Repr

/-- One supply phase (06 R128, R137 to R143): the last duty, the width armed and whether it is unused; the side to drive, offset,
target, and whether the half-cycle that runs is not at the target; the next start in taps, the last width, soft start, a pending
stop, and the end of a running pulse. -/
structure Phase where
  duty : Option Int := none
  armed : Option Int := none
  fresh : Bool := false
  sideB : Bool := false
  theta : Int := 0
  target : Int := 0
  glid : Bool := false
  startAt : Int := 0
  wo : Int := 0
  soft : Bool := false
  softK : Nat := 0
  stopPend : Bool := false
  pulsing : Bool := false
  endAt : Int := 0
  deriving DecidableEq, Repr

/-- The error states of a quantiser (06 R131). -/
structure Quant where
  e1 : Int := 0
  e2 : Int := 0
  deriving DecidableEq, Repr

/-- A ball of R149: its level, since when it stands at its safe level, the level the edge fabric asks for,
and whether an asserting change waits for its dead time (06 R146, R147). -/
structure Ball where
  lvl : Lvl := .hiz
  since : Nat := 0
  fab : Bool := false
  hold : Bool := false
  deriving DecidableEq, Repr

/-- Monitors and protection beyond their registers (08 R180 to R197): the comparators by 2m (LO) and 2m + 1 (HI), and the filter
histories. -/
structure Mon where
  cmp : Tbl Bool := []
  hist : Tbl (List Bool) := []
  released : Tbl Bool := []
  cond : Tbl Bool := []
  active : Tbl Bool := []
  live : Tbl Bool := []
  loopLat : Tbl Bool := []
  ensLat : Bool := false
  ensSrc : Bool := false
  ensDev : Nat := 0
  ensMask : Nat := 0
  testPend : Bool := false
  autoStep : Nat := 0
  autoBase : BitVec 84 := 0
  autoDac : Nat := 0
  autoRep : Nat := 0
  autoBad : Tbl Nat := []
  deriving DecidableEq, Repr

/-- A record of Flowstone (15_drip_and_flowstone.md R332). -/
structure FRec where
  seq : BitVec 32 := 0
  ts : BitVec 48 := 0
  code : BitVec 16 := 0
  sev : BitVec 2 := 0
  src : BitVec 6 := 0
  tally : Bool := false
  pl : Bool := false
  supp : BitVec 16 := 0
  data : List Byte := []
  deriving DecidableEq, Repr

/-- A slot of the FeRAM: blank, a record, or contents that fail their CRC (15 R337, R398). -/
inductive Slot | blank | rcd (r : FRec) | bad
  deriving DecidableEq, Repr

/-- A token bucket (15 R335). Every bucket starts full with the reset depth 8 of FLS_RATE. -/
structure Bucket where
  tok : Nat := 8
  ms : Nat := 0
  supp : Nat := 0
  deriving DecidableEq, Repr

/-- An entry of the event table of the image (15 R335). -/
structure EvtEntry where
  code : Nat
  dis : Bool
  p : Nat
  b : Nat
  deriving DecidableEq, Repr

/-- The counter block (15 R339). -/
structure Counters where
  nextSeq : BitVec 32 := 1
  clrSeq : BitVec 32 := 0
  starts : Nat := 0
  dropNe : Nat := 0
  dropStg : Nat := 0
  suppr : Nat := 0
  nret : Nat := 0
  deriving DecidableEq, Repr

/-- A shut-down as it was decided, for its record (14_thermal.md R318). -/
structure Heat where
  at_ : Nat
  cause : Nat
  input : Nat
  q : Int
  max : Int
  brk : Nat
  win : Nat
  mode : Nat
  deriving DecidableEq, Repr

/-- Drip and Flowstone beyond their registers (15 R323 to R344, R398). The FeRAM: main ring, tally and
spill slots, both copies of the counter block and of the retirement map (none: the copy fails its CRC). The last-heat records that
wait are listed oldest first (14 R318). -/
structure Fls where
  dripOn : Bool := false
  dripSub : Nat := 0
  csrc : Bool := false
  dripExp : Nat := 0
  unexp : Nat := 0
  dripSkip : Nat := 0
  stage : List FRec := []
  mirror : List FRec := []
  main : Tbl Slot := []
  tal : Tbl Slot := []
  cnt : Counters := {}
  cntA : Option Counters := some {}
  cntB : Option Counters := some {}
  cntNext : Bool := false
  retired : List Nat := []
  mapA : Option (List Nat) := some []
  mapB : Option (List Nat) := some []
  lastSeq : BitVec 32 := 0
  startSeq : BitVec 32 := 1
  buckets : Tbl Bucket := []
  evt : List EvtEntry := []
  evtOn : Bool := false
  scanPend : Bool := false
  scanStart : Bool := false
  clrTester : Bool := false
  copyPend : Bool := false
  heat : List Heat := []
  deriving DecidableEq, Repr

/-- What a context waits for (09_zuelm_engines_and_gallery.md R208). -/
inductive WaitOn | dma (ch : Nat) | tb (t : Word)
  deriving DecidableEq, Repr

/-- A level of the loop stack: the first and the last index of the body and the passes left (09 R208). -/
structure LoopLvl where
  first : Nat
  last : Nat
  left : Nat
  deriving DecidableEq, Repr

/-- The shadow bank of a context (09 R200 to R207). Register reads in flight are listed oldest first: the target register and the
word on its way, none while the read waits in the register queue. Of a block instruction that was stopped: the steps done, and
the partial accumulator. parBad: a word of the bank fails its parity. -/
structure Ctx where
  g : Tbl Word := []
  acc : Tbl Int := []
  z : Bool := false
  n : Bool := false
  c : Bool := false
  v : Bool := false
  sat : Bool := false
  u : BitVec 4 := 0
  dbsy : Bool := false
  derr : Bool := false
  pc : Nat := 0
  rets : List Nat := []
  loops : List LoopLvl := []
  prog : Nat := 0
  part : Int := 0
  parBad : Bool := false
  pend : Bool := false
  wait : Option WaitOn := none
  rd : List (Nat × Option Word) := []
  deriving DecidableEq, Repr

/-- An access in a register queue: an address, and the word of a write; a read that the context still waits for names it
(09 R198, R204). -/
structure QAcc where
  addr : Nat
  word : Option Word
  ctx : Option Nat := none
  deriving DecidableEq, Repr

/-- A window descriptor: the words of WIN_DESC and WIN_MAP (09 R213, R225). -/
structure Win where
  desc : Word := 0
  map : Word := 0
  deriving DecidableEq, Repr

/-- A transfer of a DMA channel (09 R216 to R220). -/
structure Dma where
  cnt : Nat := 0
  sstr : Int := 0
  dstr : Int := 0
  deriving DecidableEq, Repr

/-- Engines, Gallery, windows and DMA beyond their registers (09 R198 to R226; 01_signal_to_speaker.md R21).
A context is keyed 3e + x, a descriptor 16 (3e + x) + i; the running context of engine e is kept as x + 1. The register queues are
keyed by master index, oldest first. The errors of the ECC are kept by 64-bit word: 1 a single-bit error and 2 a double-bit error
that nothing has found, 3 a poisoned word. pkaW is the length with which a PKA state of an engine was built. -/
structure Eng where
  ctxs : Tbl Ctx := []
  run : Tbl Nat := []
  wins : Tbl Win := []
  winHold : Word := 0
  dmas : Tbl Dma := []
  movers : Tbl Nat := []
  regQ : Tbl (List QAcc) := []
  rhoR : Nat := 0
  rhoBank : Tbl Nat := []
  ecc : Tbl Nat := []
  pkaW : Tbl Nat := []
  deriving DecidableEq, Repr

/-- The Weft link beyond its registers (02 R44 to R50): the latest good frames, newest first; missing and good frames in a row,
errors and ring delays of the block of 16 that runs, the frame counter, whether TB_NOW was loaded, a mute request of another
device, the published hop delay in 1/16 tick, and the frame last sent. -/
structure Ens where
  frames : List WeftFrame := []
  miss : Nat := 0
  good : Nat := 0
  errs : List Int := []
  rtts : List Nat := []
  seq : BitVec 8 := 0
  loaded : Bool := false
  mute : Bool := false
  hop : Option Nat := none
  sent : Option WeftFrame := none
  deriving DecidableEq, Repr

/-- What the loader does (12_image_and_start.md R273 to R277). -/
inductive LdrPhase | idle | discover | header (copy : Nat) | table | sect | clear | complete | rldTable | rldSection | rldEnd
  deriving DecidableEq, Repr

/-- A RequestDownload: how it came and its operands (12 R280). -/
structure DlReq where
  kind : ReqKind
  dfi : BitVec 8
  fmt : BitVec 8
  addr : Word
  size : Word
  deriving DecidableEq, Repr

/-- A request of a download that waits for the end of a reload (12 R279). -/
inductive DlWait
  | request (r : DlReq)
  | data (q : ReqKind) (ctr : BitVec 8) (data : List Byte)
  | exit (q : ReqKind)
  deriving DecidableEq, Repr

/-- The image loader, the flash and a download beyond their registers (12 R264 to R282). The headers that passed are a
mask of copies; the copies still to try are listed in order; touched lists the registers that records of the copy wrote. -/
structure Img where
  flash : Tbl Byte := []
  par : FlashParams :=
    { sfdp := false, dens := 0, dtr144 := none, m144 := none, m114 := none, suspend := none, page := 0, erase := [], statusWrite := false }
  fBusy : Bool := false
  fSusp : Bool := false
  phase : LdrPhase := .idle
  hdrs : Nat := 0
  order : List Nat := []
  copy : Nat := 0
  idx : Nat := 0
  touched : List Nat := []
  hcrcA : Nat := 0
  hcrcB : Nat := 0
  compat : Option Nat := none
  rld : Option Nat := none
  rldT0 : Nat := 0
  actNext : Nat := 0
  dlSize : Nat := 0
  dlCopy : Nat := 0
  dlCtr : BitVec 8 := 0
  dlBuf : List Byte := []
  dlGot : Bool := false
  dlWait : Option DlWait := none
  ids : List Byte := []
  ctl : List Byte := []
  deriving DecidableEq, Repr

/-- The calibration of a slice (07_feedback_converter.md R162, R168): offset, gain deviation, eighteen bit weights, skew trim. -/
structure Cal where
  ofs : Int := 0
  gndev : Int := 0
  w : List Int := []
  skew : Int := 0
  deriving DecidableEq, Repr

/-- Who owns a slot (07 R161): a frame-table entry (of a pair, its first or second slot), an injected conversion with its
origin (0 register write, 1 hold test, 2 self-test), a scan conversion with its QEN, or nobody. -/
inductive Owner
  | frame (i : Nat) (second : Bool)
  | injected (code org : Nat)
  | scan (code : Nat) (qen : Bool)
  | idle
  deriving DecidableEq, Repr

/-- A conversion whose owner is fixed and whose result has not come (07 R161); cor is the channel correction of one that ran when its
code was given another (07 R177). -/
structure Conv where
  slot : Nat
  slice : Nat
  own : Owner
  cor : Option (Coef × Int) := none
  deriving DecidableEq, Repr

/-- An injection, pending until the slot that serves it starts (07 R169, R173). -/
structure Inj where
  code : Nat
  org : Nat
  marked : Bool
  slot : Option Nat := none
  deriving DecidableEq, Repr

/-- The feedback converter beyond its registers (07 R155 to R176). Latent errors of the ECC are kept by entry: i for the frame
table, 256 + code for a correction, 512 + s for a calibration; 1 a single-bit error, 2 a double-bit error not yet found,
3 a double-bit error found. -/
structure Adc where
  cals : Tbl Cal := []
  calNew : Option Cal := none
  convs : List Conv := []
  settle : List (Nat × Nat) := []
  pairs : Tbl (Option (Nat × Int × Bool)) := []
  inj : List Inj := []
  queue : List (Word × Nat) := []
  qts : Tbl Word := []
  scanLeft : List (Nat × Bool) := []
  scanOut : Nat := 0
  scanPend : Bool := false
  startSlot : Nat := 0
  spareOk : Bool := false
  swapWait : Bool := false
  swapAt : Nat := 0
  lost : List Nat := []
  refAt : Option Int := none
  refNext : Option Nat := none
  corrHold : Word := 0
  hkX : Tbl Int := []
  hkNew : Tbl Bool := []
  bg : Option Int := none
  ts7 : Option Int := none
  ecc : Tbl Nat := []
  deriving DecidableEq, Repr

/-- A level filter of the thermal block: the last fifteen bits and the filtered state (14_thermal.md R313). -/
structure Filt where
  bits : Nat := 0
  on : Bool := false
  deriving DecidableEq, Repr

/-- The thermal block beyond its registers (14 R310 to R320). A filter is keyed 4 i + k for input i: k = 0 warning,
1 throttle, 2 shut-down, 3 rise. -/
structure Thm where
  filt : Tbl Filt := []
  hist : Tbl (List (Option Int)) := []
  noS : Tbl Nat := []
  last : Tbl Int := []
  stepCnt : Nat := 0
  recov : Bool := false
  sdTimes : List Nat := []
  recEnd : Nat := 0
  deriving DecidableEq, Repr

/-- A stored packet of a stream: its arrival tick, its frames still to release with their release ticks, and whether LATE
has counted it (10_audio_inputs.md R233 to R235). -/
structure Pkt where
  n : Nat
  arr : Nat
  frames : List (Int × List Word)
  late : Bool
  deriving DecidableEq, Repr

/-- A stream beyond its registers (10 R232 to R237): presentation time and length of the previous packet, its sequence
number, the last release tick, the span of the ratio, and the release ticks of frames dropped since the span began. -/
structure Strm where
  pt : Option Int := none
  cnt : Nat := 0
  seqNo : Option (BitVec 8) := none
  last : Option Nat := none
  t0 : Option Nat := none
  span : Nat := 0
  drops : List Int := []
  deriving DecidableEq, Repr

/-- The T1 port beyond its registers (10 R228 to R237). -/
structure Net where
  syncs : Nat := 0
  gm : Option (BitVec 64) := none
  delay : Nat := 0
  pdelaySent : Nat := 0
  pdelayAnswered : Nat := 0
  strms : Tbl Strm := []
  pkts : List Pkt := []
  deriving DecidableEq, Repr

/-- A TDM port beyond its registers (10 R239 to R242): the stamp of the last FS and what the crossing added to it, the run of good frames, the span of the
ratio, and of TDM-B the words latched for the output slots. -/
structure Tdm where
  last : Option Nat := none
  skew : Int := 0
  good : Nat := 0
  t0 : Option Nat := none
  span : Nat := 0
  out : List Word := []
  deriving DecidableEq, Repr

/-- A diagnostic message in reception, in FD frames or classical ones, and the consecutive frames until the next flow control (16_service_and_vehicle_bus.md R352). -/
structure TpRx where
  len : Nat
  buf : List Byte
  sn : Nat
  left : Nat
  fd : Bool
  deriving DecidableEq, Repr

/-- A diagnostic message in transmission: the bytes still to send, the sequence number of the next consecutive frame, and whether
it goes in FD frames (16 R352). -/
structure TpTx where
  rest : List Byte
  sn : Nat
  fd : Bool
  deriving DecidableEq, Repr

/-- A frame that the port sends: its identifier in base format, whether it is an FD frame and switches the bit rate, and its bytes
with the padding (16 R348, R352). -/
structure CanSent where
  id : Nat
  fd : Bool
  brs : Bool
  data : List Byte
  deriving DecidableEq, Repr

/-- A request whose final response is still to come (16 R353, R364): its service and how it came. -/
structure PendReq where
  sid : Nat
  kind : ReqKind
  deriving DecidableEq, Repr

/-- The diagnostic service unit beyond its registers (16 R352 to R367): the last response, the request pending, the seed,
messages in reception and transmission, the flow control last sent, the frames last sent, a reset to come, results of routine
0xFE00 by channel, routines started. A running measurement of a routine is kept by channel: 1 for 0xFE00, 2 for 0xFE01; 3 and 4
once it has ended. -/
structure Dsu where
  rsp : List Byte := []
  pend : Option PendReq := none
  seed : Option (List Byte) := none
  rx : Option TpRx := none
  tx : Option TpTx := none
  fc : List Byte := []
  out : List CanSent := []
  resetPend : Bool := false
  zrout : Tbl Nat := []
  zres : Tbl (List Byte) := []
  started : Tbl Bool := []
  deriving DecidableEq, Repr

/-- The state of the block. -/
structure State where
  fuse : Fuse := {}
  regs : Tbl Word := []
  mem : List Host.Cell := []
  tb : TimeBase := {}
  sys : Sys := {}
  pwr : Pwr := {}
  doms : Tbl Dom := []
  loops : Tbl Loop := []
  coefs : Tbl Coef := []
  prfs : Tbl Prf := []
  lanes : Tbl Lane := []
  phases : Tbl Phase := []
  quants : Tbl Quant := []
  balls : Tbl Ball := []
  mon : Mon := {}
  fls : Fls := {}
  eng : Eng := {}
  ens : Ens := {}
  img : Img := {}
  adc : Adc := {}
  thm : Thm := {}
  net : Net := {}
  tdms : Tbl Tdm := []
  dsu : Dsu := {}
  freeCtr : Nat := 0
  pending : List Instr := []
  deriving DecidableEq, Repr

/-- The machine right after reset: no supply on VBAT, the mode OFF, nothing waiting. -/
def State.reset : State := {}

end Sys2Proof.Machine
end

