-- ==== Sys2Proof/Machine/Arith.lean ====
section
/-! DEFINITION. Saturation, rounding, coefficients and byte order: the arithmetic shared by the blocks. -/

namespace Sys2Proof.Machine

/-- The nearest value within bounds. -/
def clampI (lo hi x : Int) : Int := if x < lo then lo else if hi < x then hi else x

/-- Saturation to s16. -/
def sat16 (x : Int) : Int := clampI (-32768) 32767 x

/-- Saturation to s32 (03_kareo_loop_fabric.md R57). -/
def sat32 (x : Int) : Int := clampI (-2147483648) 2147483647 x

/-- Saturation to s64. -/
def sat64 (x : Int) : Int := clampI (-9223372036854775808) 9223372036854775807 x

/-- Saturation to 80 bits (03 R56). -/
def sat80 (x : Int) : Int := clampI (-604462909807314587353088) 604462909807314587353087 x

/-- Saturation of an unsigned count. -/
def satN (hi x : Nat) : Nat := if hi < x then hi else x

/-- Arithmetic shift right: the quotient rounded down. -/
def asr (x : Int) (n : Nat) : Int := x / (2 ^ n : Nat)

/-- The s32 that a word holds. -/
def s32 (w : Word) : Int := w.toInt

/-- The word that holds an s32. -/
def w32 (x : Int) : Word := BitVec.ofInt 32 x

/-- The signed value of the low n bits. -/
def signedN (n v : Nat) : Int :=
  if 2 * (v % 2 ^ n) < 2 ^ n then (v % 2 ^ n : Nat) else ((v % 2 ^ n : Nat) : Int) - (2 ^ n : Nat)

/-- The low n bits of a signed value. -/
def bitsN (n : Nat) (x : Int) : Nat := (x % (2 ^ n : Nat)).toNat

/-- Division rounded half up, for a divisor above 0. -/
def divHU (x : Int) (d : Nat) : Int := (2 * x + d) / (2 * d : Nat)

/-- An 80-bit accumulator with its saturation mark (03 R56). -/
structure Acc where
  v : Int
  sat : Bool
  deriving DecidableEq, Repr

/-- One addition into an accumulator (03 R56). -/
def accAdd (a : Acc) (x : Int) : Acc :=
  let p := sat80 x
  let t := a.v + p
  { v := sat80 t, sat := a.sat || p ≠ x || sat80 t ≠ t }

/-- The shifted product of a coefficient and a signal (03 R56). -/
def coefMul (c : Coef) (x : Int) : Int := s32 c.m * x * (2 ^ c.s.toNat : Nat)

/-- Products added in the order given, after an initial value (03 R56). -/
def accSum (a : Acc) : List (Coef × Int) → Acc
  | [] => a
  | (c, x) :: t => accSum (accAdd a (coefMul c x)) t

/-- A value leaving an accumulator before its saturation: rounded half up (03 R57). -/
def rndRaw (a : Int) : Int := (a + 1073741824) / 2147483648

/-- The rounding of R57 with its saturation (03 R57). -/
def rnd (a : Int) : Int := sat32 (rndRaw a)

/-- The rounding saturated (03 R57). -/
def rndSat (a : Int) : Bool := rndRaw a ≠ rnd a

/-- n bytes of a value, little-endian (00_scope.md R9). -/
def le : Nat → Nat → List Byte
  | 0, _ => []
  | n + 1, v => BitVec.ofNat 8 v :: le n (v / 256)

/-- The value of little-endian bytes. -/
def leVal : List Byte → Nat
  | [] => 0
  | b :: t => b.toNat + 256 * leVal t

/-- The value of big-endian bytes. -/
def beVal (l : List Byte) : Nat := leVal l.reverse

/-- n bytes of a value, big-endian. -/
def be (n v : Nat) : List Byte := (le n v).reverse

/-- Bit i of a value. -/
def bitAt (v i : Nat) : Bool := v.testBit i

/-- A value with bit i set to b. -/
def setBit (v i : Nat) (b : Bool) : Nat :=
  if v.testBit i = b then v else if b then v + 2 ^ i else v - 2 ^ i

/-- A group of n bits at position i of a value. -/
def bitsAt (v i n : Nat) : Nat := v / 2 ^ i % 2 ^ n

/-- A value with n bits at position i replaced. -/
def setBits (v i n x : Nat) : Nat := v - bitsAt v i n * 2 ^ i + x % 2 ^ n * 2 ^ i

/-- The number of bits set among the low n. -/
def popN : Nat → Nat → Nat
  | 0, _ => 0
  | n + 1, v => (if v.testBit n then 1 else 0) + popN n v

/-- The lowest bit set among the low n. -/
def lowBit (n v : Nat) : Option Nat := (List.range n).find? (fun i => v.testBit i)

/-- A truth value as a bit. -/
def b2n (b : Bool) : Nat := if b then 1 else 0

/-- The code of a mode in SYS_MODE (11_modes.md R246). -/
def modeCode : Mode → Nat
  | .off => 0 | .standby => 1 | .wake => 2 | .load => 3 | .selftest => 4 | .precharge => 5 | .play => 6
  | .playFixed => 7 | .derate => 8 | .crank => 9 | .service => 10 | .hold => 11

/-- The running modes (11 R246). -/
def modeRunning : Mode → Bool
  | .play | .playFixed | .derate | .crank | .service => true
  | _ => false

/-- PRECHARGE and the running modes, in which domains may leave OFF (11 R246). -/
def modeOpen (m : Mode) : Bool := m == .precharge || modeRunning m

/-- RWL fields are writable until the device leaves LOAD (00 R11). -/
def modeRwl : Mode → Bool
  | .off | .standby | .wake | .load => true
  | _ => false

/-- The code of a domain state in SYS_MODE.DST (11 R252). -/
def dstCode : Dst → Nat
  | .off => 0 | .reload => 1 | .precharge => 2 | .active => 3 | .muted => 4 | .faulted => 5

/-- PRECHARGE, ACTIVE and MUTED: the states in which a domain's planner and phase manager run. -/
def dstRuns : Dst → Bool
  | .precharge | .active | .muted => true
  | _ => false

end Sys2Proof.Machine
end

