-- ==== Sys2Proof/Machine/Crc.lean ====
section
/-! DEFINITION. The CRC-16 of Flowstone and of the Weft link (15_drip_and_flowstone.md R332; 02 R44) and the CRC-32 of the
image (12_image_and_start.md R270). -/

namespace Sys2Proof.Machine

/-- n steps of a CRC that shifts left, over 16 bits. -/
def crc16Bits : Nat → Nat → Nat
  | 0, c => c
  | n + 1, c => crc16Bits n (if c < 32768 then c * 2 else (c * 2 % 65536) ^^^ 0x1021)

/-- CRC-16, polynomial 0x1021, from a running value. -/
def crc16From : Nat → List Byte → Nat
  | c, [] => c
  | c, b :: t => crc16From (crc16Bits 8 (c ^^^ (b.toNat * 256))) t

/-- CRC-16, polynomial 0x1021, initial value 0xFFFF. -/
def crc16 (l : List Byte) : Nat := crc16From 0xFFFF l

/-- n steps of a CRC that shifts right, over 32 bits: polynomial 0x04C1_1DB7 reflected. -/
def crc32Bits : Nat → Nat → Nat
  | 0, c => c
  | n + 1, c => crc32Bits n (if c % 2 = 0 then c / 2 else (c / 2) ^^^ 0xEDB88320)

/-- CRC-32 from a running value. -/
def crc32From : Nat → List Byte → Nat
  | c, [] => c
  | c, b :: t => crc32From (crc32Bits 8 (c ^^^ b.toNat)) t

/-- The CRC-32 of IEEE 802.3 (12 R270). -/
def crc32 (l : List Byte) : Nat := crc32From 0xFFFFFFFF l ^^^ 0xFFFFFFFF

end Sys2Proof.Machine
end

