-- ==== Sys2Proof/Machine/Tbl.lean ====
section
/-! DEFINITION. Reading and writing a sparse table: the one home of its canonical form. -/

namespace Sys2Proof.Machine

/-- The entry at a key, or what an unlisted key holds. -/
def tblGet {α : Type} (dflt : Nat → α) : Tbl α → Nat → α
  | [], k => dflt k
  | (a, v) :: t, k => if a = k then v else tblGet dflt t k

/-- The table without any entry at a key. -/
def tblErase {α : Type} : Tbl α → Nat → Tbl α
  | [], _ => []
  | (a, v) :: t, k => if a = k then tblErase t k else (a, v) :: tblErase t k

/-- The table with an entry put at a key, in rising order. -/
def tblPut {α : Type} : Tbl α → Nat → α → Tbl α
  | [], k, x => [(k, x)]
  | (a, v) :: t, k, x =>
    if a = k then (k, x) :: t
    else if k < a then (k, x) :: (a, v) :: t
    else (a, v) :: tblPut t k x

/-- Writing a key: the value an unlisted key holds removes the entry, so that equal contents are equal data. -/
def tblSet {α : Type} [DecidableEq α] (dflt : Nat → α) (t : Tbl α) (k : Nat) (x : α) : Tbl α :=
  if x = dflt k then tblErase t k else tblPut t k x

/-- Changing the entry at a key. -/
def tblMod {α : Type} [DecidableEq α] (dflt : Nat → α) (t : Tbl α) (k : Nat) (f : α → α) : Tbl α :=
  tblSet dflt t k (f (tblGet dflt t k))

/-- Every key of a table lies above a bound. -/
def tblAbove {α : Type} (b : Nat) : Tbl α → Bool
  | [] => true
  | (a, _) :: t => decide (b < a) && tblAbove b t

/-- The canonical form: keys strictly rising, and no entry equal to what an unlisted key holds. -/
def tblWf {α : Type} [DecidableEq α] (dflt : Nat → α) : Tbl α → Bool
  | [] => true
  | (a, v) :: t => tblAbove a t && decide (v ≠ dflt a) && tblWf dflt t

end Sys2Proof.Machine
end

