-- ==== Sys2Proof/Machine/RegMap.lean ====
section
/-! DEFINITION. The register map: one constant per field of every register of the spec's register tables,
and the rows by block with access codes and reset values. -/

namespace Sys2Proof.Machine

/-- SYS_ID (00_scope.md R2). -/
def R.SYS_ID.at : Nat := 0x40000000
def R.SYS_ID.PART : Fld := ⟨R.SYS_ID.at, 31, 16⟩
def R.SYS_ID.SREV : Fld := ⟨R.SYS_ID.at, 15, 12⟩
def R.SYS_ID.GRADE : Fld := ⟨R.SYS_ID.at, 11, 8⟩
def R.SYS_ID.VARIANT : Fld := ⟨R.SYS_ID.at, 7, 4⟩
def R.SYS_ID.AUTH_EN : Fld := ⟨R.SYS_ID.at, 0, 0⟩

/-- SYS_MODE (11_modes.md R262). -/
def R.SYS_MODE.at : Nat := 0x40000004
def R.SYS_MODE.DST : Fld := ⟨R.SYS_MODE.at, 27, 16⟩
def R.SYS_MODE.PREV : Fld := ⟨R.SYS_MODE.at, 11, 8⟩
def R.SYS_MODE.MODE : Fld := ⟨R.SYS_MODE.at, 3, 0⟩

/-- SYS_RSTCAUSE (11_modes.md R262). -/
def R.SYS_RSTCAUSE.at : Nat := 0x40000008
def R.SYS_RSTCAUSE.RCNT : Fld := ⟨R.SYS_RSTCAUSE.at, 31, 24⟩
def R.SYS_RSTCAUSE.RMODE : Fld := ⟨R.SYS_RSTCAUSE.at, 15, 12⟩
def R.SYS_RSTCAUSE.WAKEF : Fld := ⟨R.SYS_RSTCAUSE.at, 8, 8⟩
def R.SYS_RSTCAUSE.WAKEUP : Fld := ⟨R.SYS_RSTCAUSE.at, 7, 7⟩
def R.SYS_RSTCAUSE.ECU : Fld := ⟨R.SYS_RSTCAUSE.at, 6, 6⟩
def R.SYS_RSTCAUSE.NRST : Fld := ⟨R.SYS_RSTCAUSE.at, 5, 5⟩
def R.SYS_RSTCAUSE.DRIP : Fld := ⟨R.SYS_RSTCAUSE.at, 4, 4⟩
def R.SYS_RSTCAUSE.CLK : Fld := ⟨R.SYS_RSTCAUSE.at, 3, 3⟩
def R.SYS_RSTCAUSE.VAUXL : Fld := ⟨R.SYS_RSTCAUSE.at, 2, 2⟩
def R.SYS_RSTCAUSE.POR : Fld := ⟨R.SYS_RSTCAUSE.at, 0, 0⟩

/-- SYS_REQ (11_modes.md R262). -/
def R.SYS_REQ.at : Nat := 0x4000000C
def R.SYS_REQ.HOLD : Fld := ⟨R.SYS_REQ.at, 31, 31⟩
def R.SYS_REQ.FIXED : Fld := ⟨R.SYS_REQ.at, 30, 30⟩
def R.SYS_REQ.DERATE : Fld := ⟨R.SYS_REQ.at, 29, 29⟩
def R.SYS_REQ.EMUTE : Fld := ⟨R.SYS_REQ.at, 28, 28⟩
def R.SYS_REQ.FLTR : Fld := ⟨R.SYS_REQ.at, 27, 24⟩
def R.SYS_REQ.FLT : Fld := ⟨R.SYS_REQ.at, 23, 20⟩
def R.SYS_REQ.MUTE : Fld := ⟨R.SYS_REQ.at, 19, 16⟩

/-- SYS_DCFG (11_modes.md R262). -/
def R.SYS_DCFG.at : Nat := 0x40000010
def R.SYS_DCFG.REPMAX : Fld := ⟨R.SYS_DCFG.at, 31, 28⟩
def R.SYS_DCFG.MRAMP : Fld := ⟨R.SYS_DCFG.at, 27, 24⟩
def R.SYS_DCFG.PRETMO : Fld := ⟨R.SYS_DCFG.at, 23, 16⟩
def R.SYS_DCFG.PRETOL : Fld := ⟨R.SYS_DCFG.at, 15, 8⟩
def R.SYS_DCFG.FDWELL : Fld := ⟨R.SYS_DCFG.at, 7, 4⟩
def R.SYS_DCFG.DEN : Fld := ⟨R.SYS_DCFG.at, 3, 0⟩

/-- SYS_DSTAT (11_modes.md R262). -/
def R.SYS_DSTAT.at : Nat := 0x40000014
def R.SYS_DSTAT.RPCNT : Fld := ⟨R.SYS_DSTAT.at, 31, 16⟩
def R.SYS_DSTAT.RQ : Fld := ⟨R.SYS_DSTAT.at, 15, 12⟩
def R.SYS_DSTAT.FCAUSE : Fld := ⟨R.SYS_DSTAT.at, 11, 0⟩

/-- CLK_STAT (02_time_base_and_clocks.md R52). -/
def R.CLK_STAT.at : Nat := 0x40001000
def R.CLK_STAT.TRIMHOLD : Fld := ⟨R.CLK_STAT.at, 4, 4⟩
def R.CLK_STAT.XOK : Fld := ⟨R.CLK_STAT.at, 3, 3⟩
def R.CLK_STAT.PLLC_LOCK : Fld := ⟨R.CLK_STAT.at, 2, 2⟩
def R.CLK_STAT.PLLB_LOCK : Fld := ⟨R.CLK_STAT.at, 1, 1⟩
def R.CLK_STAT.PLLA_LOCK : Fld := ⟨R.CLK_STAT.at, 0, 0⟩

/-- CLK_CFG (02_time_base_and_clocks.md R52). -/
def R.CLK_CFG.at : Nat := 0x40001004
def R.CLK_CFG.MCLKSEL : Fld := ⟨R.CLK_CFG.at, 1, 0⟩

/-- TB_NOW_LO (02_time_base_and_clocks.md R52). -/
def R.TB_NOW_LO.at : Nat := 0x40002000
def R.TB_NOW_LO.V : Fld := ⟨R.TB_NOW_LO.at, 31, 0⟩

/-- TB_NOW_HI (02_time_base_and_clocks.md R52). -/
def R.TB_NOW_HI.at : Nat := 0x40002004
def R.TB_NOW_HI.V : Fld := ⟨R.TB_NOW_HI.at, 31, 0⟩

/-- TB_MAP_TB_LO (02_time_base_and_clocks.md R52). -/
def R.TB_MAP_TB_LO.at : Nat := 0x40002010
def R.TB_MAP_TB_LO.V : Fld := ⟨R.TB_MAP_TB_LO.at, 31, 0⟩

/-- TB_MAP_TB_HI (02_time_base_and_clocks.md R52). -/
def R.TB_MAP_TB_HI.at : Nat := 0x40002014
def R.TB_MAP_TB_HI.V : Fld := ⟨R.TB_MAP_TB_HI.at, 31, 0⟩

/-- TB_MAP_SEC_LO (02_time_base_and_clocks.md R52). -/
def R.TB_MAP_SEC_LO.at : Nat := 0x40002018
def R.TB_MAP_SEC_LO.V : Fld := ⟨R.TB_MAP_SEC_LO.at, 31, 0⟩

/-- TB_MAP_SEC_HI (02_time_base_and_clocks.md R52). -/
def R.TB_MAP_SEC_HI.at : Nat := 0x4000201C
def R.TB_MAP_SEC_HI.V : Fld := ⟨R.TB_MAP_SEC_HI.at, 15, 0⟩

/-- TB_MAP_NS (02_time_base_and_clocks.md R52). -/
def R.TB_MAP_NS.at : Nat := 0x40002020
def R.TB_MAP_NS.V : Fld := ⟨R.TB_MAP_NS.at, 31, 0⟩

/-- TB_MAP_RATE (02_time_base_and_clocks.md R52). -/
def R.TB_MAP_RATE.at : Nat := 0x40002024
def R.TB_MAP_RATE.V : Fld := ⟨R.TB_MAP_RATE.at, 31, 0⟩

/-- TB_MAP_STAT (02_time_base_and_clocks.md R52). -/
def R.TB_MAP_STAT.at : Nat := 0x40002028
def R.TB_MAP_STAT.VALID : Fld := ⟨R.TB_MAP_STAT.at, 31, 31⟩
def R.TB_MAP_STAT.GEN : Fld := ⟨R.TB_MAP_STAT.at, 15, 0⟩

/-- LFC_STAT (03_kareo_loop_fabric.md R84). -/
def R.LFC_STAT.at (d : Nat) : Nat := 0x40010000 + 0x1000 * d
def R.LFC_STAT.MISSL (d : Nat) : Fld := ⟨R.LFC_STAT.at d, 27, 16⟩
def R.LFC_STAT.SWPDUP (d : Nat) : Fld := ⟨R.LFC_STAT.at d, 7, 7⟩
def R.LFC_STAT.ECCERR (d : Nat) : Fld := ⟨R.LFC_STAT.at d, 6, 6⟩
def R.LFC_STAT.ECCCOR (d : Nat) : Fld := ⟨R.LFC_STAT.at d, 5, 5⟩
def R.LFC_STAT.REFOVW (d : Nat) : Fld := ⟨R.LFC_STAT.at d, 4, 4⟩
def R.LFC_STAT.REFLATE (d : Nat) : Fld := ⟨R.LFC_STAT.at d, 3, 3⟩
def R.LFC_STAT.LFAULT (d : Nat) : Fld := ⟨R.LFC_STAT.at d, 2, 2⟩
def R.LFC_STAT.SAT (d : Nat) : Fld := ⟨R.LFC_STAT.at d, 1, 1⟩
def R.LFC_STAT.MISS (d : Nat) : Fld := ⟨R.LFC_STAT.at d, 0, 0⟩

/-- LFC_MISSCNT (03_kareo_loop_fabric.md R84). -/
def R.LFC_MISSCNT.at (d : Nat) : Nat := 0x40010004 + 0x1000 * d
def R.LFC_MISSCNT.MAXRUN (d : Nat) : Fld := ⟨R.LFC_MISSCNT.at d, 31, 24⟩
def R.LFC_MISSCNT.TOTAL (d : Nat) : Fld := ⟨R.LFC_MISSCNT.at d, 23, 0⟩

/-- LFC_MISSLIM (03_kareo_loop_fabric.md R84). -/
def R.LFC_MISSLIM.at (d : Nat) : Nat := 0x40010008 + 0x1000 * d
def R.LFC_MISSLIM.AUDLIM (d : Nat) : Fld := ⟨R.LFC_MISSLIM.at d, 15, 8⟩
def R.LFC_MISSLIM.SUPLIM (d : Nat) : Fld := ⟨R.LFC_MISSLIM.at d, 7, 0⟩

/-- LFC_FAULT (03_kareo_loop_fabric.md R84). -/
def R.LFC_FAULT.at (d : Nat) : Nat := 0x4001000C + 0x1000 * d
def R.LFC_FAULT.LF (d : Nat) : Fld := ⟨R.LFC_FAULT.at d, 11, 0⟩

/-- LFC_FCAUSE (03_kareo_loop_fabric.md R84). -/
def R.LFC_FCAUSE.at (d : Nat) : Nat := 0x40010010 + 0x1000 * d
def R.LFC_FCAUSE.CAUSE (d : Nat) : Fld := ⟨R.LFC_FCAUSE.at d, 23, 0⟩

/-- LFC_BANK (03_kareo_loop_fabric.md R84). -/
def R.LFC_BANK.at (d : Nat) : Nat := 0x40010014 + 0x1000 * d
def R.LFC_BANK.PEND (d : Nat) : Fld := ⟨R.LFC_BANK.at d, 27, 16⟩
def R.LFC_BANK.ACT (d : Nat) : Fld := ⟨R.LFC_BANK.at d, 11, 0⟩

/-- LFC_SWAP (03_kareo_loop_fabric.md R84). -/
def R.LFC_SWAP.at (d : Nat) : Nat := 0x40010018 + 0x1000 * d
def R.LFC_SWAP.GROUP (d : Nat) : Fld := ⟨R.LFC_SWAP.at d, 31, 31⟩
def R.LFC_SWAP.MASK (d : Nat) : Fld := ⟨R.LFC_SWAP.at d, 11, 0⟩

/-- LFC_SAT (03_kareo_loop_fabric.md R84). -/
def R.LFC_SAT.at (d : Nat) : Nat := 0x4001001C + 0x1000 * d
def R.LFC_SAT.ACCSAT (d : Nat) : Fld := ⟨R.LFC_SAT.at d, 27, 16⟩
def R.LFC_SAT.RSAT (d : Nat) : Fld := ⟨R.LFC_SAT.at d, 11, 0⟩

/-- LFC_CLAMP (03_kareo_loop_fabric.md R84). -/
def R.LFC_CLAMP.at (d : Nat) : Nat := 0x40010020 + 0x1000 * d
def R.LFC_CLAMP.RNLIM (d : Nat) : Fld := ⟨R.LFC_CLAMP.at d, 27, 16⟩
def R.LFC_CLAMP.CLAMP (d : Nat) : Fld := ⟨R.LFC_CLAMP.at d, 11, 0⟩

/-- LFC_RUN (03_kareo_loop_fabric.md R84). -/
def R.LFC_RUN.at (d : Nat) : Nat := 0x40010024 + 0x1000 * d
def R.LFC_RUN.RUN (d : Nat) : Fld := ⟨R.LFC_RUN.at d, 11, 0⟩

/-- LFC_REF (03_kareo_loop_fabric.md R84). -/
def R.LFC_REF.at (d : Nat) (k : Nat) : Nat := 0x40010030 + 0x1000 * d + 0x4 * k
def R.LFC_REF.V (d : Nat) (k : Nat) : Fld := ⟨R.LFC_REF.at d k, 31, 0⟩

/-- LFC_FEED (03_kareo_loop_fabric.md R84). -/
def R.LFC_FEED.at (d : Nat) : Nat := 0x40010040 + 0x1000 * d
def R.LFC_FEED.FPHASE (d : Nat) : Fld := ⟨R.LFC_FEED.at d, 26, 16⟩
def R.LFC_FEED.FPER (d : Nat) : Fld := ⟨R.LFC_FEED.at d, 1, 0⟩

/-- LFC_CIDX (03_kareo_loop_fabric.md R84). -/
def R.LFC_CIDX.at (d : Nat) : Nat := 0x40010050 + 0x1000 * d
def R.LFC_CIDX.AINC (d : Nat) : Fld := ⟨R.LFC_CIDX.at d, 31, 31⟩
def R.LFC_CIDX.SPACE (d : Nat) : Fld := ⟨R.LFC_CIDX.at d, 17, 16⟩
def R.LFC_CIDX.LOOP (d : Nat) : Fld := ⟨R.LFC_CIDX.at d, 11, 8⟩
def R.LFC_CIDX.ENTRY (d : Nat) : Fld := ⟨R.LFC_CIDX.at d, 6, 0⟩

/-- LFC_CM (03_kareo_loop_fabric.md R84). -/
def R.LFC_CM.at (d : Nat) : Nat := 0x40010054 + 0x1000 * d
def R.LFC_CM.M (d : Nat) : Fld := ⟨R.LFC_CM.at d, 31, 0⟩

/-- LFC_CS (03_kareo_loop_fabric.md R84). -/
def R.LFC_CS.at (d : Nat) : Nat := 0x40010058 + 0x1000 * d
def R.LFC_CS.S (d : Nat) : Fld := ⟨R.LFC_CS.at d, 4, 0⟩

/-- LFC_ILIM (03_kareo_loop_fabric.md R84). -/
def R.LFC_ILIM.at (d : Nat) : Nat := 0x4001005C + 0x1000 * d
def R.LFC_ILIM.ILIM (d : Nat) : Fld := ⟨R.LFC_ILIM.at d, 31, 0⟩

/-- LFC_PLCTL (04_loop_nesting_and_plausibility.md R105). -/
def R.LFC_PLCTL.at (d : Nat) : Nat := 0x40010060 + 0x1000 * d
def R.LFC_PLCTL.BLANK (d : Nat) : Fld := ⟨R.LFC_PLCTL.at d, 15, 8⟩
def R.LFC_PLCTL.RAMPSH (d : Nat) : Fld := ⟨R.LFC_PLCTL.at d, 3, 0⟩

/-- LFC_PLSTAT (04_loop_nesting_and_plausibility.md R105). -/
def R.LFC_PLSTAT.at (d : Nat) : Nat := 0x40010064 + 0x1000 * d
def R.LFC_PLSTAT.DEG (d : Nat) : Fld := ⟨R.LFC_PLSTAT.at d, 27, 16⟩
def R.LFC_PLSTAT.PLF (d : Nat) : Fld := ⟨R.LFC_PLSTAT.at d, 11, 0⟩

/-- LFC_PLCAUSE (04_loop_nesting_and_plausibility.md R105). -/
def R.LFC_PLCAUSE.at (d : Nat) : Nat := 0x40010068 + 0x1000 * d
def R.LFC_PLCAUSE.CAUSE (d : Nat) : Fld := ⟨R.LFC_PLCAUSE.at d, 23, 0⟩

/-- LFC_SEL (04_loop_nesting_and_plausibility.md R105). -/
def R.LFC_SEL.at (d : Nat) : Nat := 0x4001006C + 0x1000 * d
def R.LFC_SEL.WIN (d : Nat) : Fld := ⟨R.LFC_SEL.at d, 18, 16⟩
def R.LFC_SEL.WON (d : Nat) : Fld := ⟨R.LFC_SEL.at d, 3, 0⟩

/-- LFC_SELVAL (04_loop_nesting_and_plausibility.md R105). -/
def R.LFC_SELVAL.at (d : Nat) : Nat := 0x40010070 + 0x1000 * d
def R.LFC_SELVAL.W (d : Nat) : Fld := ⟨R.LFC_SELVAL.at d, 31, 0⟩

/-- LFC_LDCFG (04_loop_nesting_and_plausibility.md R105). -/
def R.LFC_LDCFG.at (d : Nat) : Nat := 0x40010074 + 0x1000 * d
def R.LFC_LDCFG.LW (d : Nat) : Fld := ⟨R.LFC_LDCFG.at d, 31, 28⟩
def R.LFC_LDCFG.LDI (d : Nat) : Fld := ⟨R.LFC_LDCFG.at d, 26, 24⟩
def R.LFC_LDCFG.QMIN (d : Nat) : Fld := ⟨R.LFC_LDCFG.at d, 23, 16⟩
def R.LFC_LDCFG.LDEN (d : Nat) : Fld := ⟨R.LFC_LDCFG.at d, 3, 0⟩

/-- LFC_LDTHR (04_loop_nesting_and_plausibility.md R105). -/
def R.LFC_LDTHR.at (d : Nat) : Nat := 0x40010078 + 0x1000 * d
def R.LFC_LDTHR.ROPEN (d : Nat) : Fld := ⟨R.LFC_LDTHR.at d, 31, 16⟩
def R.LFC_LDTHR.RSHORT (d : Nat) : Fld := ⟨R.LFC_LDTHR.at d, 15, 0⟩

/-- LFC_LDSTAT (04_loop_nesting_and_plausibility.md R105). -/
def R.LFC_LDSTAT.at (d : Nat) : Nat := 0x4001007C + 0x1000 * d
def R.LFC_LDSTAT.OPEN (d : Nat) : Fld := ⟨R.LFC_LDSTAT.at d, 7, 4⟩
def R.LFC_LDSTAT.SHORT (d : Nat) : Fld := ⟨R.LFC_LDSTAT.at d, 3, 0⟩

/-- LFC_LDR (04_loop_nesting_and_plausibility.md R105). -/
def R.LFC_LDR.at (d : Nat) (k : Nat) : Nat := 0x40010080 + 0x1000 * d + 0x4 * k
def R.LFC_LDR.R (d : Nat) (k : Nat) : Fld := ⟨R.LFC_LDR.at d k, 31, 16⟩
def R.LFC_LDR.VALID (d : Nat) (k : Nat) : Fld := ⟨R.LFC_LDR.at d k, 15, 15⟩
def R.LFC_LDR.BLK (d : Nat) (k : Nat) : Fld := ⟨R.LFC_LDR.at d k, 14, 0⟩

/-- LFC_PLB (04_loop_nesting_and_plausibility.md R105). -/
def R.LFC_PLB.at (d : Nat) (j : Nat) : Nat := 0x40010090 + 0x1000 * d + 0x4 * j
def R.LFC_PLB.FMS (d : Nat) (j : Nat) : Fld := ⟨R.LFC_PLB.at d j, 31, 28⟩
def R.LFC_PLB.FMM (d : Nat) (j : Nat) : Fld := ⟨R.LFC_PLB.at d j, 27, 20⟩
def R.LFC_PLB.EBS (d : Nat) (j : Nat) : Fld := ⟨R.LFC_PLB.at d j, 19, 16⟩
def R.LFC_PLB.EBM (d : Nat) (j : Nat) : Fld := ⟨R.LFC_PLB.at d j, 15, 0⟩

/-- LFC_PLC (04_loop_nesting_and_plausibility.md R105). -/
def R.LFC_PLC.at (d : Nat) (j : Nat) : Nat := 0x400100C0 + 0x1000 * d + 0x4 * j
def R.LFC_PLC.EN (d : Nat) (j : Nat) : Fld := ⟨R.LFC_PLC.at d j, 31, 31⟩
def R.LFC_PLC.HOLD (d : Nat) (j : Nat) : Fld := ⟨R.LFC_PLC.at d j, 29, 22⟩
def R.LFC_PLC.LOSTN (d : Nat) (j : Nat) : Fld := ⟨R.LFC_PLC.at d j, 21, 17⟩
def R.LFC_PLC.FRZN (d : Nat) (j : Nat) : Fld := ⟨R.LFC_PLC.at d j, 16, 12⟩
def R.LFC_PLC.MEXC (d : Nat) (j : Nat) : Fld := ⟨R.LFC_PLC.at d j, 11, 6⟩
def R.LFC_PLC.NWIN (d : Nat) (j : Nat) : Fld := ⟨R.LFC_PLC.at d j, 5, 0⟩

/-- LFC_ZCFG (04_loop_nesting_and_plausibility.md R105). -/
def R.LFC_ZCFG.at (d : Nat) : Nat := 0x40010100 + 0x1000 * d
def R.LFC_ZCFG.START (d : Nat) : Fld := ⟨R.LFC_ZCFG.at d, 31, 31⟩
def R.LFC_ZCFG.BUSY (d : Nat) : Fld := ⟨R.LFC_ZCFG.at d, 30, 30⟩
def R.LFC_ZCFG.DONE (d : Nat) : Fld := ⟨R.LFC_ZCFG.at d, 29, 29⟩
def R.LFC_ZCFG.ERR (d : Nat) : Fld := ⟨R.LFC_ZCFG.at d, 28, 28⟩
def R.LFC_ZCFG.CH (d : Nat) : Fld := ⟨R.LFC_ZCFG.at d, 21, 20⟩
def R.LFC_ZCFG.ZCNT (d : Nat) : Fld := ⟨R.LFC_ZCFG.at d, 19, 0⟩

/-- LFC_ZINC (04_loop_nesting_and_plausibility.md R105). -/
def R.LFC_ZINC.at (d : Nat) : Nat := 0x40010104 + 0x1000 * d
def R.LFC_ZINC.V (d : Nat) : Fld := ⟨R.LFC_ZINC.at d, 31, 0⟩

/-- LFC_ZAMP (04_loop_nesting_and_plausibility.md R105). -/
def R.LFC_ZAMP.at (d : Nat) : Nat := 0x40010108 + 0x1000 * d
def R.LFC_ZAMP.V (d : Nat) : Fld := ⟨R.LFC_ZAMP.at d, 31, 0⟩

/-- LFC_ZVS_LO (04_loop_nesting_and_plausibility.md R105). -/
def R.LFC_ZVS_LO.at (d : Nat) : Nat := 0x40010110 + 0x1000 * d
def R.LFC_ZVS_LO.V (d : Nat) : Fld := ⟨R.LFC_ZVS_LO.at d, 31, 0⟩

/-- LFC_ZVS_HI (04_loop_nesting_and_plausibility.md R105). -/
def R.LFC_ZVS_HI.at (d : Nat) : Nat := 0x40010114 + 0x1000 * d
def R.LFC_ZVS_HI.V (d : Nat) : Fld := ⟨R.LFC_ZVS_HI.at d, 31, 0⟩

/-- LFC_ZVC_LO (04_loop_nesting_and_plausibility.md R105). -/
def R.LFC_ZVC_LO.at (d : Nat) : Nat := 0x40010118 + 0x1000 * d
def R.LFC_ZVC_LO.V (d : Nat) : Fld := ⟨R.LFC_ZVC_LO.at d, 31, 0⟩

/-- LFC_ZVC_HI (04_loop_nesting_and_plausibility.md R105). -/
def R.LFC_ZVC_HI.at (d : Nat) : Nat := 0x4001011C + 0x1000 * d
def R.LFC_ZVC_HI.V (d : Nat) : Fld := ⟨R.LFC_ZVC_HI.at d, 31, 0⟩

/-- LFC_ZIS_LO (04_loop_nesting_and_plausibility.md R105). -/
def R.LFC_ZIS_LO.at (d : Nat) : Nat := 0x40010120 + 0x1000 * d
def R.LFC_ZIS_LO.V (d : Nat) : Fld := ⟨R.LFC_ZIS_LO.at d, 31, 0⟩

/-- LFC_ZIS_HI (04_loop_nesting_and_plausibility.md R105). -/
def R.LFC_ZIS_HI.at (d : Nat) : Nat := 0x40010124 + 0x1000 * d
def R.LFC_ZIS_HI.V (d : Nat) : Fld := ⟨R.LFC_ZIS_HI.at d, 31, 0⟩

/-- LFC_ZIC_LO (04_loop_nesting_and_plausibility.md R105). -/
def R.LFC_ZIC_LO.at (d : Nat) : Nat := 0x40010128 + 0x1000 * d
def R.LFC_ZIC_LO.V (d : Nat) : Fld := ⟨R.LFC_ZIC_LO.at d, 31, 0⟩

/-- LFC_ZIC_HI (04_loop_nesting_and_plausibility.md R105). -/
def R.LFC_ZIC_HI.at (d : Nat) : Nat := 0x4001012C + 0x1000 * d
def R.LFC_ZIC_HI.V (d : Nat) : Fld := ⟨R.LFC_ZIC_HI.at d, 31, 0⟩

/-- PRF_TGT (05_rail_tracking.md R123). -/
def R.PRF_TGT.at (d : Nat) : Nat := 0x40020000 + 0x1000 * d
def R.PRF_TGT.DEM (d : Nat) : Fld := ⟨R.PRF_TGT.at d, 15, 0⟩

/-- PRF_LIMV (05_rail_tracking.md R123). -/
def R.PRF_LIMV.at (d : Nat) : Nat := 0x40020004 + 0x1000 * d
def R.PRF_LIMV.LIMV (d : Nat) : Fld := ⟨R.PRF_LIMV.at d, 15, 0⟩

/-- PRF_LIMA (05_rail_tracking.md R123). -/
def R.PRF_LIMA.at (d : Nat) : Nat := 0x40020008 + 0x1000 * d
def R.PRF_LIMA.LIMA (d : Nat) : Fld := ⟨R.PRF_LIMA.at d, 15, 0⟩

/-- PRF_LIMJ (05_rail_tracking.md R123). -/
def R.PRF_LIMJ.at (d : Nat) : Nat := 0x4002000C + 0x1000 * d
def R.PRF_LIMJ.LIMJ (d : Nat) : Fld := ⟨R.PRF_LIMJ.at d, 23, 0⟩

/-- PRF_STAT (05_rail_tracking.md R123). -/
def R.PRF_STAT.at (d : Nat) : Nat := 0x40020010 + 0x1000 * d
def R.PRF_STAT.PSTATE (d : Nat) : Fld := ⟨R.PRF_STAT.at d, 31, 30⟩
def R.PRF_STAT.BRAKE (d : Nat) : Fld := ⟨R.PRF_STAT.at d, 29, 29⟩
def R.PRF_STAT.LPEND (d : Nat) : Fld := ⟨R.PRF_STAT.at d, 28, 28⟩
def R.PRF_STAT.CSRC (d : Nat) : Fld := ⟨R.PRF_STAT.at d, 27, 25⟩
def R.PRF_STAT.SHRUP (d : Nat) : Fld := ⟨R.PRF_STAT.at d, 24, 24⟩
def R.PRF_STAT.STL (d : Nat) : Fld := ⟨R.PRF_STAT.at d, 6, 6⟩
def R.PRF_STAT.LINK (d : Nat) : Fld := ⟨R.PRF_STAT.at d, 5, 5⟩
def R.PRF_STAT.OSAT (d : Nat) : Fld := ⟨R.PRF_STAT.at d, 4, 4⟩
def R.PRF_STAT.CLIP (d : Nat) : Fld := ⟨R.PRF_STAT.at d, 3, 3⟩
def R.PRF_STAT.STALE (d : Nat) : Fld := ⟨R.PRF_STAT.at d, 2, 2⟩

/-- PRF_CFG (05_rail_tracking.md R123). -/
def R.PRF_CFG.at (d : Nat) : Nat := 0x40020014 + 0x1000 * d
def R.PRF_CFG.TMO (d : Nat) : Fld := ⟨R.PRF_CFG.at d, 7, 0⟩

/-- PRF_HDR (05_rail_tracking.md R123). -/
def R.PRF_HDR.at (d : Nat) : Nat := 0x40020018 + 0x1000 * d
def R.PRF_HDR.HGAIN (d : Nat) : Fld := ⟨R.PRF_HDR.at d, 31, 16⟩
def R.PRF_HDR.HEAD (d : Nat) : Fld := ⟨R.PRF_HDR.at d, 15, 0⟩

/-- PRF_FLR (05_rail_tracking.md R123). -/
def R.PRF_FLR.at (d : Nat) : Nat := 0x4002001C + 0x1000 * d
def R.PRF_FLR.CEIL (d : Nat) : Fld := ⟨R.PRF_FLR.at d, 31, 16⟩
def R.PRF_FLR.FLOOR (d : Nat) : Fld := ⟨R.PRF_FLR.at d, 15, 0⟩

/-- PRF_DCEIL (05_rail_tracking.md R123). -/
def R.PRF_DCEIL.at (d : Nat) : Nat := 0x40020020 + 0x1000 * d
def R.PRF_DCEIL.DCEIL (d : Nat) : Fld := ⟨R.PRF_DCEIL.at d, 15, 0⟩

/-- PRF_TCEIL (05_rail_tracking.md R123). -/
def R.PRF_TCEIL.at (d : Nat) : Nat := 0x40020024 + 0x1000 * d
def R.PRF_TCEIL.TCEIL (d : Nat) : Fld := ⟨R.PRF_TCEIL.at d, 15, 0⟩

/-- PRF_SHR (05_rail_tracking.md R123). -/
def R.PRF_SHR.at (d : Nat) : Nat := 0x40020028 + 0x1000 * d
def R.PRF_SHR.MASK (d : Nat) : Fld := ⟨R.PRF_SHR.at d, 15, 0⟩

/-- PRF_SHRV (05_rail_tracking.md R123). -/
def R.PRF_SHRV.at (d : Nat) : Nat := 0x4002002C + 0x1000 * d
def R.PRF_SHRV.SHRV (d : Nat) : Fld := ⟨R.PRF_SHRV.at d, 15, 0⟩

/-- PRF_OUTM (05_rail_tracking.md R123). -/
def R.PRF_OUTM.at (d : Nat) : Nat := 0x40020030 + 0x1000 * d
def R.PRF_OUTM.V (d : Nat) : Fld := ⟨R.PRF_OUTM.at d, 31, 0⟩

/-- PRF_OUTS (05_rail_tracking.md R123). -/
def R.PRF_OUTS.at (d : Nat) : Nat := 0x40020034 + 0x1000 * d
def R.PRF_OUTS.V (d : Nat) : Fld := ⟨R.PRF_OUTS.at d, 4, 0⟩

/-- PRF_INM (05_rail_tracking.md R123). -/
def R.PRF_INM.at (d : Nat) : Nat := 0x40020038 + 0x1000 * d
def R.PRF_INM.V (d : Nat) : Fld := ⟨R.PRF_INM.at d, 31, 0⟩

/-- PRF_INS (05_rail_tracking.md R123). -/
def R.PRF_INS.at (d : Nat) : Nat := 0x4002003C + 0x1000 * d
def R.PRF_INS.V (d : Nat) : Fld := ⟨R.PRF_INS.at d, 4, 0⟩

/-- PRF_TGTI (05_rail_tracking.md R123). -/
def R.PRF_TGTI.at (d : Nat) : Nat := 0x40020040 + 0x1000 * d
def R.PRF_TGTI.V (d : Nat) : Fld := ⟨R.PRF_TGTI.at d, 31, 0⟩

/-- PRF_POS (05_rail_tracking.md R123). -/
def R.PRF_POS.at (d : Nat) : Nat := 0x40020044 + 0x1000 * d
def R.PRF_POS.V (d : Nat) : Fld := ⟨R.PRF_POS.at d, 31, 0⟩

/-- PRF_VEL (05_rail_tracking.md R123). -/
def R.PRF_VEL.at (d : Nat) : Nat := 0x40020048 + 0x1000 * d
def R.PRF_VEL.V (d : Nat) : Fld := ⟨R.PRF_VEL.at d, 31, 0⟩

/-- PRF_ACC (05_rail_tracking.md R123). -/
def R.PRF_ACC.at (d : Nat) : Nat := 0x4002004C + 0x1000 * d
def R.PRF_ACC.V (d : Nat) : Fld := ⟨R.PRF_ACC.at d, 31, 0⟩

/-- PRF_QJ (05_rail_tracking.md R123). -/
def R.PRF_QJ.at (d : Nat) : Nat := 0x40020050 + 0x1000 * d
def R.PRF_QJ.V (d : Nat) : Fld := ⟨R.PRF_QJ.at d, 31, 0⟩

/-- PRF_QV (05_rail_tracking.md R123). -/
def R.PRF_QV.at (d : Nat) : Nat := 0x40020054 + 0x1000 * d
def R.PRF_QV.V (d : Nat) : Fld := ⟨R.PRF_QV.at d, 31, 0⟩

/-- PRF_QN (05_rail_tracking.md R123). -/
def R.PRF_QN.at (d : Nat) : Nat := 0x40020058 + 0x1000 * d
def R.PRF_QN.V (d : Nat) : Fld := ⟨R.PRF_QN.at d, 31, 0⟩

/-- PWM_CFG (06_edges_and_phases.md R153). -/
def R.PWM_CFG.at (d : Nat) : Nat := 0x40030000 + 0x1000 * d
def R.PWM_CFG.DRVW (d : Nat) : Fld := ⟨R.PWM_CFG.at d, 31, 24⟩
def R.PWM_CFG.NSORD (d : Nat) : Fld := ⟨R.PWM_CFG.at d, 17, 16⟩
def R.PWM_CFG.IGS (d : Nat) : Fld := ⟨R.PWM_CFG.at d, 12, 8⟩
def R.PWM_CFG.MDIV (d : Nat) : Fld := ⟨R.PWM_CFG.at d, 6, 4⟩
def R.PWM_CFG.SSW (d : Nat) : Fld := ⟨R.PWM_CFG.at d, 3, 2⟩
def R.PWM_CFG.ASW (d : Nat) : Fld := ⟨R.PWM_CFG.at d, 1, 0⟩

/-- PWM_ATIM (06_edges_and_phases.md R153). -/
def R.PWM_ATIM.at (d : Nat) : Nat := 0x40030004 + 0x1000 * d
def R.PWM_ATIM.AMIN (d : Nat) : Fld := ⟨R.PWM_ATIM.at d, 25, 16⟩
def R.PWM_ATIM.TDA (d : Nat) : Fld := ⟨R.PWM_ATIM.at d, 9, 0⟩

/-- PWM_STIM (06_edges_and_phases.md R153). -/
def R.PWM_STIM.at (d : Nat) : Nat := 0x40030008 + 0x1000 * d
def R.PWM_STIM.DWMAX (d : Nat) : Fld := ⟨R.PWM_STIM.at d, 31, 20⟩
def R.PWM_STIM.GAP (d : Nat) : Fld := ⟨R.PWM_STIM.at d, 19, 10⟩
def R.PWM_STIM.SMIN (d : Nat) : Fld := ⟨R.PWM_STIM.at d, 9, 0⟩

/-- PWM_SPH (06_edges_and_phases.md R153). -/
def R.PWM_SPH.at (d : Nat) : Nat := 0x4003000C + 0x1000 * d
def R.PWM_SPH.SSTEP (d : Nat) : Fld := ⟨R.PWM_SPH.at d, 31, 24⟩
def R.PWM_SPH.GLD (d : Nat) : Fld := ⟨R.PWM_SPH.at d, 23, 16⟩
def R.PWM_SPH.SBASE (d : Nat) : Fld := ⟨R.PWM_SPH.at d, 14, 0⟩

/-- PWM_APH (06_edges_and_phases.md R153). -/
def R.PWM_APH.at (d : Nat) (k : Nat) : Nat := 0x40030010 + 0x1000 * d + 0x4 * k
def R.PWM_APH.PH (d : Nat) (k : Nat) : Fld := ⟨R.PWM_APH.at d k, 13, 0⟩

/-- PWM_PHASES (06_edges_and_phases.md R153). -/
def R.PWM_PHASES.at (d : Nat) : Nat := 0x40030020 + 0x1000 * d
def R.PWM_PHASES.FLTP (d : Nat) : Fld := ⟨R.PWM_PHASES.at d, 31, 28⟩
def R.PWM_PHASES.SOFT (d : Nat) : Fld := ⟨R.PWM_PHASES.at d, 27, 24⟩
def R.PWM_PHASES.GLIDE (d : Nat) : Fld := ⟨R.PWM_PHASES.at d, 23, 23⟩
def R.PWM_PHASES.CNT (d : Nat) : Fld := ⟨R.PWM_PHASES.at d, 22, 20⟩
def R.PWM_PHASES.ACT (d : Nat) : Fld := ⟨R.PWM_PHASES.at d, 19, 16⟩
def R.PWM_PHASES.MINPH (d : Nat) : Fld := ⟨R.PWM_PHASES.at d, 14, 12⟩
def R.PWM_PHASES.PHEN (d : Nat) : Fld := ⟨R.PWM_PHASES.at d, 11, 8⟩
def R.PWM_PHASES.DWELL (d : Nat) : Fld := ⟨R.PWM_PHASES.at d, 7, 0⟩

/-- PWM_IGM (06_edges_and_phases.md R153). -/
def R.PWM_IGM.at (d : Nat) : Nat := 0x40030024 + 0x1000 * d
def R.PWM_IGM.V (d : Nat) : Fld := ⟨R.PWM_IGM.at d, 31, 0⟩

/-- PWM_IQ (06_edges_and_phases.md R153). -/
def R.PWM_IQ.at (d : Nat) : Nat := 0x40030028 + 0x1000 * d
def R.PWM_IQ.V (d : Nat) : Fld := ⟨R.PWM_IQ.at d, 31, 0⟩

/-- PWM_IADD (06_edges_and_phases.md R153). -/
def R.PWM_IADD.at (d : Nat) : Nat := 0x4003002C + 0x1000 * d
def R.PWM_IADD.V (d : Nat) : Fld := ⟨R.PWM_IADD.at d, 31, 0⟩

/-- PWM_ISHED (06_edges_and_phases.md R153). -/
def R.PWM_ISHED.at (d : Nat) : Nat := 0x40030030 + 0x1000 * d
def R.PWM_ISHED.V (d : Nat) : Fld := ⟨R.PWM_ISHED.at d, 31, 0⟩

/-- PWM_IPRED (06_edges_and_phases.md R153). -/
def R.PWM_IPRED.at (d : Nat) : Nat := 0x40030034 + 0x1000 * d
def R.PWM_IPRED.V (d : Nat) : Fld := ⟨R.PWM_IPRED.at d, 31, 0⟩

/-- PWM_OVR (06_edges_and_phases.md R153). -/
def R.PWM_OVR.at (d : Nat) : Nat := 0x40030040 + 0x1000 * d
def R.PWM_OVR.OVG (d : Nat) : Fld := ⟨R.PWM_OVR.at d, 31, 0⟩

/-- PWM_OVRD (06_edges_and_phases.md R153). -/
def R.PWM_OVRD.at (d : Nat) : Nat := 0x40030044 + 0x1000 * d
def R.PWM_OVRD.DRV (d : Nat) : Fld := ⟨R.PWM_OVRD.at d, 1, 0⟩

/-- PWM_PAV (06_edges_and_phases.md R153). -/
def R.PWM_PAV.at (d : Nat) : Nat := 0x40030048 + 0x1000 * d
def R.PWM_PAV.PAV (d : Nat) : Fld := ⟨R.PWM_PAV.at d, 15, 0⟩

/-- PWM_OVST (06_edges_and_phases.md R153). -/
def R.PWM_OVST.at (d : Nat) : Nat := 0x4003004C + 0x1000 * d
def R.PWM_OVST.SRC (d : Nat) : Fld := ⟨R.PWM_OVST.at d, 31, 0⟩

/-- PWM_SAFE (06_edges_and_phases.md R153). -/
def R.PWM_SAFE.at (d : Nat) : Nat := 0x40030050 + 0x1000 * d
def R.PWM_SAFE.SAFE (d : Nat) : Fld := ⟨R.PWM_SAFE.at d, 7, 0⟩

/-- PWM_SCHK (06_edges_and_phases.md R153). -/
def R.PWM_SCHK.at (d : Nat) : Nat := 0x40030054 + 0x1000 * d
def R.PWM_SCHK.CODE (d : Nat) : Fld := ⟨R.PWM_SCHK.at d, 31, 0⟩

/-- PWM_SCHKD (06_edges_and_phases.md R153). -/
def R.PWM_SCHKD.at (d : Nat) : Nat := 0x40030058 + 0x1000 * d
def R.PWM_SCHKD.DONE (d : Nat) : Fld := ⟨R.PWM_SCHKD.at d, 31, 31⟩
def R.PWM_SCHKD.CMP (d : Nat) : Fld := ⟨R.PWM_SCHKD.at d, 30, 30⟩
def R.PWM_SCHKD.DCODE (d : Nat) : Fld := ⟨R.PWM_SCHKD.at d, 19, 18⟩
def R.PWM_SCHKD.DMIS (d : Nat) : Fld := ⟨R.PWM_SCHKD.at d, 16, 16⟩
def R.PWM_SCHKD.MISM (d : Nat) : Fld := ⟨R.PWM_SCHKD.at d, 15, 0⟩

/-- PWM_STAT (06_edges_and_phases.md R153). -/
def R.PWM_STAT.at (d : Nat) : Nat := 0x4003005C + 0x1000 * d
def R.PWM_STAT.SAFEMIS (d : Nat) : Fld := ⟨R.PWM_STAT.at d, 9, 9⟩
def R.PWM_STAT.MOACT (d : Nat) : Fld := ⟨R.PWM_STAT.at d, 8, 8⟩
def R.PWM_STAT.REUSE (d : Nat) : Fld := ⟨R.PWM_STAT.at d, 5, 5⟩
def R.PWM_STAT.BALCLP (d : Nat) : Fld := ⟨R.PWM_STAT.at d, 4, 4⟩
def R.PWM_STAT.SKIP (d : Nat) : Fld := ⟨R.PWM_STAT.at d, 3, 3⟩
def R.PWM_STAT.WCLP (d : Nat) : Fld := ⟨R.PWM_STAT.at d, 2, 2⟩
def R.PWM_STAT.MINCLP (d : Nat) : Fld := ⟨R.PWM_STAT.at d, 1, 1⟩
def R.PWM_STAT.NEGD (d : Nat) : Fld := ⟨R.PWM_STAT.at d, 0, 0⟩

/-- ADC_STAT (07_feedback_converter.md R177). -/
def R.ADC_STAT.at : Nat := 0x40040000
def R.ADC_STAT.OVRS : Fld := ⟨R.ADC_STAT.at, 28, 16⟩
def R.ADC_STAT.CIDX : Fld := ⟨R.ADC_STAT.at, 15, 8⟩
def R.ADC_STAT.ECCERR : Fld := ⟨R.ADC_STAT.at, 6, 6⟩
def R.ADC_STAT.ECCCOR : Fld := ⟨R.ADC_STAT.at, 5, 5⟩
def R.ADC_STAT.CSAT : Fld := ⟨R.ADC_STAT.at, 4, 4⟩
def R.ADC_STAT.REFREJ : Fld := ⟨R.ADC_STAT.at, 3, 3⟩
def R.ADC_STAT.SCANLATE : Fld := ⟨R.ADC_STAT.at, 2, 2⟩
def R.ADC_STAT.COLL : Fld := ⟨R.ADC_STAT.at, 1, 1⟩
def R.ADC_STAT.OVR : Fld := ⟨R.ADC_STAT.at, 0, 0⟩

/-- ADC_REFCTL (07_feedback_converter.md R177). -/
def R.ADC_REFCTL.at : Nat := 0x40040004
def R.ADC_REFCTL.SETTLING : Fld := ⟨R.ADC_REFCTL.at, 31, 31⟩
def R.ADC_REFCTL.SRC : Fld := ⟨R.ADC_REFCTL.at, 1, 0⟩

/-- ADC_CALSTAT (07_feedback_converter.md R177). -/
def R.ADC_CALSTAT.at : Nat := 0x40040008
def R.ADC_CALSTAT.INIT : Fld := ⟨R.ADC_CALSTAT.at, 31, 31⟩
def R.ADC_CALSTAT.FAIL : Fld := ⟨R.ADC_CALSTAT.at, 30, 30⟩
def R.ADC_CALSTAT.NOSPARE : Fld := ⟨R.ADC_CALSTAT.at, 29, 29⟩
def R.ADC_CALSTAT.ROTPEND : Fld := ⟨R.ADC_CALSTAT.at, 28, 28⟩
def R.ADC_CALSTAT.SPARE : Fld := ⟨R.ADC_CALSTAT.at, 27, 24⟩
def R.ADC_CALSTAT.NEXTPOS : Fld := ⟨R.ADC_CALSTAT.at, 23, 20⟩
def R.ADC_CALSTAT.BAD : Fld := ⟨R.ADC_CALSTAT.at, 12, 0⟩

/-- ADC_CALCTL (07_feedback_converter.md R177). -/
def R.ADC_CALCTL.at : Nat := 0x4004000C
def R.ADC_CALCTL.ROTEN : Fld := ⟨R.ADC_CALCTL.at, 31, 31⟩
def R.ADC_CALCTL.NOW : Fld := ⟨R.ADC_CALCTL.at, 30, 30⟩
def R.ADC_CALCTL.ROTP : Fld := ⟨R.ADC_CALCTL.at, 7, 0⟩

/-- ADC_SMAP0 (07_feedback_converter.md R177). -/
def R.ADC_SMAP0.at : Nat := 0x40040010
def R.ADC_SMAP0.POS0_7 : Fld := ⟨R.ADC_SMAP0.at, 31, 0⟩

/-- ADC_SMAP1 (07_feedback_converter.md R177). -/
def R.ADC_SMAP1.at : Nat := 0x40040014
def R.ADC_SMAP1.POS8_11 : Fld := ⟨R.ADC_SMAP1.at, 15, 0⟩

/-- ADC_INJ (07_feedback_converter.md R177). -/
def R.ADC_INJ.at : Nat := 0x40040018
def R.ADC_INJ.CODE : Fld := ⟨R.ADC_INJ.at, 7, 0⟩

/-- ADC_INJSTAT (07_feedback_converter.md R177). -/
def R.ADC_INJSTAT.at : Nat := 0x4004001C
def R.ADC_INJSTAT.FULL : Fld := ⟨R.ADC_INJSTAT.at, 31, 31⟩
def R.ADC_INJSTAT.REJ : Fld := ⟨R.ADC_INJSTAT.at, 30, 30⟩
def R.ADC_INJSTAT.PEND : Fld := ⟨R.ADC_INJSTAT.at, 3, 0⟩

/-- ADC_QDATA (07_feedback_converter.md R177). -/
def R.ADC_QDATA.at : Nat := 0x40040020
def R.ADC_QDATA.VALID : Fld := ⟨R.ADC_QDATA.at, 31, 31⟩
def R.ADC_QDATA.OVR : Fld := ⟨R.ADC_QDATA.at, 30, 30⟩
def R.ADC_QDATA.SETTLE : Fld := ⟨R.ADC_QDATA.at, 29, 29⟩
def R.ADC_QDATA.INJ : Fld := ⟨R.ADC_QDATA.at, 28, 28⟩
def R.ADC_QDATA.SLICE : Fld := ⟨R.ADC_QDATA.at, 27, 24⟩
def R.ADC_QDATA.TAG : Fld := ⟨R.ADC_QDATA.at, 23, 16⟩
def R.ADC_QDATA.VALUE : Fld := ⟨R.ADC_QDATA.at, 15, 0⟩

/-- ADC_QSTAT (07_feedback_converter.md R177). -/
def R.ADC_QSTAT.at : Nat := 0x40040024
def R.ADC_QSTAT.OVF : Fld := ⟨R.ADC_QSTAT.at, 31, 31⟩
def R.ADC_QSTAT.OVFCNT : Fld := ⟨R.ADC_QSTAT.at, 23, 16⟩
def R.ADC_QSTAT.LEVEL : Fld := ⟨R.ADC_QSTAT.at, 6, 0⟩

/-- ADC_QTS (07_feedback_converter.md R177). -/
def R.ADC_QTS.at : Nat := 0x40040028
def R.ADC_QTS.V : Fld := ⟨R.ADC_QTS.at, 31, 0⟩

/-- ADC_SCANCTL (07_feedback_converter.md R177). -/
def R.ADC_SCANCTL.at : Nat := 0x4004002C
def R.ADC_SCANCTL.SPER : Fld := ⟨R.ADC_SCANCTL.at, 15, 0⟩

/-- ADC_SCAL (07_feedback_converter.md R177). -/
def R.ADC_SCAL.at (s : Nat) : Nat := 0x40040040 + 0x4 * s
def R.ADC_SCAL.OFS (s : Nat) : Fld := ⟨R.ADC_SCAL.at s, 31, 16⟩
def R.ADC_SCAL.GNDEV (s : Nat) : Fld := ⟨R.ADC_SCAL.at s, 15, 0⟩

/-- ADC_SCAN (07_feedback_converter.md R177). -/
def R.ADC_SCAN.at (i : Nat) : Nat := 0x40040100 + 0x4 * i
def R.ADC_SCAN.EN (i : Nat) : Fld := ⟨R.ADC_SCAN.at i, 31, 31⟩
def R.ADC_SCAN.QEN (i : Nat) : Fld := ⟨R.ADC_SCAN.at i, 30, 30⟩
def R.ADC_SCAN.CODE (i : Nat) : Fld := ⟨R.ADC_SCAN.at i, 7, 0⟩

/-- ADC_HK (07_feedback_converter.md R177). -/
def R.ADC_HK.at (i : Nat) : Nat := 0x40040200 + 0x4 * i
def R.ADC_HK.VALID (i : Nat) : Fld := ⟨R.ADC_HK.at i, 31, 31⟩
def R.ADC_HK.OVR (i : Nat) : Fld := ⟨R.ADC_HK.at i, 30, 30⟩
def R.ADC_HK.SETTLE (i : Nat) : Fld := ⟨R.ADC_HK.at i, 29, 29⟩
def R.ADC_HK.VALUE (i : Nat) : Fld := ⟨R.ADC_HK.at i, 15, 0⟩

/-- ADC_FRAME (07_feedback_converter.md R177). -/
def R.ADC_FRAME.at (i : Nat) : Nat := 0x40040400 + 0x4 * i
def R.ADC_FRAME.CODE (i : Nat) : Fld := ⟨R.ADC_FRAME.at i, 31, 24⟩
def R.ADC_FRAME.PER (i : Nat) : Fld := ⟨R.ADC_FRAME.at i, 23, 12⟩
def R.ADC_FRAME.PHS (i : Nat) : Fld := ⟨R.ADC_FRAME.at i, 11, 0⟩

/-- ADC_CORRM (07_feedback_converter.md R177). -/
def R.ADC_CORRM.at (c : Nat) : Nat := 0x40040800 + 0x8 * c
def R.ADC_CORRM.V (c : Nat) : Fld := ⟨R.ADC_CORRM.at c, 31, 0⟩

/-- ADC_CORRS (07_feedback_converter.md R177). -/
def R.ADC_CORRS.at (c : Nat) : Nat := 0x40040804 + 0x8 * c
def R.ADC_CORRS.CGS (c : Nat) : Fld := ⟨R.ADC_CORRS.at c, 20, 16⟩
def R.ADC_CORRS.COFS (c : Nat) : Fld := ⟨R.ADC_CORRS.at c, 15, 0⟩

/-- ADC_CORRMB (07_feedback_converter.md R177). -/
def R.ADC_CORRMB.at (i : Nat) : Nat := 0x40040A00 + 0x8 * i
def R.ADC_CORRMB.V (i : Nat) : Fld := ⟨R.ADC_CORRMB.at i, 31, 0⟩

/-- ADC_CORRSB (07_feedback_converter.md R177). -/
def R.ADC_CORRSB.at (i : Nat) : Nat := 0x40040A04 + 0x8 * i
def R.ADC_CORRSB.CGS (i : Nat) : Fld := ⟨R.ADC_CORRSB.at i, 20, 16⟩
def R.ADC_CORRSB.COFS (i : Nat) : Fld := ⟨R.ADC_CORRSB.at i, 15, 0⟩

/-- MON_THR (08_monitors_and_protection.md R196). -/
def R.MON_THR.at (m : Nat) : Nat := 0x40050000 + 0x4 * m
def R.MON_THR.HYS (m : Nat) : Fld := ⟨R.MON_THR.at m, 31, 28⟩
def R.MON_THR.THI (m : Nat) : Fld := ⟨R.MON_THR.at m, 25, 16⟩
def R.MON_THR.TLO (m : Nat) : Fld := ⟨R.MON_THR.at m, 9, 0⟩

/-- MON_FILT (08_monitors_and_protection.md R196). -/
def R.MON_FILT.at (m : Nat) : Nat := 0x40050100 + 0x4 * m
def R.MON_FILT.FWIN (m : Nat) : Fld := ⟨R.MON_FILT.at m, 11, 8⟩
def R.MON_FILT.FTHR (m : Nat) : Fld := ⟨R.MON_FILT.at m, 7, 4⟩
def R.MON_FILT.FDIV (m : Nat) : Fld := ⟨R.MON_FILT.at m, 1, 0⟩

/-- MON_ACT (08_monitors_and_protection.md R196). -/
def R.MON_ACT.at (m : Nat) : Nat := 0x40050200 + 0x4 * m
def R.MON_ACT.AHI (m : Nat) : Fld := ⟨R.MON_ACT.at m, 31, 16⟩
def R.MON_ACT.ALO (m : Nat) : Fld := ⟨R.MON_ACT.at m, 15, 0⟩

/-- MON_ST (08_monitors_and_protection.md R196). -/
def R.MON_ST.at (m : Nat) : Nat := 0x40050300 + 0x4 * m
def R.MON_ST.STF (m : Nat) : Fld := ⟨R.MON_ST.at m, 7, 7⟩
def R.MON_ST.TST (m : Nat) : Fld := ⟨R.MON_ST.at m, 6, 6⟩
def R.MON_ST.LATH (m : Nat) : Fld := ⟨R.MON_ST.at m, 5, 5⟩
def R.MON_ST.LATL (m : Nat) : Fld := ⟨R.MON_ST.at m, 4, 4⟩
def R.MON_ST.FHI (m : Nat) : Fld := ⟨R.MON_ST.at m, 3, 3⟩
def R.MON_ST.FLO (m : Nat) : Fld := ⟨R.MON_ST.at m, 2, 2⟩
def R.MON_ST.RHI (m : Nat) : Fld := ⟨R.MON_ST.at m, 1, 1⟩
def R.MON_ST.RLO (m : Nat) : Fld := ⟨R.MON_ST.at m, 0, 0⟩

/-- MON_FFILT (08_monitors_and_protection.md R196). -/
def R.MON_FFILT.at (i : Nat) : Nat := 0x40050400 + 0x4 * i
def R.MON_FFILT.FWIN (i : Nat) : Fld := ⟨R.MON_FFILT.at i, 11, 8⟩
def R.MON_FFILT.FTHR (i : Nat) : Fld := ⟨R.MON_FFILT.at i, 7, 4⟩
def R.MON_FFILT.FDIV (i : Nat) : Fld := ⟨R.MON_FFILT.at i, 1, 0⟩

/-- MON_FACT (08_monitors_and_protection.md R196). -/
def R.MON_FACT.at (i : Nat) : Nat := 0x40050420 + 0x4 * i
def R.MON_FACT.ACT (i : Nat) : Fld := ⟨R.MON_FACT.at i, 15, 0⟩

/-- MON_LACT (08_monitors_and_protection.md R196). -/
def R.MON_LACT.at (i : Nat) : Nat := 0x40050440 + 0x4 * i
def R.MON_LACT.FLT (i : Nat) : Fld := ⟨R.MON_LACT.at i, 31, 16⟩
def R.MON_LACT.DEG (i : Nat) : Fld := ⟨R.MON_LACT.at i, 15, 0⟩

/-- MON_EACT (08_monitors_and_protection.md R196). -/
def R.MON_EACT.at : Nat := 0x4005044C
def R.MON_EACT.ACT : Fld := ⟨R.MON_EACT.at, 15, 0⟩

/-- MON_NFST (08_monitors_and_protection.md R196). -/
def R.MON_NFST.at : Nat := 0x40050450
def R.MON_NFST.LAT : Fld := ⟨R.MON_NFST.at, 23, 16⟩
def R.MON_NFST.FLT : Fld := ⟨R.MON_NFST.at, 15, 8⟩
def R.MON_NFST.RAW : Fld := ⟨R.MON_NFST.at, 7, 0⟩

/-- MON_TEST (08_monitors_and_protection.md R196). -/
def R.MON_TEST.at : Nat := 0x40050460
def R.MON_TEST.MODE : Fld := ⟨R.MON_TEST.at, 31, 30⟩
def R.MON_TEST.BUSY : Fld := ⟨R.MON_TEST.at, 29, 29⟩
def R.MON_TEST.DONE : Fld := ⟨R.MON_TEST.at, 28, 28⟩
def R.MON_TEST.FAIL : Fld := ⟨R.MON_TEST.at, 27, 27⟩
def R.MON_TEST.TREJ : Fld := ⟨R.MON_TEST.at, 26, 26⟩
def R.MON_TEST.MSEL : Fld := ⟨R.MON_TEST.at, 21, 16⟩
def R.MON_TEST.DSEL : Fld := ⟨R.MON_TEST.at, 14, 8⟩

/-- MON_PSTAT (08_monitors_and_protection.md R196). -/
def R.MON_PSTAT.at : Nat := 0x40050464
def R.MON_PSTAT.NFAULT : Fld := ⟨R.MON_PSTAT.at, 31, 31⟩
def R.MON_PSTAT.ENSF : Fld := ⟨R.MON_PSTAT.at, 30, 30⟩
def R.MON_PSTAT.FREQ : Fld := ⟨R.MON_PSTAT.at, 11, 8⟩
def R.MON_PSTAT.MREQ : Fld := ⟨R.MON_PSTAT.at, 7, 4⟩
def R.MON_PSTAT.OVD : Fld := ⟨R.MON_PSTAT.at, 3, 0⟩

/-- THM_MAX (14_thermal.md R321). -/
def R.THM_MAX.at : Nat := 0x40060000
def R.THM_MAX.IDX : Fld := ⟨R.THM_MAX.at, 31, 28⟩
def R.THM_MAX.Q : Fld := ⟨R.THM_MAX.at, 15, 0⟩

/-- THM_CFG (14_thermal.md R321). -/
def R.THM_CFG.at : Nat := 0x40060004
def R.THM_CFG.REC : Fld := ⟨R.THM_CFG.at, 31, 24⟩
def R.THM_CFG.RORL : Fld := ⟨R.THM_CFG.at, 23, 16⟩
def R.THM_CFG.THMAX : Fld := ⟨R.THM_CFG.at, 15, 12⟩
def R.THM_CFG.THSTEP : Fld := ⟨R.THM_CFG.at, 11, 8⟩

/-- THM_STAT (14_thermal.md R321). -/
def R.THM_STAT.at : Nat := 0x40060008
def R.THM_STAT.SDN : Fld := ⟨R.THM_STAT.at, 31, 31⟩
def R.THM_STAT.THRT : Fld := ⟨R.THM_STAT.at, 30, 30⟩
def R.THM_STAT.WARN : Fld := ⟨R.THM_STAT.at, 29, 29⟩
def R.THM_STAT.RISE : Fld := ⟨R.THM_STAT.at, 28, 28⟩
def R.THM_STAT.STEP : Fld := ⟨R.THM_STAT.at, 27, 24⟩
def R.THM_STAT.NTHR : Fld := ⟨R.THM_STAT.at, 23, 20⟩
def R.THM_STAT.NWARN : Fld := ⟨R.THM_STAT.at, 19, 16⟩
def R.THM_STAT.BRK : Fld := ⟨R.THM_STAT.at, 12, 4⟩
def R.THM_STAT.NBRK : Fld := ⟨R.THM_STAT.at, 3, 0⟩

/-- THM_TS (14_thermal.md R321). -/
def R.THM_TS.at (i : Nat) : Nat := 0x40060010 + 0x4 * i
def R.THM_TS.BRK (i : Nat) : Fld := ⟨R.THM_TS.at i, 31, 31⟩
def R.THM_TS.RTRIP (i : Nat) : Fld := ⟨R.THM_TS.at i, 30, 30⟩
def R.THM_TS.SD (i : Nat) : Fld := ⟨R.THM_TS.at i, 29, 29⟩
def R.THM_TS.THR (i : Nat) : Fld := ⟨R.THM_TS.at i, 28, 28⟩
def R.THM_TS.WRN (i : Nat) : Fld := ⟨R.THM_TS.at i, 27, 27⟩
def R.THM_TS.Q (i : Nat) : Fld := ⟨R.THM_TS.at i, 15, 0⟩

/-- THM_NTCA (14_thermal.md R321). -/
def R.THM_NTCA.at (d : Nat) : Nat := 0x40060040 + 0x8 * d
def R.THM_NTCA.TWARN (d : Nat) : Fld := ⟨R.THM_NTCA.at d, 31, 16⟩
def R.THM_NTCA.TTHR (d : Nat) : Fld := ⟨R.THM_NTCA.at d, 15, 0⟩

/-- THM_NTCB (14_thermal.md R321). -/
def R.THM_NTCB.at (d : Nat) : Nat := 0x40060044 + 0x8 * d
def R.THM_NTCB.POL (d : Nat) : Fld := ⟨R.THM_NTCB.at d, 31, 31⟩
def R.THM_NTCB.NHYS (d : Nat) : Fld := ⟨R.THM_NTCB.at d, 23, 16⟩
def R.THM_NTCB.TCEILT (d : Nat) : Fld := ⟨R.THM_NTCB.at d, 15, 0⟩

/-- THM_TLN (14_thermal.md R321). -/
def R.THM_TLN.at (d : Nat) : Nat := 0x40060060 + 0x8 * d
def R.THM_TLN.V (d : Nat) : Fld := ⟨R.THM_TLN.at d, 31, 0⟩

/-- THM_TLT (14_thermal.md R321). -/
def R.THM_TLT.at (d : Nat) : Nat := 0x40060064 + 0x8 * d
def R.THM_TLT.V (d : Nat) : Fld := ⟨R.THM_TLT.at d, 31, 0⟩

/-- THM_SD (14_thermal.md R321). -/
def R.THM_SD.at : Nat := 0x40060080
def R.THM_SD.WIN : Fld := ⟨R.THM_SD.at, 31, 24⟩
def R.THM_SD.TOT : Fld := ⟨R.THM_SD.at, 23, 16⟩

/-- DRP_KICK (15_drip_and_flowstone.md R345). -/
def R.DRP_KICK.at : Nat := 0x40070000
def R.DRP_KICK.V : Fld := ⟨R.DRP_KICK.at, 31, 0⟩

/-- DRP_WIN (15_drip_and_flowstone.md R345). -/
def R.DRP_WIN.at : Nat := 0x40070004
def R.DRP_WIN.CSRC : Fld := ⟨R.DRP_WIN.at, 31, 31⟩
def R.DRP_WIN.FLIM : Fld := ⟨R.DRP_WIN.at, 30, 28⟩
def R.DRP_WIN.TMAX : Fld := ⟨R.DRP_WIN.at, 27, 16⟩
def R.DRP_WIN.TMIN : Fld := ⟨R.DRP_WIN.at, 11, 0⟩

/-- DRP_CHKIN (15_drip_and_flowstone.md R345). -/
def R.DRP_CHKIN.at : Nat := 0x40070008
def R.DRP_CHKIN.SEEN : Fld := ⟨R.DRP_CHKIN.at, 31, 16⟩
def R.DRP_CHKIN.EXP : Fld := ⟨R.DRP_CHKIN.at, 15, 0⟩

/-- DRP_STAT (15_drip_and_flowstone.md R345). -/
def R.DRP_STAT.at : Nat := 0x4007000C
def R.DRP_STAT.TOKEN : Fld := ⟨R.DRP_STAT.at, 31, 16⟩
def R.DRP_STAT.ARMED : Fld := ⟨R.DRP_STAT.at, 15, 15⟩
def R.DRP_STAT.FAILCNT : Fld := ⟨R.DRP_STAT.at, 14, 12⟩
def R.DRP_STAT.START : Fld := ⟨R.DRP_STAT.at, 11, 11⟩
def R.DRP_STAT.FAIL : Fld := ⟨R.DRP_STAT.at, 8, 8⟩
def R.DRP_STAT.LASTC : Fld := ⟨R.DRP_STAT.at, 4, 0⟩

/-- DRP_CYC (15_drip_and_flowstone.md R345). -/
def R.DRP_CYC.at : Nat := 0x40070010
def R.DRP_CYC.DBL : Fld := ⟨R.DRP_CYC.at, 31, 16⟩
def R.DRP_CYC.EXC : Fld := ⟨R.DRP_CYC.at, 15, 0⟩

/-- DRP_CNT (15_drip_and_flowstone.md R345). -/
def R.DRP_CNT.at : Nat := 0x40070014
def R.DRP_CNT.C : Fld := ⟨R.DRP_CNT.at, 22, 0⟩

/-- DRP_TDOM (15_drip_and_flowstone.md R345). -/
def R.DRP_TDOM.at (i : Nat) : Nat := 0x40070018 + 0x4 * i
def R.DRP_TDOM.V (i : Nat) : Fld := ⟨R.DRP_TDOM.at i, 31, 0⟩

/-- FLS_CURSOR (15_drip_and_flowstone.md R346). -/
def R.FLS_CURSOR.at : Nat := 0x40080000
def R.FLS_CURSOR.AREA : Fld := ⟨R.FLS_CURSOR.at, 31, 30⟩
def R.FLS_CURSOR.AINC : Fld := ⟨R.FLS_CURSOR.at, 29, 29⟩
def R.FLS_CURSOR.RDY : Fld := ⟨R.FLS_CURSOR.at, 28, 28⟩
def R.FLS_CURSOR.STATE : Fld := ⟨R.FLS_CURSOR.at, 27, 26⟩
def R.FLS_CURSOR.SLOT : Fld := ⟨R.FLS_CURSOR.at, 12, 0⟩

/-- FLS_DATA (15_drip_and_flowstone.md R346). -/
def R.FLS_DATA.at (i : Nat) : Nat := 0x40080010 + 0x4 * i
def R.FLS_DATA.V (i : Nat) : Fld := ⟨R.FLS_DATA.at i, 31, 0⟩

/-- FLS_SEQ_OLD (15_drip_and_flowstone.md R346). -/
def R.FLS_SEQ_OLD.at : Nat := 0x40080030
def R.FLS_SEQ_OLD.V : Fld := ⟨R.FLS_SEQ_OLD.at, 31, 0⟩

/-- FLS_SEQ_NEW (15_drip_and_flowstone.md R346). -/
def R.FLS_SEQ_NEW.at : Nat := 0x40080034
def R.FLS_SEQ_NEW.V : Fld := ⟨R.FLS_SEQ_NEW.at, 31, 0⟩

/-- FLS_STAT (15_drip_and_flowstone.md R346). -/
def R.FLS_STAT.at : Nat := 0x40080038
def R.FLS_STAT.READY : Fld := ⟨R.FLS_STAT.at, 31, 31⟩
def R.FLS_STAT.DEGRADED : Fld := ⟨R.FLS_STAT.at, 30, 30⟩
def R.FLS_STAT.CLRPEND : Fld := ⟨R.FLS_STAT.at, 29, 29⟩
def R.FLS_STAT.BUSY : Fld := ⟨R.FLS_STAT.at, 28, 28⟩
def R.FLS_STAT.STGLVL : Fld := ⟨R.FLS_STAT.at, 27, 22⟩
def R.FLS_STAT.RETCNT : Fld := ⟨R.FLS_STAT.at, 21, 14⟩
def R.FLS_STAT.CLRREJ : Fld := ⟨R.FLS_STAT.at, 4, 4⟩
def R.FLS_STAT.BADCRC : Fld := ⟨R.FLS_STAT.at, 3, 3⟩
def R.FLS_STAT.SUPP : Fld := ⟨R.FLS_STAT.at, 2, 2⟩
def R.FLS_STAT.DROPNE : Fld := ⟨R.FLS_STAT.at, 1, 1⟩
def R.FLS_STAT.STGOVF : Fld := ⟨R.FLS_STAT.at, 0, 0⟩

/-- FLS_RATE (15_drip_and_flowstone.md R346). -/
def R.FLS_RATE.at : Nat := 0x4008003C
def R.FLS_RATE.DB : Fld := ⟨R.FLS_RATE.at, 15, 8⟩
def R.FLS_RATE.DP : Fld := ⟨R.FLS_RATE.at, 7, 0⟩

/-- FLS_CTL (15_drip_and_flowstone.md R346). -/
def R.FLS_CTL.at : Nat := 0x40080040
def R.FLS_CTL.CLEAR : Fld := ⟨R.FLS_CTL.at, 31, 31⟩

/-- FLS_CNT (15_drip_and_flowstone.md R346). -/
def R.FLS_CNT.at : Nat := 0x40080044
def R.FLS_CNT.DROPNE : Fld := ⟨R.FLS_CNT.at, 31, 16⟩
def R.FLS_CNT.DROPSTG : Fld := ⟨R.FLS_CNT.at, 15, 0⟩

/-- ENG_CTL (09_zuelm_engines_and_gallery.md R224). -/
def R.ENG_CTL.at (e : Nat) : Nat := 0x40090000 + 0x4 * e
def R.ENG_CTL.RUN (e : Nat) : Fld := ⟨R.ENG_CTL.at e, 31, 31⟩
def R.ENG_CTL.DOM (e : Nat) : Fld := ⟨R.ENG_CTL.at e, 27, 24⟩
def R.ENG_CTL.FRZ (e : Nat) : Fld := ⟨R.ENG_CTL.at e, 18, 16⟩

/-- ENG_THR (09_zuelm_engines_and_gallery.md R224). -/
def R.ENG_THR.at : Nat := 0x40090080
def R.ENG_THR.P1SKIP : Fld := ⟨R.ENG_THR.at, 6, 4⟩
def R.ENG_THR.P2DIV : Fld := ⟨R.ENG_THR.at, 1, 0⟩

/-- ENG_FRZ (09_zuelm_engines_and_gallery.md R224). -/
def R.ENG_FRZ.at : Nat := 0x40090084
def R.ENG_FRZ.P1 : Fld := ⟨R.ENG_FRZ.at, 31, 16⟩
def R.ENG_FRZ.P0 : Fld := ⟨R.ENG_FRZ.at, 15, 0⟩

/-- ENG_FRZ2 (09_zuelm_engines_and_gallery.md R224). -/
def R.ENG_FRZ2.at : Nat := 0x40090088
def R.ENG_FRZ2.P2 : Fld := ⟨R.ENG_FRZ2.at, 15, 0⟩

/-- ENG_GSTAT (09_zuelm_engines_and_gallery.md R224). -/
def R.ENG_GSTAT.at : Nat := 0x40090090
def R.ENG_GSTAT.CORCNT : Fld := ⟨R.ENG_GSTAT.at, 31, 16⟩
def R.ENG_GSTAT.MST : Fld := ⟨R.ENG_GSTAT.at, 12, 8⟩
def R.ENG_GSTAT.UNC : Fld := ⟨R.ENG_GSTAT.at, 1, 1⟩
def R.ENG_GSTAT.COR : Fld := ⟨R.ENG_GSTAT.at, 0, 0⟩

/-- ENG_GERR (09_zuelm_engines_and_gallery.md R224). -/
def R.ENG_GERR.at : Nat := 0x40090094
def R.ENG_GERR.ADR : Fld := ⟨R.ENG_GERR.at, 31, 3⟩

/-- ENG_CTX (09_zuelm_engines_and_gallery.md R224). -/
def R.ENG_CTX.at (e : Nat) (x : Nat) : Nat := 0x40090400 + 0x60 * e + 0x20 * x
def R.ENG_CTX.STATE (e : Nat) (x : Nat) : Fld := ⟨R.ENG_CTX.at e x, 31, 29⟩
def R.ENG_CTX.EN (e : Nat) (x : Nat) : Fld := ⟨R.ENG_CTX.at e x, 28, 28⟩
def R.ENG_CTX.FPOL (e : Nat) (x : Nat) : Fld := ⟨R.ENG_CTX.at e x, 27, 26⟩
def R.ENG_CTX.OVRN (e : Nat) (x : Nat) : Fld := ⟨R.ENG_CTX.at e x, 23, 16⟩
def R.ENG_CTX.RSTCNT (e : Nat) (x : Nat) : Fld := ⟨R.ENG_CTX.at e x, 15, 8⟩
def R.ENG_CTX.RSTRT (e : Nat) (x : Nat) : Fld := ⟨R.ENG_CTX.at e x, 0, 0⟩

/-- ENG_TRG (09_zuelm_engines_and_gallery.md R224). -/
def R.ENG_TRG.at (e : Nat) (x : Nat) : Nat := 0x40090404 + 0x60 * e + 0x20 * x
def R.ENG_TRG.SRC (e : Nat) (x : Nat) : Fld := ⟨R.ENG_TRG.at e x, 31, 30⟩
def R.ENG_TRG.CH (e : Nat) (x : Nat) : Fld := ⟨R.ENG_TRG.at e x, 28, 24⟩
def R.ENG_TRG.PER (e : Nat) (x : Nat) : Fld := ⟨R.ENG_TRG.at e x, 23, 12⟩
def R.ENG_TRG.PHS (e : Nat) (x : Nat) : Fld := ⟨R.ENG_TRG.at e x, 11, 0⟩

/-- ENG_ENTRY (09_zuelm_engines_and_gallery.md R224). -/
def R.ENG_ENTRY.at (e : Nat) (x : Nat) : Nat := 0x40090408 + 0x60 * e + 0x20 * x
def R.ENG_ENTRY.PC (e : Nat) (x : Nat) : Fld := ⟨R.ENG_ENTRY.at e x, 12, 0⟩

/-- ENG_VIO (09_zuelm_engines_and_gallery.md R224). -/
def R.ENG_VIO.at (e : Nat) (x : Nat) : Nat := 0x4009040C + 0x60 * e + 0x20 * x
def R.ENG_VIO.CAUSE (e : Nat) (x : Nat) : Fld := ⟨R.ENG_VIO.at e x, 31, 28⟩
def R.ENG_VIO.FPC (e : Nat) (x : Nat) : Fld := ⟨R.ENG_VIO.at e x, 12, 0⟩

/-- ENG_VADR (09_zuelm_engines_and_gallery.md R224). -/
def R.ENG_VADR.at (e : Nat) (x : Nat) : Nat := 0x40090410 + 0x60 * e + 0x20 * x
def R.ENG_VADR.V (e : Nat) (x : Nat) : Fld := ⟨R.ENG_VADR.at e x, 31, 0⟩

/-- WIN_IDX (09_zuelm_engines_and_gallery.md R225). -/
def R.WIN_IDX.at : Nat := 0x400A0000
def R.WIN_IDX.ENG : Fld := ⟨R.WIN_IDX.at, 11, 8⟩
def R.WIN_IDX.CTX : Fld := ⟨R.WIN_IDX.at, 5, 4⟩
def R.WIN_IDX.DSC : Fld := ⟨R.WIN_IDX.at, 3, 0⟩

/-- WIN_DESC (09_zuelm_engines_and_gallery.md R225). -/
def R.WIN_DESC.at : Nat := 0x400A0004
def R.WIN_DESC.VB : Fld := ⟨R.WIN_DESC.at, 31, 12⟩
def R.WIN_DESC.REG : Fld := ⟨R.WIN_DESC.at, 3, 3⟩
def R.WIN_DESC.W : Fld := ⟨R.WIN_DESC.at, 2, 2⟩
def R.WIN_DESC.R : Fld := ⟨R.WIN_DESC.at, 1, 1⟩
def R.WIN_DESC.V : Fld := ⟨R.WIN_DESC.at, 0, 0⟩

/-- WIN_MAP (09_zuelm_engines_and_gallery.md R225). -/
def R.WIN_MAP.at : Nat := 0x400A0008
def R.WIN_MAP.GB : Fld := ⟨R.WIN_MAP.at, 31, 12⟩
def R.WIN_MAP.SIZE : Fld := ⟨R.WIN_MAP.at, 11, 0⟩

/-- WIN_STAT (09_zuelm_engines_and_gallery.md R225). -/
def R.WIN_STAT.at : Nat := 0x400A000C
def R.WIN_STAT.WREJ : Fld := ⟨R.WIN_STAT.at, 0, 0⟩

/-- DMA_CH (09_zuelm_engines_and_gallery.md R226). -/
def R.DMA_CH.at (n : Nat) : Nat := 0x400B0000 + 0x10 * n
def R.DMA_CH.ENG (n : Nat) : Fld := ⟨R.DMA_CH.at n, 27, 24⟩
def R.DMA_CH.CTXM (n : Nat) : Fld := ⟨R.DMA_CH.at n, 18, 16⟩

/-- DMA_ST (09_zuelm_engines_and_gallery.md R226). -/
def R.DMA_ST.at (n : Nat) : Nat := 0x400B0004 + 0x10 * n
def R.DMA_ST.STATE (n : Nat) : Fld := ⟨R.DMA_ST.at n, 31, 29⟩
def R.DMA_ST.BCTX (n : Nat) : Fld := ⟨R.DMA_ST.at n, 27, 26⟩
def R.DMA_ST.CAUSE (n : Nat) : Fld := ⟨R.DMA_ST.at n, 23, 20⟩
def R.DMA_ST.DONE (n : Nat) : Fld := ⟨R.DMA_ST.at n, 15, 0⟩

/-- DMA_SRC (09_zuelm_engines_and_gallery.md R226). -/
def R.DMA_SRC.at (n : Nat) : Nat := 0x400B0008 + 0x10 * n
def R.DMA_SRC.V (n : Nat) : Fld := ⟨R.DMA_SRC.at n, 31, 0⟩

/-- DMA_DST (09_zuelm_engines_and_gallery.md R226). -/
def R.DMA_DST.at (n : Nat) : Nat := 0x400B000C + 0x10 * n
def R.DMA_DST.V (n : Nat) : Fld := ⟨R.DMA_DST.at n, 31, 0⟩

/-- DMA_FRZ (09_zuelm_engines_and_gallery.md R226). -/
def R.DMA_FRZ.at : Nat := 0x400B0200
def R.DMA_FRZ.V : Fld := ⟨R.DMA_FRZ.at, 31, 0⟩

/-- DMA_RST (09_zuelm_engines_and_gallery.md R226). -/
def R.DMA_RST.at : Nat := 0x400B0204
def R.DMA_RST.V : Fld := ⟨R.DMA_RST.at, 31, 0⟩

/-- DMA_STAT (09_zuelm_engines_and_gallery.md R226). -/
def R.DMA_STAT.at : Nat := 0x400B0208
def R.DMA_STAT.WREJ : Fld := ⟨R.DMA_STAT.at, 0, 0⟩

/-- NET_CFG (10_audio_inputs.md R243). -/
def R.NET_CFG.at : Nat := 0x400C0000
def R.NET_CFG.EN : Fld := ⟨R.NET_CFG.at, 31, 31⟩
def R.NET_CFG.PHYMS : Fld := ⟨R.NET_CFG.at, 30, 30⟩
def R.NET_CFG.LMARG : Fld := ⟨R.NET_CFG.at, 29, 24⟩
def R.NET_CFG.GDOM : Fld := ⟨R.NET_CFG.at, 23, 16⟩
def R.NET_CFG.VID : Fld := ⟨R.NET_CFG.at, 11, 0⟩

/-- NET_STAT (10_audio_inputs.md R243). -/
def R.NET_STAT.at : Nat := 0x400C0004
def R.NET_STAT.LINK : Fld := ⟨R.NET_STAT.at, 31, 31⟩
def R.NET_STAT.ASCAP : Fld := ⟨R.NET_STAT.at, 30, 30⟩
def R.NET_STAT.GVALID : Fld := ⟨R.NET_STAT.at, 29, 29⟩
def R.NET_STAT.HOLD : Fld := ⟨R.NET_STAT.at, 28, 28⟩
def R.NET_STAT.FCSCNT : Fld := ⟨R.NET_STAT.at, 23, 16⟩
def R.NET_STAT.GMCHG : Fld := ⟨R.NET_STAT.at, 2, 2⟩
def R.NET_STAT.OVF : Fld := ⟨R.NET_STAT.at, 1, 1⟩
def R.NET_STAT.FMTERR : Fld := ⟨R.NET_STAT.at, 0, 0⟩

/-- NET_SCFG (10_audio_inputs.md R243). -/
def R.NET_SCFG.at (n : Nat) : Nat := 0x400C0100 + 0x20 * n
def R.NET_SCFG.EN (n : Nat) : Fld := ⟨R.NET_SCFG.at n, 31, 31⟩
def R.NET_SCFG.DEPTH (n : Nat) : Fld := ⟨R.NET_SCFG.at n, 30, 29⟩
def R.NET_SCFG.NSR (n : Nat) : Fld := ⟨R.NET_SCFG.at n, 28, 28⟩
def R.NET_SCFG.NCH (n : Nat) : Fld := ⟨R.NET_SCFG.at n, 26, 24⟩
def R.NET_SCFG.LOSSTO (n : Nat) : Fld := ⟨R.NET_SCFG.at n, 23, 16⟩
def R.NET_SCFG.LEN (n : Nat) : Fld := ⟨R.NET_SCFG.at n, 15, 0⟩

/-- NET_SID_LO (10_audio_inputs.md R243). -/
def R.NET_SID_LO.at (n : Nat) : Nat := 0x400C0104 + 0x20 * n
def R.NET_SID_LO.V (n : Nat) : Fld := ⟨R.NET_SID_LO.at n, 31, 0⟩

/-- NET_SID_HI (10_audio_inputs.md R243). -/
def R.NET_SID_HI.at (n : Nat) : Nat := 0x400C0108 + 0x20 * n
def R.NET_SID_HI.V (n : Nat) : Fld := ⟨R.NET_SID_HI.at n, 31, 0⟩

/-- NET_RBASE (10_audio_inputs.md R243). -/
def R.NET_RBASE.at (n : Nat) : Nat := 0x400C010C + 0x20 * n
def R.NET_RBASE.V (n : Nat) : Fld := ⟨R.NET_RBASE.at n, 31, 0⟩

/-- NET_WIDX (10_audio_inputs.md R243). -/
def R.NET_WIDX.at (n : Nat) : Nat := 0x400C0110 + 0x20 * n
def R.NET_WIDX.V (n : Nat) : Fld := ⟨R.NET_WIDX.at n, 31, 0⟩

/-- NET_RATIO (10_audio_inputs.md R243). -/
def R.NET_RATIO.at (n : Nat) : Nat := 0x400C0114 + 0x20 * n
def R.NET_RATIO.V (n : Nat) : Fld := ⟨R.NET_RATIO.at n, 31, 0⟩

/-- NET_SST (10_audio_inputs.md R243). -/
def R.NET_SST.at (n : Nat) : Nat := 0x400C0118 + 0x20 * n
def R.NET_SST.STATE (n : Nat) : Fld := ⟨R.NET_SST.at n, 31, 30⟩
def R.NET_SST.LATE (n : Nat) : Fld := ⟨R.NET_SST.at n, 23, 16⟩
def R.NET_SST.UNDER (n : Nat) : Fld := ⟨R.NET_SST.at n, 15, 8⟩
def R.NET_SST.SEQGAP (n : Nat) : Fld := ⟨R.NET_SST.at n, 7, 0⟩

/-- NET_RTS (10_audio_inputs.md R243). -/
def R.NET_RTS.at (n : Nat) : Nat := 0x400C011C + 0x20 * n
def R.NET_RTS.V (n : Nat) : Fld := ⟨R.NET_RTS.at n, 31, 0⟩

/-- TDM_ACFG (10_audio_inputs.md R244). -/
def R.TDM_ACFG.at : Nat := 0x400D0000
def R.TDM_ACFG.EN : Fld := ⟨R.TDM_ACFG.at, 31, 31⟩
def R.TDM_ACFG.NSR : Fld := ⟨R.TDM_ACFG.at, 26, 26⟩
def R.TDM_ACFG.FSDLY : Fld := ⟨R.TDM_ACFG.at, 25, 25⟩
def R.TDM_ACFG.EDGE : Fld := ⟨R.TDM_ACFG.at, 24, 24⟩
def R.TDM_ACFG.SLOTS : Fld := ⟨R.TDM_ACFG.at, 19, 16⟩
def R.TDM_ACFG.SW : Fld := ⟨R.TDM_ACFG.at, 15, 14⟩
def R.TDM_ACFG.WL : Fld := ⟨R.TDM_ACFG.at, 13, 12⟩
def R.TDM_ACFG.D1EN : Fld := ⟨R.TDM_ACFG.at, 8, 8⟩

/-- TDM_BCFG (10_audio_inputs.md R244). -/
def R.TDM_BCFG.at : Nat := 0x400D0004
def R.TDM_BCFG.EN : Fld := ⟨R.TDM_BCFG.at, 31, 31⟩
def R.TDM_BCFG.MST : Fld := ⟨R.TDM_BCFG.at, 30, 30⟩
def R.TDM_BCFG.BDIV : Fld := ⟨R.TDM_BCFG.at, 29, 27⟩
def R.TDM_BCFG.NSR : Fld := ⟨R.TDM_BCFG.at, 26, 26⟩
def R.TDM_BCFG.FSDLY : Fld := ⟨R.TDM_BCFG.at, 25, 25⟩
def R.TDM_BCFG.EDGE : Fld := ⟨R.TDM_BCFG.at, 24, 24⟩
def R.TDM_BCFG.SLOTS : Fld := ⟨R.TDM_BCFG.at, 19, 16⟩
def R.TDM_BCFG.SW : Fld := ⟨R.TDM_BCFG.at, 15, 14⟩
def R.TDM_BCFG.WL : Fld := ⟨R.TDM_BCFG.at, 13, 12⟩

/-- TDM_STAT (10_audio_inputs.md R244). -/
def R.TDM_STAT.at : Nat := 0x400D0008
def R.TDM_STAT.ASTATE : Fld := ⟨R.TDM_STAT.at, 31, 30⟩
def R.TDM_STAT.BSTATE : Fld := ⟨R.TDM_STAT.at, 29, 28⟩
def R.TDM_STAT.BFSERR : Fld := ⟨R.TDM_STAT.at, 3, 3⟩
def R.TDM_STAT.AFSERR : Fld := ⟨R.TDM_STAT.at, 2, 2⟩
def R.TDM_STAT.BLOST : Fld := ⟨R.TDM_STAT.at, 1, 1⟩
def R.TDM_STAT.ALOST : Fld := ⟨R.TDM_STAT.at, 0, 0⟩

/-- TDM_ARBASE0 (10_audio_inputs.md R244). -/
def R.TDM_ARBASE0.at : Nat := 0x400D0010
def R.TDM_ARBASE0.V : Fld := ⟨R.TDM_ARBASE0.at, 31, 0⟩

/-- TDM_ARBASE1 (10_audio_inputs.md R244). -/
def R.TDM_ARBASE1.at : Nat := 0x400D0014
def R.TDM_ARBASE1.V : Fld := ⟨R.TDM_ARBASE1.at, 31, 0⟩

/-- TDM_AWIDX (10_audio_inputs.md R244). -/
def R.TDM_AWIDX.at : Nat := 0x400D001C
def R.TDM_AWIDX.V : Fld := ⟨R.TDM_AWIDX.at, 31, 0⟩

/-- TDM_AFTS (10_audio_inputs.md R244). -/
def R.TDM_AFTS.at : Nat := 0x400D0020
def R.TDM_AFTS.V : Fld := ⟨R.TDM_AFTS.at, 31, 0⟩

/-- TDM_ARATIO (10_audio_inputs.md R244). -/
def R.TDM_ARATIO.at : Nat := 0x400D0024
def R.TDM_ARATIO.V : Fld := ⟨R.TDM_ARATIO.at, 31, 0⟩

/-- TDM_BIBASE (10_audio_inputs.md R244). -/
def R.TDM_BIBASE.at : Nat := 0x400D0030
def R.TDM_BIBASE.V : Fld := ⟨R.TDM_BIBASE.at, 31, 0⟩

/-- TDM_BWIDX (10_audio_inputs.md R244). -/
def R.TDM_BWIDX.at : Nat := 0x400D0034
def R.TDM_BWIDX.V : Fld := ⟨R.TDM_BWIDX.at, 31, 0⟩

/-- TDM_BOBASE (10_audio_inputs.md R244). -/
def R.TDM_BOBASE.at : Nat := 0x400D0038
def R.TDM_BOBASE.V : Fld := ⟨R.TDM_BOBASE.at, 31, 0⟩

/-- TDM_BRIDX (10_audio_inputs.md R244). -/
def R.TDM_BRIDX.at : Nat := 0x400D003C
def R.TDM_BRIDX.V : Fld := ⟨R.TDM_BRIDX.at, 31, 0⟩

/-- TDM_BRATIO (10_audio_inputs.md R244). -/
def R.TDM_BRATIO.at : Nat := 0x400D0044
def R.TDM_BRATIO.V : Fld := ⟨R.TDM_BRATIO.at, 31, 0⟩

/-- TDM_ALEN (10_audio_inputs.md R244). -/
def R.TDM_ALEN.at : Nat := 0x400D0018
def R.TDM_ALEN.V : Fld := ⟨R.TDM_ALEN.at, 15, 0⟩

/-- TDM_BLEN (10_audio_inputs.md R244). -/
def R.TDM_BLEN.at : Nat := 0x400D0040
def R.TDM_BLEN.V : Fld := ⟨R.TDM_BLEN.at, 15, 0⟩

/-- TDM_BSLOT (10_audio_inputs.md R244). -/
def R.TDM_BSLOT.at (s : Nat) : Nat := 0x400D0080 + 0x4 * s
def R.TDM_BSLOT.SRC (s : Nat) : Fld := ⟨R.TDM_BSLOT.at s, 31, 28⟩
def R.TDM_BSLOT.SH (s : Nat) : Fld := ⟨R.TDM_BSLOT.at s, 19, 16⟩
def R.TDM_BSLOT.CH (s : Nat) : Fld := ⟨R.TDM_BSLOT.at s, 3, 0⟩

/-- CAN_CFG (16_service_and_vehicle_bus.md R369). -/
def R.CAN_CFG.at : Nat := 0x400E0000
def R.CAN_CFG.EN : Fld := ⟨R.CAN_CFG.at, 31, 31⟩
def R.CAN_CFG.FDEN : Fld := ⟨R.CAN_CFG.at, 30, 30⟩
def R.CAN_CFG.BRS : Fld := ⟨R.CAN_CFG.at, 29, 29⟩
def R.CAN_CFG.TDCEN : Fld := ⟨R.CAN_CFG.at, 28, 28⟩
def R.CAN_CFG.PAD : Fld := ⟨R.CAN_CFG.at, 15, 8⟩
def R.CAN_CFG.TDCO : Fld := ⟨R.CAN_CFG.at, 7, 0⟩

/-- CAN_NBT (16_service_and_vehicle_bus.md R369). -/
def R.CAN_NBT.at : Nat := 0x400E0004
def R.CAN_NBT.BRP : Fld := ⟨R.CAN_NBT.at, 31, 24⟩
def R.CAN_NBT.TSEG1 : Fld := ⟨R.CAN_NBT.at, 23, 16⟩
def R.CAN_NBT.TSEG2 : Fld := ⟨R.CAN_NBT.at, 15, 8⟩
def R.CAN_NBT.SJW : Fld := ⟨R.CAN_NBT.at, 7, 0⟩

/-- CAN_DBT (16_service_and_vehicle_bus.md R369). -/
def R.CAN_DBT.at : Nat := 0x400E0008
def R.CAN_DBT.BRP : Fld := ⟨R.CAN_DBT.at, 31, 24⟩
def R.CAN_DBT.TSEG1 : Fld := ⟨R.CAN_DBT.at, 23, 16⟩
def R.CAN_DBT.TSEG2 : Fld := ⟨R.CAN_DBT.at, 15, 8⟩
def R.CAN_DBT.SJW : Fld := ⟨R.CAN_DBT.at, 7, 0⟩

/-- CAN_DIAG (16_service_and_vehicle_bus.md R369). -/
def R.CAN_DIAG.at : Nat := 0x400E000C
def R.CAN_DIAG.RSPID : Fld := ⟨R.CAN_DIAG.at, 26, 16⟩
def R.CAN_DIAG.REQID : Fld := ⟨R.CAN_DIAG.at, 10, 0⟩

/-- CAN_FUNC (16_service_and_vehicle_bus.md R369). -/
def R.CAN_FUNC.at : Nat := 0x400E0010
def R.CAN_FUNC.ID : Fld := ⟨R.CAN_FUNC.at, 10, 0⟩

/-- CAN_TPCFG (16_service_and_vehicle_bus.md R369). -/
def R.CAN_TPCFG.at : Nat := 0x400E0014
def R.CAN_TPCFG.BS : Fld := ⟨R.CAN_TPCFG.at, 15, 8⟩
def R.CAN_TPCFG.STMIN : Fld := ⟨R.CAN_TPCFG.at, 7, 0⟩

/-- CAN_STAT (16_service_and_vehicle_bus.md R369). -/
def R.CAN_STAT.at : Nat := 0x400E0018
def R.CAN_STAT.STATE : Fld := ⟨R.CAN_STAT.at, 31, 30⟩
def R.CAN_STAT.TEC : Fld := ⟨R.CAN_STAT.at, 23, 16⟩
def R.CAN_STAT.REC : Fld := ⟨R.CAN_STAT.at, 15, 8⟩
def R.CAN_STAT.BOFF : Fld := ⟨R.CAN_STAT.at, 2, 2⟩
def R.CAN_STAT.RXOVF : Fld := ⟨R.CAN_STAT.at, 1, 1⟩
def R.CAN_STAT.EPASS : Fld := ⟨R.CAN_STAT.at, 0, 0⟩

/-- CAN_TMO (16_service_and_vehicle_bus.md R369). -/
def R.CAN_TMO.at : Nat := 0x400E001C
def R.CAN_TMO.V : Fld := ⟨R.CAN_TMO.at, 31, 0⟩

/-- DSU_STAT (16_service_and_vehicle_bus.md R370). -/
def R.DSU_STAT.at : Nat := 0x400F0000
def R.DSU_STAT.SESS : Fld := ⟨R.DSU_STAT.at, 31, 30⟩
def R.DSU_STAT.SEC : Fld := ⟨R.DSU_STAT.at, 29, 29⟩
def R.DSU_STAT.LOCK : Fld := ⟨R.DSU_STAT.at, 28, 28⟩
def R.DSU_STAT.DTCOFF : Fld := ⟨R.DSU_STAT.at, 27, 27⟩
def R.DSU_STAT.SACNT : Fld := ⟨R.DSU_STAT.at, 26, 24⟩
def R.DSU_STAT.LASTNRC : Fld := ⟨R.DSU_STAT.at, 7, 0⟩

/-- DSU_CFG (16_service_and_vehicle_bus.md R370). -/
def R.DSU_CFG.at : Nat := 0x400F0004
def R.DSU_CFG.DTCSEV : Fld := ⟨R.DSU_CFG.at, 1, 0⟩

/-- DSU_DTCOFF (16_service_and_vehicle_bus.md R370). -/
def R.DSU_DTCOFF.at : Nat := 0x400F0008
def R.DSU_DTCOFF.V : Fld := ⟨R.DSU_DTCOFF.at, 31, 0⟩

/-- DSU_DTCON (16_service_and_vehicle_bus.md R370). -/
def R.DSU_DTCON.at : Nat := 0x400F000C
def R.DSU_DTCON.V : Fld := ⟨R.DSU_DTCON.at, 31, 0⟩

/-- IMG_STAT (12_image_and_start.md R284). -/
def R.IMG_STAT.at : Nat := 0x40100000
def R.IMG_STAT.COPY : Fld := ⟨R.IMG_STAT.at, 31, 30⟩
def R.IMG_STAT.VA : Fld := ⟨R.IMG_STAT.at, 29, 29⟩
def R.IMG_STAT.VB : Fld := ⟨R.IMG_STAT.at, 28, 28⟩
def R.IMG_STAT.AUTH : Fld := ⟨R.IMG_STAT.at, 27, 27⟩
def R.IMG_STAT.QERR : Fld := ⟨R.IMG_STAT.at, 26, 26⟩
def R.IMG_STAT.NOSUSP : Fld := ⟨R.IMG_STAT.at, 25, 25⟩
def R.IMG_STAT.DLACT : Fld := ⟨R.IMG_STAT.at, 24, 24⟩
def R.IMG_STAT.DREJ : Fld := ⟨R.IMG_STAT.at, 23, 20⟩
def R.IMG_STAT.DSRC : Fld := ⟨R.IMG_STAT.at, 19, 16⟩
def R.IMG_STAT.RLD : Fld := ⟨R.IMG_STAT.at, 15, 12⟩
def R.IMG_STAT.CMPB : Fld := ⟨R.IMG_STAT.at, 9, 9⟩
def R.IMG_STAT.CMPA : Fld := ⟨R.IMG_STAT.at, 8, 8⟩
def R.IMG_STAT.RREJ : Fld := ⟨R.IMG_STAT.at, 2, 2⟩
def R.IMG_STAT.DLFAIL : Fld := ⟨R.IMG_STAT.at, 1, 1⟩
def R.IMG_STAT.CPYREJ : Fld := ⟨R.IMG_STAT.at, 0, 0⟩

/-- IMG_RELOAD (12_image_and_start.md R284). -/
def R.IMG_RELOAD.at : Nat := 0x40100004
def R.IMG_RELOAD.GO : Fld := ⟨R.IMG_RELOAD.at, 31, 31⟩
def R.IMG_RELOAD.PDN : Fld := ⟨R.IMG_RELOAD.at, 30, 30⟩
def R.IMG_RELOAD.SRC : Fld := ⟨R.IMG_RELOAD.at, 29, 28⟩
def R.IMG_RELOAD.DMASK : Fld := ⟨R.IMG_RELOAD.at, 3, 0⟩

/-- IMG_GENA (12_image_and_start.md R284). -/
def R.IMG_GENA.at : Nat := 0x40100008
def R.IMG_GENA.V : Fld := ⟨R.IMG_GENA.at, 31, 0⟩

/-- IMG_GENB (12_image_and_start.md R284). -/
def R.IMG_GENB.at : Nat := 0x4010000C
def R.IMG_GENB.V : Fld := ⟨R.IMG_GENB.at, 31, 0⟩

/-- IMG_ID (12_image_and_start.md R284). -/
def R.IMG_ID.at : Nat := 0x40100010
def R.IMG_ID.V : Fld := ⟨R.IMG_ID.at, 31, 0⟩

/-- IMG_QCFG (12_image_and_start.md R284). -/
def R.IMG_QCFG.at : Nat := 0x40100014
def R.IMG_QCFG.DENS : Fld := ⟨R.IMG_QCFG.at, 31, 24⟩
def R.IMG_QCFG.MODE : Fld := ⟨R.IMG_QCFG.at, 19, 18⟩
def R.IMG_QCFG.QCLK : Fld := ⟨R.IMG_QCFG.at, 17, 16⟩
def R.IMG_QCFG.D : Fld := ⟨R.IMG_QCFG.at, 15, 8⟩

/-- IMG_RTIME (12_image_and_start.md R284). -/
def R.IMG_RTIME.at : Nat := 0x40100018
def R.IMG_RTIME.V : Fld := ⟨R.IMG_RTIME.at, 31, 0⟩

/-- IMG_CHK (12_image_and_start.md R284). -/
def R.IMG_CHK.at : Nat := 0x4010001C
def R.IMG_CHK.CODE : Fld := ⟨R.IMG_CHK.at, 31, 24⟩
def R.IMG_CHK.SIDX : Fld := ⟨R.IMG_CHK.at, 23, 16⟩
def R.IMG_CHK.WHEN : Fld := ⟨R.IMG_CHK.at, 5, 4⟩
def R.IMG_CHK.CPY : Fld := ⟨R.IMG_CHK.at, 1, 0⟩

/-- IMG_DLCNT (12_image_and_start.md R284). -/
def R.IMG_DLCNT.at : Nat := 0x40100020
def R.IMG_DLCNT.V : Fld := ⟨R.IMG_DLCNT.at, 31, 0⟩

/-- PWR_VBAT (13_supply_events.md R307). -/
def R.PWR_VBAT.at : Nat := 0x40110000
def R.PWR_VBAT.VBAT : Fld := ⟨R.PWR_VBAT.at, 31, 16⟩
def R.PWR_VBAT.VB : Fld := ⟨R.PWR_VBAT.at, 15, 0⟩

/-- PWR_THR (13_supply_events.md R307). -/
def R.PWR_THR.at : Nat := 0x40110004
def R.PWR_THR.CREX : Fld := ⟨R.PWR_THR.at, 31, 16⟩
def R.PWR_THR.CRTH : Fld := ⟨R.PWR_THR.at, 15, 0⟩

/-- PWR_DRB (13_supply_events.md R307). -/
def R.PWR_DRB.at : Nat := 0x40110008
def R.PWR_DRB.HIGHTH : Fld := ⟨R.PWR_DRB.at, 31, 16⟩
def R.PWR_DRB.LOWTH : Fld := ⟨R.PWR_DRB.at, 15, 0⟩

/-- PWR_CFG (13_supply_events.md R307). -/
def R.PWR_CFG.at : Nat := 0x4011000C
def R.PWR_CFG.SLPDLY : Fld := ⟨R.PWR_CFG.at, 31, 24⟩
def R.PWR_CFG.CRDWELL : Fld := ⟨R.PWR_CFG.at, 23, 16⟩
def R.PWR_CFG.CRN : Fld := ⟨R.PWR_CFG.at, 15, 12⟩
def R.PWR_CFG.DRHYS : Fld := ⟨R.PWR_CFG.at, 11, 8⟩

/-- PWR_VBCAL (13_supply_events.md R307). -/
def R.PWR_VBCAL.at : Nat := 0x40110010
def R.PWR_VBCAL.GAIN : Fld := ⟨R.PWR_VBCAL.at, 31, 16⟩
def R.PWR_VBCAL.OFS : Fld := ⟨R.PWR_VBCAL.at, 15, 0⟩

/-- PWR_BLFN (13_supply_events.md R307). -/
def R.PWR_BLFN.at : Nat := 0x40110014
def R.PWR_BLFN.V : Fld := ⟨R.PWR_BLFN.at, 31, 0⟩

/-- PWR_BLFC (13_supply_events.md R307). -/
def R.PWR_BLFC.at : Nat := 0x40110018
def R.PWR_BLFC.V : Fld := ⟨R.PWR_BLFC.at, 31, 0⟩

/-- PWR_CTL (13_supply_events.md R307). -/
def R.PWR_CTL.at : Nat := 0x4011001C
def R.PWR_CTL.SLEEP : Fld := ⟨R.PWR_CTL.at, 31, 31⟩
def R.PWR_CTL.KEEP : Fld := ⟨R.PWR_CTL.at, 30, 30⟩

/-- PWR_STAT (13_supply_events.md R307). -/
def R.PWR_STAT.at : Nat := 0x40110020
def R.PWR_STAT.VAUXOK : Fld := ⟨R.PWR_STAT.at, 31, 31⟩
def R.PWR_STAT.INH : Fld := ⟨R.PWR_STAT.at, 30, 30⟩
def R.PWR_STAT.PGX : Fld := ⟨R.PWR_STAT.at, 29, 29⟩
def R.PWR_STAT.CRK : Fld := ⟨R.PWR_STAT.at, 28, 28⟩
def R.PWR_STAT.DRL : Fld := ⟨R.PWR_STAT.at, 27, 27⟩
def R.PWR_STAT.DRH : Fld := ⟨R.PWR_STAT.at, 26, 26⟩
def R.PWR_STAT.WREQ : Fld := ⟨R.PWR_STAT.at, 25, 25⟩
def R.PWR_STAT.HOLDRDY : Fld := ⟨R.PWR_STAT.at, 24, 24⟩
def R.PWR_STAT.RAILOK : Fld := ⟨R.PWR_STAT.at, 23, 20⟩
def R.PWR_STAT.HOLDLOW : Fld := ⟨R.PWR_STAT.at, 7, 7⟩
def R.PWR_STAT.HTDONE : Fld := ⟨R.PWR_STAT.at, 6, 6⟩
def R.PWR_STAT.CRSEEN : Fld := ⟨R.PWR_STAT.at, 5, 5⟩
def R.PWR_STAT.INHSEEN : Fld := ⟨R.PWR_STAT.at, 4, 4⟩
def R.PWR_STAT.DRSEEN : Fld := ⟨R.PWR_STAT.at, 3, 3⟩

/-- PWR_HOLD (13_supply_events.md R307). -/
def R.PWR_HOLD.at : Nat := 0x40110024
def R.PWR_HOLD.V0 : Fld := ⟨R.PWR_HOLD.at, 31, 16⟩
def R.PWR_HOLD.DROOP : Fld := ⟨R.PWR_HOLD.at, 15, 0⟩

/-- PWR_LASTF (13_supply_events.md R307). -/
def R.PWR_LASTF.at : Nat := 0x40110028
def R.PWR_LASTF.NCOMMIT : Fld := ⟨R.PWR_LASTF.at, 31, 24⟩
def R.PWR_LASTF.NDROP : Fld := ⟨R.PWR_LASTF.at, 23, 16⟩
def R.PWR_LASTF.FMASK : Fld := ⟨R.PWR_LASTF.at, 12, 8⟩
def R.PWR_LASTF.CAUSE : Fld := ⟨R.PWR_LASTF.at, 3, 0⟩

/-- PWR_CRCNT (13_supply_events.md R307). -/
def R.PWR_CRCNT.at : Nat := 0x4011002C
def R.PWR_CRCNT.CNT : Fld := ⟨R.PWR_CRCNT.at, 31, 16⟩
def R.PWR_CRCNT.LONGEST : Fld := ⟨R.PWR_CRCNT.at, 15, 0⟩

/-- ENS_CFG (02_time_base_and_clocks.md R52). -/
def R.ENS_CFG.at : Nat := 0x40120000
def R.ENS_CFG.CFGCHK : Fld := ⟨R.ENS_CFG.at, 31, 16⟩
def R.ENS_CFG.EN : Fld := ⟨R.ENS_CFG.at, 7, 7⟩
def R.ENS_CFG.NDEV : Fld := ⟨R.ENS_CFG.at, 5, 4⟩
def R.ENS_CFG.POS : Fld := ⟨R.ENS_CFG.at, 1, 0⟩

/-- ENS_STAT (02_time_base_and_clocks.md R52). -/
def R.ENS_STAT.at : Nat := 0x40120004
def R.ENS_STAT.STATE : Fld := ⟨R.ENS_STAT.at, 31, 30⟩
def R.ENS_STAT.CRCERR : Fld := ⟨R.ENS_STAT.at, 23, 16⟩
def R.ENS_STAT.ERR : Fld := ⟨R.ENS_STAT.at, 15, 8⟩
def R.ENS_STAT.NOLOAD : Fld := ⟨R.ENS_STAT.at, 3, 3⟩
def R.ENS_STAT.CFGMIS : Fld := ⟨R.ENS_STAT.at, 2, 2⟩
def R.ENS_STAT.DRIFT : Fld := ⟨R.ENS_STAT.at, 1, 1⟩
def R.ENS_STAT.LOST : Fld := ⟨R.ENS_STAT.at, 0, 0⟩

/-- ENS_HOPDLY (02_time_base_and_clocks.md R52). -/
def R.ENS_HOPDLY.at : Nat := 0x40120008
def R.ENS_HOPDLY.H : Fld := ⟨R.ENS_HOPDLY.at, 15, 0⟩

/-- Rows of the block at 0x40000000. -/
def regRows40000 : List RegRow := [
  ⟨0x000, 1, 4, 1, 4, 0x0, 0x0, 0x0, 0x0, 0x16161200⟩,
  ⟨0x004, 1, 4, 1, 4, 0x0, 0x0, 0x0, 0x0, 0x202⟩,
  ⟨0x008, 1, 4, 1, 4, 0x0, 0x0, 0x1FD, 0x0, 0x1⟩,
  ⟨0x00C, 1, 4, 1, 4, 0xFFFF0000, 0x0, 0x0, 0x0, 0x0⟩,
  ⟨0x010, 1, 4, 1, 4, 0x0, 0xFFFFFFFF, 0x0, 0x0, 0x343C808F⟩,
  ⟨0x014, 1, 4, 1, 4, 0x0, 0x0, 0x0, 0x0, 0x0⟩]

/-- Rows of the block at 0x40001000. -/
def regRows40001 : List RegRow := [
  ⟨0x000, 1, 4, 1, 4, 0x0, 0x0, 0x0, 0x0, 0x0⟩,
  ⟨0x004, 1, 4, 1, 4, 0x0, 0x3, 0x0, 0x0, 0x1⟩]

/-- Rows of the block at 0x40002000. -/
def regRows40002 : List RegRow := [
  ⟨0x000, 1, 4, 1, 4, 0x0, 0x0, 0x0, 0x0, 0x0⟩,
  ⟨0x004, 1, 4, 1, 4, 0x0, 0x0, 0x0, 0x0, 0x0⟩,
  ⟨0x010, 1, 4, 1, 4, 0x0, 0x0, 0x0, 0x0, 0x0⟩,
  ⟨0x014, 1, 4, 1, 4, 0x0, 0x0, 0x0, 0x0, 0x0⟩,
  ⟨0x018, 1, 4, 1, 4, 0x0, 0x0, 0x0, 0x0, 0x0⟩,
  ⟨0x01C, 1, 4, 1, 4, 0x0, 0x0, 0x0, 0x0, 0x0⟩,
  ⟨0x020, 1, 4, 1, 4, 0x0, 0x0, 0x0, 0x0, 0x0⟩,
  ⟨0x024, 1, 4, 1, 4, 0x0, 0x0, 0x0, 0x0, 0x0⟩,
  ⟨0x028, 1, 4, 1, 4, 0x0, 0x0, 0x0, 0x0, 0x0⟩]

/-- Rows of the block at 0x40010000. -/
def regRows40010a : List RegRow := [
  ⟨0x000, 1, 4, 1, 4, 0x0, 0x0, 0xFFF00F9, 0x0, 0x0⟩,
  ⟨0x004, 1, 4, 1, 4, 0xFFFFFFFF, 0x0, 0x0, 0x0, 0x0⟩,
  ⟨0x008, 1, 4, 1, 4, 0x0, 0xFFFF, 0x0, 0x0, 0x402⟩,
  ⟨0x00C, 1, 4, 1, 4, 0x0, 0x0, 0x0, 0x0, 0x0⟩,
  ⟨0x010, 1, 4, 1, 4, 0x0, 0x0, 0x0, 0x0, 0x0⟩,
  ⟨0x014, 1, 4, 1, 4, 0x0, 0x0, 0x0, 0x0, 0x0⟩,
  ⟨0x018, 1, 4, 1, 4, 0x0, 0x0, 0x0, 0x80000FFF, 0x0⟩,
  ⟨0x01C, 1, 4, 1, 4, 0x0, 0x0, 0xFFF0FFF, 0x0, 0x0⟩,
  ⟨0x020, 1, 4, 1, 4, 0x0, 0x0, 0xFFF0FFF, 0x0, 0x0⟩,
  ⟨0x024, 1, 4, 1, 4, 0x0, 0x0, 0x0, 0x0, 0x0⟩,
  ⟨0x030, 4, 4, 1, 4, 0xFFFFFFFF, 0x0, 0x0, 0x0, 0x0⟩,
  ⟨0x040, 1, 4, 1, 4, 0x0, 0x7FF0003, 0x0, 0x0, 0x2⟩,
  ⟨0x050, 1, 4, 1, 4, 0x80030F7F, 0x0, 0x0, 0x0, 0x0⟩,
  ⟨0x054, 1, 4, 1, 4, 0xFFFFFFFF, 0x0, 0x0, 0x0, 0x0⟩,
  ⟨0x058, 1, 4, 1, 4, 0x1F, 0x0, 0x0, 0x0, 0x0⟩,
  ⟨0x05C, 1, 4, 1, 4, 0xFFFFFFFF, 0x0, 0x0, 0x0, 0x0⟩,
  ⟨0x060, 1, 4, 1, 4, 0xFF0F, 0x0, 0x0, 0x0, 0x4008⟩,
  ⟨0x064, 1, 4, 1, 4, 0x0, 0x0, 0xFFF, 0x0, 0x0⟩,
  ⟨0x068, 1, 4, 1, 4, 0x0, 0x0, 0x0, 0x0, 0x0⟩,
  ⟨0x06C, 1, 4, 1, 4, 0x0, 0x0, 0xF, 0x0, 0x70000⟩]

/-- Rows of the block at 0x40010000. -/
def regRows40010b : List RegRow := [
  ⟨0x070, 1, 4, 1, 4, 0x0, 0x0, 0x0, 0x0, 0x0⟩,
  ⟨0x074, 1, 4, 1, 4, 0xF7FF000F, 0x0, 0x0, 0x0, 0xC2100000⟩,
  ⟨0x078, 1, 4, 1, 4, 0xFFFFFFFF, 0x0, 0x0, 0x0, 0x20000080⟩,
  ⟨0x07C, 1, 4, 1, 4, 0x0, 0x0, 0xFF, 0x0, 0x0⟩,
  ⟨0x080, 4, 4, 1, 4, 0x0, 0x0, 0x0, 0x0, 0x0⟩,
  ⟨0x090, 12, 4, 1, 4, 0xFFFFFFFF, 0x0, 0x0, 0x0, 0x0⟩,
  ⟨0x0C0, 12, 4, 1, 4, 0xBFFFFFFF, 0x0, 0x0, 0x0, 0x0⟩,
  ⟨0x100, 1, 4, 1, 4, 0x3FFFFF, 0x0, 0x0, 0x80000000, 0x0⟩,
  ⟨0x104, 1, 4, 1, 4, 0xFFFFFFFF, 0x0, 0x0, 0x0, 0x0⟩,
  ⟨0x108, 1, 4, 1, 4, 0xFFFFFFFF, 0x0, 0x0, 0x0, 0x0⟩,
  ⟨0x110, 1, 4, 1, 4, 0x0, 0x0, 0x0, 0x0, 0x0⟩,
  ⟨0x114, 1, 4, 1, 4, 0x0, 0x0, 0x0, 0x0, 0x0⟩,
  ⟨0x118, 1, 4, 1, 4, 0x0, 0x0, 0x0, 0x0, 0x0⟩,
  ⟨0x11C, 1, 4, 1, 4, 0x0, 0x0, 0x0, 0x0, 0x0⟩,
  ⟨0x120, 1, 4, 1, 4, 0x0, 0x0, 0x0, 0x0, 0x0⟩,
  ⟨0x124, 1, 4, 1, 4, 0x0, 0x0, 0x0, 0x0, 0x0⟩,
  ⟨0x128, 1, 4, 1, 4, 0x0, 0x0, 0x0, 0x0, 0x0⟩,
  ⟨0x12C, 1, 4, 1, 4, 0x0, 0x0, 0x0, 0x0, 0x0⟩]

/-- Rows of the block at 0x40020000. -/
def regRows40020a : List RegRow := [
  ⟨0x000, 1, 4, 1, 4, 0xFFFF, 0x0, 0x0, 0x0, 0x0⟩,
  ⟨0x004, 1, 4, 1, 4, 0xFFFF, 0x0, 0x0, 0x0, 0x600⟩,
  ⟨0x008, 1, 4, 1, 4, 0xFFFF, 0x0, 0x0, 0x0, 0x240⟩,
  ⟨0x00C, 1, 4, 1, 4, 0xFFFFFF, 0x0, 0x0, 0x0, 0x6C00⟩,
  ⟨0x010, 1, 4, 1, 4, 0x0, 0x0, 0x1C, 0x0, 0x0⟩,
  ⟨0x014, 1, 4, 1, 4, 0xFF, 0x0, 0x0, 0x0, 0x10⟩,
  ⟨0x018, 1, 4, 1, 4, 0xFFFFFFFF, 0x0, 0x0, 0x0, 0x10000000⟩,
  ⟨0x01C, 1, 4, 1, 4, 0xFFFFFFFF, 0x0, 0x0, 0x0, 0x0⟩,
  ⟨0x020, 1, 4, 1, 4, 0xFFFF, 0x0, 0x0, 0x0, 0xFFFF⟩,
  ⟨0x024, 1, 4, 1, 4, 0x0, 0x0, 0x0, 0x0, 0xFFFF⟩,
  ⟨0x028, 1, 4, 1, 4, 0xFFFF, 0x0, 0x0, 0x0, 0x0⟩,
  ⟨0x02C, 1, 4, 1, 4, 0x0, 0x0, 0x0, 0x0, 0x0⟩,
  ⟨0x030, 1, 4, 1, 4, 0xFFFFFFFF, 0x0, 0x0, 0x0, 0x0⟩,
  ⟨0x034, 1, 4, 1, 4, 0x1F, 0x0, 0x0, 0x0, 0x0⟩,
  ⟨0x038, 1, 4, 1, 4, 0xFFFFFFFF, 0x0, 0x0, 0x0, 0x0⟩,
  ⟨0x03C, 1, 4, 1, 4, 0x1F, 0x0, 0x0, 0x0, 0x0⟩,
  ⟨0x040, 1, 4, 1, 4, 0x0, 0x0, 0x0, 0x0, 0x0⟩,
  ⟨0x044, 1, 4, 1, 4, 0x0, 0x0, 0x0, 0x0, 0x0⟩,
  ⟨0x048, 1, 4, 1, 4, 0x0, 0x0, 0x0, 0x0, 0x0⟩,
  ⟨0x04C, 1, 4, 1, 4, 0x0, 0x0, 0x0, 0x0, 0x0⟩]

/-- Rows of the block at 0x40020000. -/
def regRows40020b : List RegRow := [
  ⟨0x050, 1, 4, 1, 4, 0x0, 0x0, 0x0, 0x0, 0x0⟩,
  ⟨0x054, 1, 4, 1, 4, 0x0, 0x0, 0x0, 0x0, 0x0⟩,
  ⟨0x058, 1, 4, 1, 4, 0x0, 0x0, 0x0, 0x0, 0x0⟩]

/-- Rows of the block at 0x40030000. -/
def regRows40030 : List RegRow := [
  ⟨0x000, 1, 4, 1, 4, 0xFF031F7F, 0x0, 0x0, 0x0, 0x8021819⟩,
  ⟨0x004, 1, 4, 1, 4, 0x3FF03FF, 0x0, 0x0, 0x0, 0x800000⟩,
  ⟨0x008, 1, 4, 1, 4, 0xFFFFFFFF, 0x0, 0x0, 0x0, 0xFFF10010⟩,
  ⟨0x00C, 1, 4, 1, 4, 0xFFFF7FFF, 0x0, 0x0, 0x0, 0x10200000⟩,
  ⟨0x010, 4, 4, 1, 4, 0x3FFF, 0x0, 0x0, 0x0, 0x0⟩,
  ⟨0x020, 1, 4, 1, 4, 0x7FFF, 0x0, 0x0, 0x0, 0x1F10⟩,
  ⟨0x024, 1, 4, 1, 4, 0xFFFFFFFF, 0x0, 0x0, 0x0, 0x0⟩,
  ⟨0x028, 1, 4, 1, 4, 0xFFFFFFFF, 0x0, 0x0, 0x0, 0x0⟩,
  ⟨0x02C, 1, 4, 1, 4, 0xFFFFFFFF, 0x0, 0x0, 0x0, 0x7FFFFFFF⟩,
  ⟨0x030, 1, 4, 1, 4, 0xFFFFFFFF, 0x0, 0x0, 0x0, 0x0⟩,
  ⟨0x034, 1, 4, 1, 4, 0x0, 0x0, 0x0, 0x0, 0x0⟩,
  ⟨0x040, 1, 4, 1, 4, 0xFFFFFFFF, 0x0, 0x0, 0x0, 0x0⟩,
  ⟨0x044, 1, 4, 1, 4, 0x3, 0x0, 0x0, 0x0, 0x0⟩,
  ⟨0x048, 1, 4, 1, 4, 0xFFFF, 0x0, 0x0, 0x0, 0x0⟩,
  ⟨0x04C, 1, 4, 1, 4, 0x0, 0x0, 0x0, 0x0, 0x0⟩,
  ⟨0x050, 1, 4, 1, 4, 0xFF, 0x0, 0x0, 0x0, 0x0⟩,
  ⟨0x054, 1, 4, 1, 4, 0x0, 0x0, 0x0, 0x0, 0x0⟩,
  ⟨0x058, 1, 4, 1, 4, 0x0, 0x0, 0x0, 0x0, 0x0⟩,
  ⟨0x05C, 1, 4, 1, 4, 0x0, 0x0, 0x3F, 0x0, 0x0⟩]

/-- Rows of the block at 0x40040000. -/
def regRows40040 : List RegRow := [
  ⟨0x000, 1, 4, 1, 4, 0x0, 0x0, 0x1FFF007F, 0x0, 0x0⟩,
  ⟨0x004, 1, 4, 1, 4, 0x3, 0x0, 0x0, 0x0, 0x0⟩,
  ⟨0x008, 1, 4, 1, 4, 0x0, 0x0, 0x0, 0x0, 0xC000000⟩,
  ⟨0x00C, 1, 4, 1, 4, 0x800000FF, 0x0, 0x0, 0x40000000, 0x80000003⟩,
  ⟨0x010, 1, 4, 1, 4, 0x0, 0x0, 0x0, 0x0, 0x76543210⟩,
  ⟨0x014, 1, 4, 1, 4, 0x0, 0x0, 0x0, 0x0, 0xBA98⟩,
  ⟨0x018, 1, 4, 1, 4, 0x0, 0x0, 0x0, 0xFF, 0x0⟩,
  ⟨0x01C, 1, 4, 1, 4, 0x0, 0x0, 0x40000000, 0x0, 0x0⟩,
  ⟨0x020, 1, 4, 1, 4, 0x0, 0x0, 0x0, 0x0, 0x0⟩,
  ⟨0x024, 1, 4, 1, 4, 0xFF0000, 0x0, 0x80000000, 0x0, 0x0⟩,
  ⟨0x028, 1, 4, 1, 4, 0x0, 0x0, 0x0, 0x0, 0x0⟩,
  ⟨0x02C, 1, 4, 1, 4, 0xFFFF, 0x0, 0x0, 0x0, 0x60⟩,
  ⟨0x040, 13, 4, 1, 4, 0x0, 0x0, 0x0, 0x0, 0x0⟩,
  ⟨0x100, 32, 4, 1, 4, 0xC00000FF, 0x0, 0x0, 0x0, 0x0⟩,
  ⟨0x200, 44, 4, 1, 4, 0x0, 0x0, 0x0, 0x0, 0x0⟩,
  ⟨0x400, 192, 4, 1, 4, 0xFFFFFFFF, 0x0, 0x0, 0x0, 0xFF000000⟩,
  ⟨0x800, 32, 8, 1, 4, 0xFFFFFFFF, 0x0, 0x0, 0x0, 0x40000000⟩,
  ⟨0x804, 32, 8, 1, 4, 0x1FFFFF, 0x0, 0x0, 0x0, 0x10000⟩,
  ⟨0xA00, 44, 8, 1, 4, 0xFFFFFFFF, 0x0, 0x0, 0x0, 0x40000000⟩,
  ⟨0xA04, 44, 8, 1, 4, 0x1FFFFF, 0x0, 0x0, 0x0, 0x10000⟩]

/-- Rows of the block at 0x40050000. -/
def regRows40050 : List RegRow := [
  ⟨0x000, 42, 4, 1, 4, 0xF3FF03FF, 0x0, 0x0, 0x0, 0x23FF0000⟩,
  ⟨0x100, 42, 4, 1, 4, 0xFF3, 0x0, 0x0, 0x0, 0x320⟩,
  ⟨0x200, 42, 4, 1, 4, 0x0, 0xFFF0FFF0, 0x0, 0x0, 0xC6A0C6A0⟩,
  ⟨0x300, 42, 4, 1, 4, 0x0, 0x0, 0x30, 0x0, 0xF⟩,
  ⟨0x400, 8, 4, 1, 4, 0xFF3, 0x0, 0x0, 0x0, 0x320⟩,
  ⟨0x420, 8, 4, 1, 4, 0x0, 0xFFF0, 0x0, 0x0, 0xC6A0⟩,
  ⟨0x440, 3, 4, 1, 4, 0x0, 0xFFF0FFF0, 0x0, 0x0, 0xC6A0C6A0⟩,
  ⟨0x44C, 1, 4, 1, 4, 0x0, 0xFFF0, 0x0, 0x0, 0x5480⟩,
  ⟨0x450, 1, 4, 1, 4, 0x0, 0x0, 0xFF0000, 0x0, 0xFFFF⟩,
  ⟨0x460, 1, 4, 1, 4, 0xC03F7F00, 0x0, 0x4000000, 0x0, 0x0⟩,
  ⟨0x464, 1, 4, 1, 4, 0x0, 0x0, 0x0, 0x0, 0x80000000⟩]

/-- Rows of the block at 0x40060000. -/
def regRows40060 : List RegRow := [
  ⟨0x000, 1, 4, 1, 4, 0x0, 0x0, 0x0, 0x0, 0xF0000000⟩,
  ⟨0x004, 1, 4, 1, 4, 0x0, 0xFFFFFF00, 0x0, 0x0, 0x3C086400⟩,
  ⟨0x008, 1, 4, 1, 4, 0x0, 0x0, 0x0, 0x0, 0x0⟩,
  ⟨0x010, 9, 4, 1, 4, 0x0, 0x0, 0x0, 0x0, 0x0⟩,
  ⟨0x040, 4, 8, 1, 4, 0x0, 0xFFFFFFFF, 0x0, 0x0, 0x7FFF7FFF⟩,
  ⟨0x044, 4, 8, 1, 4, 0x0, 0x80FFFFFF, 0x0, 0x0, 0x10FFFF⟩,
  ⟨0x060, 4, 8, 1, 4, 0x0, 0xFFFFFFFF, 0x0, 0x0, 0x0⟩,
  ⟨0x064, 4, 8, 1, 4, 0x0, 0xFFFFFFFF, 0x0, 0x0, 0x0⟩,
  ⟨0x080, 1, 4, 1, 4, 0x0, 0x0, 0x0, 0x0, 0x0⟩]

/-- Rows of the block at 0x40070000. -/
def regRows40070 : List RegRow := [
  ⟨0x000, 1, 4, 1, 4, 0x0, 0x0, 0x0, 0xFFFFFFFF, 0x0⟩,
  ⟨0x004, 1, 4, 1, 4, 0x0, 0xFFFF0FFF, 0x0, 0x0, 0x1FFF0000⟩,
  ⟨0x008, 1, 4, 1, 4, 0x0, 0xFFFF, 0x0, 0x0, 0x0⟩,
  ⟨0x00C, 1, 4, 1, 4, 0x0, 0x0, 0x100, 0x0, 0xACE10800⟩,
  ⟨0x010, 1, 4, 1, 4, 0x0, 0x0, 0x0, 0x0, 0x0⟩,
  ⟨0x014, 1, 4, 1, 4, 0x0, 0x0, 0x0, 0x0, 0x0⟩,
  ⟨0x018, 2, 4, 1, 4, 0x0, 0xFFFFFFFF, 0x0, 0x0, 0xFFFFFFFF⟩]

/-- Rows of the block at 0x40080000. -/
def regRows40080 : List RegRow := [
  ⟨0x000, 1, 4, 1, 4, 0xE0001FFF, 0x0, 0x0, 0x0, 0x4000000⟩,
  ⟨0x010, 8, 4, 1, 4, 0x0, 0x0, 0x0, 0x0, 0x0⟩,
  ⟨0x030, 1, 4, 1, 4, 0x0, 0x0, 0x0, 0x0, 0x0⟩,
  ⟨0x034, 1, 4, 1, 4, 0x0, 0x0, 0x0, 0x0, 0x0⟩,
  ⟨0x038, 1, 4, 1, 4, 0x0, 0x0, 0x1F, 0x0, 0x0⟩,
  ⟨0x03C, 1, 4, 1, 4, 0x0, 0xFFFF, 0x0, 0x0, 0x80A⟩,
  ⟨0x040, 1, 4, 1, 4, 0x0, 0x0, 0x0, 0x80000000, 0x0⟩,
  ⟨0x044, 1, 4, 1, 4, 0x0, 0x0, 0x0, 0x0, 0x0⟩]

/-- Rows of the block at 0x40090000. -/
def regRows40090 : List RegRow := [
  ⟨0x000, 16, 4, 1, 4, 0x8F000000, 0x0, 0x0, 0x0, 0xF000000⟩,
  ⟨0x080, 1, 4, 1, 4, 0x0, 0x0, 0x0, 0x0, 0x0⟩,
  ⟨0x084, 1, 4, 1, 4, 0x0, 0x0, 0x0, 0x0, 0x0⟩,
  ⟨0x088, 1, 4, 1, 4, 0x0, 0x0, 0x0, 0x0, 0x0⟩,
  ⟨0x090, 1, 4, 1, 4, 0xFFFF0000, 0x0, 0x3, 0x0, 0x0⟩,
  ⟨0x094, 1, 4, 1, 4, 0x0, 0x0, 0x0, 0x0, 0x0⟩,
  ⟨0x400, 16, 96, 3, 32, 0x1CFF0000, 0x0, 0x0, 0x1, 0x8000000⟩,
  ⟨0x404, 16, 96, 3, 32, 0xDFFFFFFF, 0x0, 0x0, 0x0, 0x0⟩,
  ⟨0x408, 16, 96, 3, 32, 0x1FFF, 0x0, 0x0, 0x0, 0x0⟩,
  ⟨0x40C, 16, 96, 3, 32, 0x0, 0x0, 0x0, 0x0, 0x0⟩,
  ⟨0x410, 16, 96, 3, 32, 0x0, 0x0, 0x0, 0x0, 0x0⟩]

/-- Rows of the block at 0x400A0000. -/
def regRows400A0 : List RegRow := [
  ⟨0x000, 1, 4, 1, 4, 0xF3F, 0x0, 0x0, 0x0, 0x0⟩,
  ⟨0x004, 1, 4, 1, 4, 0xFFFFF00F, 0x0, 0x0, 0x0, 0x0⟩,
  ⟨0x008, 1, 4, 1, 4, 0xFFFFFFFF, 0x0, 0x0, 0x0, 0x0⟩,
  ⟨0x00C, 1, 4, 1, 4, 0x0, 0x0, 0x1, 0x0, 0x0⟩]

/-- Rows of the block at 0x400B0000. -/
def regRows400B0 : List RegRow := [
  ⟨0x000, 32, 16, 1, 4, 0xF070000, 0x0, 0x0, 0x0, 0x0⟩,
  ⟨0x004, 32, 16, 1, 4, 0x0, 0x0, 0x0, 0x0, 0x0⟩,
  ⟨0x008, 32, 16, 1, 4, 0x0, 0x0, 0x0, 0x0, 0x0⟩,
  ⟨0x00C, 32, 16, 1, 4, 0x0, 0x0, 0x0, 0x0, 0x0⟩,
  ⟨0x200, 1, 4, 1, 4, 0x0, 0x0, 0x0, 0x0, 0x0⟩,
  ⟨0x204, 1, 4, 1, 4, 0x0, 0x0, 0x0, 0xFFFFFFFF, 0x0⟩,
  ⟨0x208, 1, 4, 1, 4, 0x0, 0x0, 0x1, 0x0, 0x0⟩]

/-- Rows of the block at 0x400C0000. -/
def regRows400C0 : List RegRow := [
  ⟨0x000, 1, 4, 1, 4, 0x0, 0xFFFF0FFF, 0x0, 0x0, 0x8000000⟩,
  ⟨0x004, 1, 4, 1, 4, 0x0, 0x0, 0x7, 0x0, 0x0⟩,
  ⟨0x100, 4, 32, 1, 4, 0xF7FFFFFF, 0x0, 0x0, 0x0, 0x41100100⟩,
  ⟨0x104, 4, 32, 1, 4, 0xFFFFFFFF, 0x0, 0x0, 0x0, 0x0⟩,
  ⟨0x108, 4, 32, 1, 4, 0xFFFFFFFF, 0x0, 0x0, 0x0, 0x0⟩,
  ⟨0x10C, 4, 32, 1, 4, 0xFFFFFFFF, 0x0, 0x0, 0x0, 0x10000000⟩,
  ⟨0x110, 4, 32, 1, 4, 0x0, 0x0, 0x0, 0x0, 0x0⟩,
  ⟨0x114, 4, 32, 1, 4, 0x0, 0x0, 0x0, 0x0, 0x40000000⟩,
  ⟨0x118, 4, 32, 1, 4, 0xFFFFFF, 0x0, 0x0, 0x0, 0x0⟩,
  ⟨0x11C, 4, 32, 1, 4, 0x0, 0x0, 0x0, 0x0, 0x0⟩]

/-- Rows of the block at 0x400D0000. -/
def regRows400D0 : List RegRow := [
  ⟨0x000, 1, 4, 1, 4, 0x870FF100, 0x0, 0x0, 0x0, 0xFA000⟩,
  ⟨0x004, 1, 4, 1, 4, 0xFF0FF000, 0x0, 0x0, 0x0, 0xFA000⟩,
  ⟨0x008, 1, 4, 1, 4, 0x0, 0x0, 0xF, 0x0, 0x0⟩,
  ⟨0x010, 1, 4, 1, 4, 0xFFFFFFFF, 0x0, 0x0, 0x0, 0x10000000⟩,
  ⟨0x014, 1, 4, 1, 4, 0xFFFFFFFF, 0x0, 0x0, 0x0, 0x10000000⟩,
  ⟨0x01C, 1, 4, 1, 4, 0x0, 0x0, 0x0, 0x0, 0x0⟩,
  ⟨0x020, 1, 4, 1, 4, 0x0, 0x0, 0x0, 0x0, 0x0⟩,
  ⟨0x024, 1, 4, 1, 4, 0x0, 0x0, 0x0, 0x0, 0x40000000⟩,
  ⟨0x030, 1, 4, 1, 4, 0xFFFFFFFF, 0x0, 0x0, 0x0, 0x10000000⟩,
  ⟨0x034, 1, 4, 1, 4, 0x0, 0x0, 0x0, 0x0, 0x0⟩,
  ⟨0x038, 1, 4, 1, 4, 0xFFFFFFFF, 0x0, 0x0, 0x0, 0x10000000⟩,
  ⟨0x03C, 1, 4, 1, 4, 0xFFFFFFFF, 0x0, 0x0, 0x0, 0x0⟩,
  ⟨0x044, 1, 4, 1, 4, 0x0, 0x0, 0x0, 0x0, 0x40000000⟩,
  ⟨0x018, 1, 4, 1, 4, 0xFFFF, 0x0, 0x0, 0x0, 0x100⟩,
  ⟨0x040, 1, 4, 1, 4, 0xFFFF, 0x0, 0x0, 0x0, 0x100⟩,
  ⟨0x080, 16, 4, 1, 4, 0xF00F000F, 0x0, 0x0, 0x0, 0x0⟩]

/-- Rows of the block at 0x400E0000. -/
def regRows400E0 : List RegRow := [
  ⟨0x000, 1, 4, 1, 4, 0x0, 0xF000FFFF, 0x0, 0x0, 0xF000CC1E⟩,
  ⟨0x004, 1, 4, 1, 4, 0x0, 0xFFFFFFFF, 0x0, 0x0, 0x7E1F1F⟩,
  ⟨0x008, 1, 4, 1, 4, 0x0, 0xFFFFFFFF, 0x0, 0x0, 0x1C0909⟩,
  ⟨0x00C, 1, 4, 1, 4, 0x0, 0x7FF07FF, 0x0, 0x0, 0x6BA06B2⟩,
  ⟨0x010, 1, 4, 1, 4, 0x0, 0x7FF, 0x0, 0x0, 0x7DF⟩,
  ⟨0x014, 1, 4, 1, 4, 0x0, 0xFFFF, 0x0, 0x0, 0x0⟩,
  ⟨0x018, 1, 4, 1, 4, 0x0, 0x0, 0x7, 0x0, 0x0⟩,
  ⟨0x01C, 1, 4, 1, 4, 0x0, 0x0, 0x0, 0x0, 0x0⟩]

/-- Rows of the block at 0x400F0000. -/
def regRows400F0 : List RegRow := [
  ⟨0x000, 1, 4, 1, 4, 0x0, 0x0, 0x0, 0x0, 0x40000000⟩,
  ⟨0x004, 1, 4, 1, 4, 0x0, 0x3, 0x0, 0x0, 0x1⟩,
  ⟨0x008, 1, 4, 1, 4, 0x0, 0x0, 0x0, 0x0, 0x0⟩,
  ⟨0x00C, 1, 4, 1, 4, 0x0, 0x0, 0x0, 0x0, 0x0⟩]

/-- Rows of the block at 0x40100000. -/
def regRows40100 : List RegRow := [
  ⟨0x000, 1, 4, 1, 4, 0x0, 0x0, 0x7, 0x0, 0xC0000000⟩,
  ⟨0x004, 1, 4, 1, 4, 0x0, 0x0, 0x0, 0xF000000F, 0x0⟩,
  ⟨0x008, 1, 4, 1, 4, 0x0, 0x0, 0x0, 0x0, 0x0⟩,
  ⟨0x00C, 1, 4, 1, 4, 0x0, 0x0, 0x0, 0x0, 0x0⟩,
  ⟨0x010, 1, 4, 1, 4, 0x0, 0x0, 0x0, 0x0, 0x0⟩,
  ⟨0x014, 1, 4, 1, 4, 0x0, 0x0, 0x0, 0x0, 0x800⟩,
  ⟨0x018, 1, 4, 1, 4, 0x0, 0x0, 0x0, 0x0, 0x0⟩,
  ⟨0x01C, 1, 4, 1, 4, 0x0, 0x0, 0x0, 0x0, 0x0⟩,
  ⟨0x020, 1, 4, 1, 4, 0x0, 0x0, 0x0, 0x0, 0x0⟩]

/-- Rows of the block at 0x40110000. -/
def regRows40110 : List RegRow := [
  ⟨0x000, 1, 4, 1, 4, 0x0, 0x0, 0x0, 0x0, 0x0⟩,
  ⟨0x004, 1, 4, 1, 4, 0x0, 0xFFFFFFFF, 0x0, 0x0, 0x3E80384⟩,
  ⟨0x008, 1, 4, 1, 4, 0x0, 0xFFFFFFFF, 0x0, 0x0, 0x640041A⟩,
  ⟨0x00C, 1, 4, 1, 4, 0x0, 0xFFFFFF00, 0x0, 0x0, 0x5324500⟩,
  ⟨0x010, 1, 4, 1, 4, 0x0, 0xFFFFFFFF, 0x0, 0x0, 0x33330000⟩,
  ⟨0x014, 1, 4, 1, 4, 0x0, 0xFFFFFFFF, 0x0, 0x0, 0x0⟩,
  ⟨0x018, 1, 4, 1, 4, 0x0, 0xFFFFFFFF, 0x0, 0x0, 0x0⟩,
  ⟨0x01C, 1, 4, 1, 4, 0x40000000, 0x0, 0x0, 0x80000000, 0x0⟩,
  ⟨0x020, 1, 4, 1, 4, 0x0, 0x0, 0xB8, 0x0, 0xA0F00000⟩,
  ⟨0x024, 1, 4, 1, 4, 0x0, 0x0, 0x0, 0x0, 0x0⟩,
  ⟨0x028, 1, 4, 1, 4, 0x0, 0x0, 0x0, 0x0, 0x0⟩,
  ⟨0x02C, 1, 4, 1, 4, 0xFFFFFFFF, 0x0, 0x0, 0x0, 0x0⟩]

/-- Rows of the block at 0x40120000. -/
def regRows40120 : List RegRow := [
  ⟨0x000, 1, 4, 1, 4, 0x0, 0xFFFF00B3, 0x0, 0x0, 0x0⟩,
  ⟨0x004, 1, 4, 1, 4, 0x0, 0x0, 0x7, 0x0, 0x0⟩,
  ⟨0x008, 1, 4, 1, 4, 0x0, 0x0, 0x0, 0x0, 0x0⟩]

/-- The rows of the block that holds an address (01_signal_to_speaker.md R24). -/
def regRows (a : Nat) : List RegRow :=
  let b := a / 0x1000
  if b == 0x40000 then regRows40000
  else if b == 0x40001 then regRows40001
  else if b == 0x40002 then regRows40002
  else if 0x40010 ≤ b && b ≤ 0x40013 then regRows40010a ++ regRows40010b
  else if 0x40020 ≤ b && b ≤ 0x40023 then regRows40020a ++ regRows40020b
  else if 0x40030 ≤ b && b ≤ 0x40033 then regRows40030
  else if b == 0x40040 then regRows40040
  else if b == 0x40050 then regRows40050
  else if b == 0x40060 then regRows40060
  else if b == 0x40070 then regRows40070
  else if b == 0x40080 then regRows40080
  else if b == 0x40090 then regRows40090
  else if b == 0x400A0 then regRows400A0
  else if b == 0x400B0 then regRows400B0
  else if b == 0x400C0 then regRows400C0
  else if b == 0x400D0 then regRows400D0
  else if b == 0x400E0 then regRows400E0
  else if b == 0x400F0 then regRows400F0
  else if b == 0x40100 then regRows40100
  else if b == 0x40110 then regRows40110
  else if b == 0x40120 then regRows40120
  else []

/-- The offset lies on a register of the row. -/
def regRowHas (r : RegRow) (o : Nat) : Bool :=
  r.off ≤ o && (o - r.off) / r.s1 < r.n1 && (o - r.off) % r.s1 / r.s2 < r.n2 && (o - r.off) % r.s1 % r.s2 == 0

/-- The row of an address; none for an unassigned offset (00_scope.md R10). -/
def regRow (a : Nat) : Option RegRow := (regRows a).find? (fun r => regRowHas r (a % 0x1000))

/-- The codes of the reset scan table in entry order (07_feedback_converter.md R170). -/
def scanResetCodes : List Nat :=
  [0x50, 0x51, 0x52, 0x53, 0x54, 0x55, 0x56, 0x57, 0x58, 0x40, 0x44, 0x45, 0x46, 0x47, 0x69, 0x67, 0x68, 0x63, 0x64, 0x60]

/-- The reset value of the register at an address; 0 where no register is assigned. -/
def resetWord (a : Nat) : Word :=
  if 0x40040100 ≤ a ∧ a < 0x40040180 then
    match scanResetCodes[(a - 0x40040100) / 4]? with
    | some c => BitVec.ofNat 32 (0x80000000 + c)
    | none => 0
  else
    match regRow a with
    | some r => BitVec.ofNat 32 r.reset
    | none => 0

end Sys2Proof.Machine
end

