-- ==== Sys2Proof/Machine/Ops.lean ====
section
/-! DEFINITION. The named operations over registers, tables and memory. -/

namespace Sys2Proof.Machine

/-! ### Registers -/

/-- The stored word of a register. -/
def State.reg (s : State) (a : Nat) : Word := tblGet resetWord s.regs a

/-- The state with a register's stored word replaced. -/
def State.setReg (s : State) (a : Nat) (w : Word) : State := { s with regs := tblSet resetWord s.regs a w }

/-- The value of a field of a word. -/
def fldOf (w : Word) (f : Fld) : Nat := bitsAt w.toNat f.lo (f.hi + 1 - f.lo)

/-- A word with a field replaced. -/
def fldPut (w : Word) (f : Fld) (v : Nat) : Word := BitVec.ofNat 32 (setBits w.toNat f.lo (f.hi + 1 - f.lo) v)

/-- The value of a register field. -/
def State.get (s : State) (f : Fld) : Nat := fldOf (s.reg f.addr) f

/-- The state with a register field replaced. -/
def State.set (s : State) (f : Fld) (v : Nat) : State := s.setReg f.addr (fldPut (s.reg f.addr) f v)

/-- A one-bit field as a truth value. -/
def State.bit (s : State) (f : Fld) : Bool := s.get f ≠ 0

/-- A one-bit field written from a truth value. -/
def State.setB (s : State) (f : Fld) (b : Bool) : State := s.set f (b2n b)

/-- Bit i of a field. -/
def State.bitI (s : State) (f : Fld) (i : Nat) : Bool := (s.get f).testBit i

/-- Bit i of a field written. -/
def State.setI (s : State) (f : Fld) (i : Nat) (b : Bool) : State := s.set f (setBit (s.get f) i b)

/-- A counter field incremented, saturating at its width (00_scope.md R13). -/
def State.incSat (s : State) (f : Fld) : State := s.set f (satN (2 ^ (f.hi + 1 - f.lo) - 1) (s.get f + 1))

/-- A counter field incremented, wrapping. -/
def State.incWrap (s : State) (f : Fld) : State := s.set f (s.get f + 1)

/-- A 32-bit field as s32. -/
def State.getS (s : State) (f : Fld) : Int := signedN (f.hi + 1 - f.lo) (s.get f)

/-- A signed value into a field. -/
def State.setS (s : State) (f : Fld) (x : Int) : State := s.set f (bitsN (f.hi + 1 - f.lo) x)

/-- What a bus write stores under the access codes (00 R11, R12): RW fields, RWL fields while they are open, W1C bits
cleared; RO, WO and reserved bits are left. -/
def accessWrite (r : RegRow) (rwl : Bool) (old w : Nat) : Nat :=
  let m := if rwl then r.rw ||| r.rwl else r.rw
  let kept := old - (old &&& m)
  (kept - (kept &&& r.w1c &&& w)) + (w &&& m)

/-- A write of a word to a register under the access codes alone. -/
def State.plainWrite (s : State) (a : Nat) (w : Word) : State :=
  match regRow a with
  | some r => s.setReg a (BitVec.ofNat 32 (accessWrite r (modeRwl s.sys.mode) (s.reg a).toNat w.toNat))
  | none => s

/-- The block of an address: its number in units of 4 KiB (01_signal_to_speaker.md R24). -/
def blkOf (a : Nat) : Nat := a / 0x1000

/-- The offset in the block. -/
def offOf (a : Nat) : Nat := a % 0x1000

/-- An address of the register space (01 R24, R25). -/
def inRegs (a : Nat) : Bool := decide (0x40000000 ≤ a) && decide (a < 0x40130000)

/-- The place of an offset in the context registers of ENG: engine, context and register (09 R224). -/
def ctxPlace (o : Nat) : Nat × Nat × Nat := ((o - 0x400) / 0x60, (o - 0x400) % 0x60 / 0x20, (o - 0x400) % 0x20)

/-! ### The tables of the state, by index -/

def State.dom (s : State) (d : Nat) : Dom := tblGet (fun _ => {}) s.doms d
def State.modDom (s : State) (d : Nat) (f : Dom → Dom) : State := { s with doms := tblMod (fun _ => {}) s.doms d f }
def State.loop (s : State) (l : Nat) : Loop := tblGet (fun _ => {}) s.loops l
def State.modLoop (s : State) (l : Nat) (f : Loop → Loop) : State := { s with loops := tblMod (fun _ => {}) s.loops l f }
def State.prf (s : State) (d : Nat) : Prf := tblGet (fun _ => {}) s.prfs d
def State.modPrf (s : State) (d : Nat) (f : Prf → Prf) : State := { s with prfs := tblMod (fun _ => {}) s.prfs d f }
def State.lane (s : State) (c : Nat) : Lane := tblGet (fun _ => {}) s.lanes c
def State.modLane (s : State) (c : Nat) (f : Lane → Lane) : State := { s with lanes := tblMod (fun _ => {}) s.lanes c f }
def State.phase (s : State) (d p : Nat) : Phase := tblGet (fun _ => {}) s.phases (4 * d + p)
def State.modPhase (s : State) (d p : Nat) (f : Phase → Phase) : State :=
  { s with phases := tblMod (fun _ => {}) s.phases (4 * d + p) f }
def State.quant (s : State) (d g : Nat) : Quant := tblGet (fun _ => {}) s.quants (17 * d + g)
def State.setQuant (s : State) (d g : Nat) (q : Quant) : State :=
  { s with quants := tblSet (fun _ => {}) s.quants (17 * d + g) q }
def State.ball (s : State) (d g : Nat) : Ball := tblGet (fun _ => {}) s.balls (17 * d + g)
def State.setBall (s : State) (d g : Nat) (b : Ball) : State :=
  { s with balls := tblSet (fun _ => {}) s.balls (17 * d + g) b }
def State.modMon (s : State) (f : Mon → Mon) : State := { s with mon := f s.mon }
def State.modFls (s : State) (f : Fls → Fls) : State := { s with fls := f s.fls }
def State.modSys (s : State) (f : Sys → Sys) : State := { s with sys := f s.sys }
def State.modPwr (s : State) (f : Pwr → Pwr) : State := { s with pwr := f s.pwr }
def State.modTb (s : State) (f : TimeBase → TimeBase) : State := { s with tb := f s.tb }

/-- The core runs: out of reset and not held by a supply fault (13_supply_events.md R291, R293). -/
def State.coreRuns (s : State) : Bool := s.pwr.coreUp && !s.pwr.supplyHeld

/-- TB_NOW (02_time_base_and_clocks.md R36). -/
def State.now (s : State) : Nat := s.tb.now

/-- An entry of a bank: an unwritten bank holds 0, with ISGN = 0b111 in the CFG entry (03 R84). -/
def coefDflt (k : Nat) : Coef := if k % 128 = 89 then { m := 7, s := 0 } else {}

/-- The place of an entry of bank b of loop l. -/
def coefKey (l : Nat) (b : Bool) (i : Nat) : Nat := 256 * l + 128 * b2n b + i

def State.coef (s : State) (l : Nat) (b : Bool) (i : Nat) : Coef := tblGet coefDflt s.coefs (coefKey l b i)
def State.setCoef (s : State) (l : Nat) (b : Bool) (i : Nat) (c : Coef) : State :=
  { s with coefs := tblSet coefDflt s.coefs (coefKey l b i) c }

/-! ### Memory: Gallery and the local memories at their tester-view addresses (01_signal_to_speaker.md R24) -/

/-- What a byte that nothing has written reads as (log 5). -/
def memDflt (_ : Nat) : Byte := 0

/-- The canonical form of a memory. -/
def Memory.wf (m : List Host.Cell) : Bool := tblWf memDflt m

def State.rd8 (s : State) (a : Nat) : Byte := tblGet memDflt s.mem a
def State.wr8 (s : State) (a : Nat) (b : Byte) : State := { s with mem := tblSet memDflt s.mem a b }

/-- n bytes from an address, rising. -/
def State.rdBytes (s : State) (a : Nat) : Nat → List Byte
  | 0 => []
  | n + 1 => s.rd8 a :: s.rdBytes (a + 1) n

/-- Bytes to an address, rising. -/
def State.wrBytes (s : State) (a : Nat) : List Byte → State
  | [] => s
  | b :: t => (s.wr8 a b).wrBytes (a + 1) t

/-- A little-endian word. -/
def State.rd32 (s : State) (a : Nat) : Nat := leVal (s.rdBytes a 4)
def State.wr32 (s : State) (a v : Nat) : State := s.wrBytes a (le 4 v)
def State.rd64 (s : State) (a : Nat) : Nat := leVal (s.rdBytes a 8)
def State.wr64 (s : State) (a v : Nat) : State := s.wrBytes a (le 8 v)

/-! ### Events (15_drip_and_flowstone.md R334 to R336) -/

/-- The source code of an event code (15 R333). -/
def evtSource (code : Nat) : Nat :=
  if code < 0x0800 then code / 0x100
  else if code < 0x0A00 then 0x08
  else if code < 0x0A10 then 0x09
  else if code < 0x0B00 then 0x0A
  else if code < 0x0B20 then 0x0B
  else if code < 0x0B40 then 0x0C
  else if code < 0x0B60 then 0x0D
  else if code < 0x0B80 then 0x0E
  else if code < 0x0BA0 then 0x0F
  else 0x10

/-- Codes that are never limited (15 R335). -/
def evtExempt (code : Nat) : Bool :=
  code == 0x0B07 || code == 0x0B23 || code == 0x0B41 || (0x0B61 ≤ code && code ≤ 0x0B63)

/-- The event-table entry that applies to a code, from the completion of LOAD (15 R335). -/
def State.evtEntry (s : State) (code : Nat) : Option EvtEntry :=
  if s.fls.evtOn then s.fls.evt.find? (fun e => e.code == code) else none

/-- Depth and refill period of a code's bucket (15 R335). -/
def State.bucketDP (s : State) (code : Nat) : Nat × Nat :=
  match s.evtEntry code with
  | some e => (max e.b 1, e.p)
  | none => (max (s.get R.FLS_RATE.DB) 1, s.get R.FLS_RATE.DP)

def State.bucket (s : State) (code : Nat) : Bucket := tblGet (fun _ => {}) s.fls.buckets code
def State.setBucket (s : State) (code : Nat) (b : Bucket) : State :=
  s.modFls fun f => { f with buckets := tblSet (fun _ => {}) f.buckets code b }

/-- Records with the first of lowest severity removed; applied to the reversed queue it removes the one that registered last. -/
def dropSev (m : BitVec 2) : List FRec → List FRec
  | [] => []
  | r :: t => if r.sev = m then t else r :: dropSev m t

/-- The lowest severity of a queue. -/
def minSev : List FRec → BitVec 2
  | [] => 3
  | r :: t => if r.sev ≤ minSev t then r.sev else minSev t

/-- A record arrives at the staging queue of 32 (15 R336). -/
def State.stage (s : State) (r : FRec) : State :=
  let q := s.fls.stage ++ [r]
  if q.length ≤ 32 then s.modFls fun f => { f with stage := q }
  else
    let q' := (dropSev (minSev q) q.reverse).reverse
    let s1 := s.modFls fun f => { f with stage := q', cnt := { f.cnt with dropStg := satN 0xFFFFFFFF (f.cnt.dropStg + 1) } }
    (s1.incSat R.FLS_CNT.DROPSTG).setB R.FLS_STAT.STGOVF true

/-- Twelve data bytes. -/
def data12 (l : List Byte) : List Byte := (l ++ List.replicate 12 0).take 12

/-- A raise handed to the recorder with a given timestamp (15 R334, R335). -/
def State.raiseAt (s : State) (ts code sev : Nat) (data : List Byte) : State :=
  let dis := match s.evtEntry code with
    | some e => e.dis && sev != 3
    | none => false
  if dis then s
  else
    let (b, p) := s.bucketDP code
    let bk := s.bucket code
    let rec0 : FRec :=
      { seq := 0, ts := BitVec.ofNat 48 ts, code := BitVec.ofNat 16 code, sev := BitVec.ofNat 2 sev,
        src := BitVec.ofNat 6 (evtSource code), tally := false, pl := false,
        supp := BitVec.ofNat 16 bk.supp, data := data12 data }
    let tok := min bk.tok b
    if evtExempt code || p == 0 then
      (s.setBucket code { bk with supp := 0 }).stage rec0
    else if tok = 0 then
      let s1 := s.setBucket code { bk with tok := 0, supp := satN 0xFFFF (bk.supp + 1) }
      (s1.modFls fun f => { f with cnt := { f.cnt with suppr := satN 0xFFFFFFFF (f.cnt.suppr + 1) } }).setB R.FLS_STAT.SUPP true
    else
      (s.setBucket code { tok := tok - 1, ms := if tok = b then 0 else bk.ms, supp := 0 }).stage rec0

/-- The lag-corrected TB_NOW of a crossing that leaves its exact transition open (02 R35, log 8): a free value within one tick. -/
def State.nowFree (s : State) : Nat × State :=
  (s.now + Config.tbSkew s.freeCtr % 3 - 1, { s with freeCtr := s.freeCtr + 1 })

/-- Events that blocks outside the CCLK domain register: engines, Gallery and DMA, the T1 and TDM ports, the AON functions of the
supply, the CAN port, and Drip while the Drip RC clocks it (02 R33; 15_drip_and_flowstone.md R323; log 68). -/
def State.evtForeign (s : State) (code : Nat) : Bool :=
  (decide (0x0800 ≤ code) && decide (code < 0x0B00)) || [0x0B04, 0x0B05, 0x0B08].contains code ||
    (decide (0x0B80 ≤ code) && decide (code < 0x0BA0)) ||
      (decide (0x0B40 ≤ code) && decide (code < 0x0B60) && code != 0x0B41 && !s.fls.csrc)

/-- A block raises an event now: a CCLK event is stamped with TB_NOW, one that crosses with its corrected copy (15 R334; 02 R35). -/
def State.raise (s : State) (code sev : Nat) (data : List Byte) : State :=
  if s.evtForeign code then (s.nowFree.2).raiseAt s.nowFree.1 code sev data else s.raiseAt s.now code sev data

/-! ### Errors of the host's own making (00_scope.md R7; log 4) -/

/-- The counter of free values advances. -/
def State.bump (s : State) : State := { s with freeCtr := s.freeCtr + 1 }

/-- The free word of a place. -/
def State.freeWord (s : State) (a : Nat) : Word := Config.undefinedReg s.freeCtr a

/-- A write of a word to the register at an address by some meaning of it: where the write is such an error, a free word, brought
into the form that the register can hold, stands in for the word. -/
def State.served (s : State) (bad : Bool) (a : Nat) (w : Word) (fix : Word → Word) (f : State → Word → State) : State :=
  if bad then f s.bump (fix (s.freeWord a)) else f s w

/-- Fields replaced by free values. -/
def State.freeFlds (s : State) : List Fld → State
  | [] => s
  | f :: l => (s.bump.set f (s.freeWord f.addr).toNat).freeFlds l

/-- Fields given back the values they hold in s. -/
def State.keepFlds (s t : State) (l : List Fld) : State := l.foldl (fun u f => u.set f (s.get f)) t

/-- A function under settings that may be an error of the host's own making: it then works with free values in the fields listed,
and so can produce whatever it is otherwise able to produce; the fields keep what the host wrote. -/
def State.underSettings (s : State) (bad : Bool) (l : List Fld) (f : State → State) : State :=
  if bad then s.keepFlds (f (s.freeFlds l)) l else f s

end Sys2Proof.Machine
end

