-- ==== Sys2Proof/Machine/Fabric.lean ====
section
/-! DEFINITION. Shared operations of the loop fabric: frame lengths, the frame table, the lowest-wins selector,
and setting and clearing RUN bits. -/

namespace Sys2Proof.Machine

/-- The global loop number (00_scope.md R3). -/
def loopNo (d j : Nat) : Nat := 12 * d + j

/-- The audio half-period in ticks (06_edges_and_phases.md R126). -/
def State.audioH (s : State) (d : Nat) : Nat :=
  match s.get (R.PWM_CFG.ASW d) with
  | 0 => 512
  | 1 => 256
  | 2 => 128
  | _ => 128 * 2 ^ ((s.freeWord (R.PWM_CFG.at d)).toNat % 3)

/-- The supply half-cycle Hs in ticks (06 R126). -/
def State.supplyH (s : State) (d : Nat) : Nat :=
  match s.get (R.PWM_CFG.SSW d) with
  | 0 => 2048
  | 1 => 1536
  | 2 => 1024
  | _ => 768

/-- The width unit of the supply carriers in taps (06 R126). -/
def State.widthUnit (s : State) (d : Nat) : Nat := if s.get (R.PWM_CFG.SSW d) < 2 then 4 else 2

/-- The offset of rank 0; one that no half-cycle holds is an error of the host's own making and stands for any (06 R153). -/
def State.sbase (s : State) (d : Nat) : Nat :=
  let v := s.get (R.PWM_SPH.SBASE d)
  if v < 16 * s.supplyH d then v else (s.freeWord (R.PWM_SPH.at d)).toNat % (16 * s.supplyH d)

/-- The outer frame F_V in ticks (04_loop_nesting_and_plausibility.md R85; 06 R126). -/
def State.outerF (s : State) (d : Nat) : Nat := (s.get (R.PWM_CFG.MDIV d) + 1) * s.supplyH d

/-- The frame length of loop slot j (03_kareo_loop_fabric.md R54). -/
def State.frameLen (s : State) (d j : Nat) : Nat :=
  if j < 4 then s.audioH d else if j < 8 then s.outerF d else s.supplyH d

/-- The frame-table code of loop slot j (07_feedback_converter.md R157). -/
def loopCode (d j : Nat) : Nat :=
  if j < 4 then 4 * d + j
  else if j = 4 then 0x20 + d
  else if j = 5 then 0x30 + d
  else if j = 6 then 0x28 + d
  else if j = 7 then 0x2C + d
  else 0x10 + 4 * d + (j - 8)

/-- The first entry of the share of domain d that names a code (07 R159). -/
def State.frameEntry (s : State) (d code : Nat) : Option Nat :=
  (List.range 48).find? (fun i => s.get (R.ADC_FRAME.CODE (48 * d + i)) == code)

/-- The first sample instant of loop slot j after a tick; the end of its frame where the share has no entry (07 R159). -/
def State.nextInstant (s : State) (d j t : Nat) : Nat :=
  match s.frameEntry d (loopCode d j) with
  | some i =>
    let n := s.get (R.ADC_FRAME.PER (48 * d + i)) + 1
    let ph := s.get (R.ADC_FRAME.PHS (48 * d + i))
    let sg := t / 4 + 1
    4 * (sg + (ph + n - sg % n) % n)
  | none => t + s.frameLen d j

/-- The first tick after t of the grid of VL sample instants, or of F_V without a VL entry (03 R82). -/
def State.swapBoundary (s : State) (d t : Nat) : Nat :=
  let fv := s.outerF d
  match s.frameEntry d (0x20 + d) with
  | some _ => s.nextInstant d 4 (t + fv - 1)
  | none => (t + fv + fv - 1) / fv * fv

/-- RUN bit of a loop (03 R54). -/
def State.running (s : State) (d j : Nat) : Bool := s.bitI (R.LFC_RUN.RUN d) j

/-- DEG bit of a loop (04 R97). -/
def State.degraded (s : State) (d j : Nat) : Bool := s.bitI (R.LFC_PLSTAT.DEG d) j

/-- The active bank of a loop (03 R80). -/
def State.actBank (s : State) (d j : Nat) : Bool := s.bitI (R.LFC_BANK.ACT d) j

/-- What outer loop j offers the selector (04 R87). -/
def State.contribution (s : State) (d j : Nat) : Option Int :=
  let l := s.loop (loopNo d j)
  if s.running d j then
    if s.degraded d j then some l.heldU else some l.uLast
  else if s.bitI (R.LFC_FAULT.LF d) j then some (s32 (s.coef (loopNo d j) (s.actBank d j) 85).m)
  else none

/-- The smallest contribution among the slots listed, with its slot; equal ones go to the lowest slot (04 R87, R91). -/
def State.lowest (s : State) (d : Nat) : List Nat → Option (Nat × Int)
  | [] => none
  | j :: t =>
    match s.contribution d j, s.lowest d t with
    | some u, some (k, v) => if u ≤ v then some (j, u) else some (k, v)
    | some u, none => some (j, u)
    | none, r => r

/-- The winner: 0 and no name when VL offers nothing (04 R87). -/
def State.winnerOf (s : State) (d : Nat) : Option Nat × Int :=
  match s.contribution d 4, s.lowest d [4, 5, 6, 7] with
  | some _, some (k, v) => (some k, v)
  | _, _ => (none, 0)

/-- The winner in force (04 R105 LFC_SELVAL). -/
def State.winner (s : State) (d : Nat) : Int := s.getS (R.LFC_SELVAL.W d)

/-- The winner as it stood at the end of the tick before this one (04 R90). -/
def State.winnerBefore (s : State) (d : Nat) : Int :=
  if (s.dom d).winTick = some s.now then (s.dom d).winPrev else s.winner d

/-- One evaluation of the selector; the first of a tick keeps the winner of the tick before (04 R88, R90, R91). -/
def State.selEval (s : State) (d : Nat) : State :=
  let w := s.winnerOf d
  let s0 := if (s.dom d).winTick = some s.now then s
    else s.modDom d fun x => { x with winPrev := s.winner d, winTick := some s.now }
  let s1 := s0.setS (R.LFC_SELVAL.W d) w.2
  match w.1 with
  | some k => (s1.set (R.LFC_SEL.WIN d) (k - 4)).setI (R.LFC_SEL.WON d) (k - 4) true
  | none => s1.set (R.LFC_SEL.WIN d) 7

/-- The results record of routine 0xFE00: status, Re and Im in Q16.16 (16_service_and_vehicle_bus.md R366). -/
def zRecord (err : Bool) (zvs zvc zis zic : Int) : List Byte :=
  let a := zvc
  let b := -zvs
  let c := zic
  let e := -zis
  let den := c * c + e * e
  if den = 0 then (if err then [2] else [3]) ++ List.replicate 8 0
  else
    let re := sat32 (((a * c + b * e) * 131072 + den) / (2 * den))
    let im := sat32 (((b * c - a * e) * 131072 + den) / (2 * den))
    (if err then [2] else [1]) ++ be 4 (bitsN 32 re) ++ be 4 (bitsN 32 im)

/-- A measurement of domain d has ended: a routine's channel keeps its result (16 R366). -/
def State.zCapture (s : State) (d : Nat) : State :=
  let c := 4 * d + s.get (R.LFC_ZCFG.CH d)
  let k := tblGet (fun _ => 0) s.dsu.zrout c
  if k = 1 ∨ k = 2 then
    let x := s.dom d
    let err := s.bit (R.LFC_ZCFG.ERR d)
    { s with dsu := { s.dsu with
        zrout := tblSet (fun _ => 0) s.dsu.zrout c (k + 2)
        zres := if k = 1 then tblSet (fun _ => []) s.dsu.zres c (zRecord err x.zvs x.zvc x.zis x.zic) else s.dsu.zres } }
  else s

/-- A running impedance measurement stops early: BUSY 0, DONE 1, ERR 1 (04 R104). -/
def State.zStop (s : State) (d : Nat) : State :=
  if (s.dom d).zrun then
    ((((s.modDom d fun x => { x with zrun := false }).setB (R.LFC_ZCFG.BUSY d) false).setB (R.LFC_ZCFG.DONE d) true).setB
      (R.LFC_ZCFG.ERR d) true).zCapture d
  else s

/-- A measurement on channel k of the domain stops (04 R104). -/
def State.zStopOn (s : State) (d k : Nat) : State :=
  if s.get (R.LFC_ZCFG.CH d) = k then s.zStop d else s

/-- The innovation and freeze monitors of a loop are blanked for n samples (04 R96). -/
def blanked (n : Nat) (l : Loop) : Loop :=
  if n = 0 then { l with blank := 0 } else { l with blank := n, exWin := [], frzCnt := 0 }

/-- The gates of a domain that loop slot j drives; none of an outer loop (08_monitors_and_protection.md R187, R192). -/
def laneMask (j : Nat) : Nat := if j < 4 then 0x300 * 4 ^ j else if j < 8 then 0 else 3 * 4 ^ (j - 8)

/-- Protection controls a gate of the lane of loop slot j (08 R192). -/
def State.laneOvr (s : State) (d j : Nat) : Bool := (s.dom d).ovr &&& laneMask j != 0

/-- One RUN bit cleared: the loop is no longer computed, its pending swap is dropped (03 R54, R83). -/
def State.stopLoop (s : State) (d j : Nat) : State :=
  let s1 := (s.setI (R.LFC_RUN.RUN d) j false).setI (R.LFC_BANK.PEND d) j false
  let s2 := s1.modLoop (loopNo d j) fun l =>
    { l with opn := false, jobQ := [], swapT := none, preReady := false, yHave := false, missArm := false }
  let s3 := s2.modDom d fun x => { x with jobRun := if x.jobRun = some j then none else x.jobRun }
  if j < 4 then s3.zStopOn d j else s3

/-- The evaluation that a change of RUN or of LFC_FAULT of a loop triggers, if it is an outer loop (04 R88). -/
def State.selTrig (s : State) (d j : Nat) : State := if 4 ≤ j ∧ j < 8 then s.selEval d else s

/-- RUN bits cleared in ascending slot, with one evaluation of the selector for each outer loop that stops; with outer loops in the
mask the selector re-evaluates at the end too (03 R54; 04 R88, R90). -/
def State.clearRun (s : State) (d mask : Nat) : State :=
  let run := s.get (R.LFC_RUN.RUN d)
  let s1 := (List.range 12).foldl
    (fun t j => if mask.testBit j && run.testBit j then (t.stopLoop d j).selTrig d j else t) s
  if mask &&& 0xF0 = 0 then s1 else s1.selEval d

/-- Load accumulators of a channel cleared (04 R102). -/
def ldClear (l : Loop) : Loop := { l with ldp := 0, ldq := 0, ldw := 0, ldn := 0 }

/-- One RUN bit set: faults, degradation and causes clear, the monitors start blanked, the first job is released
and latches its bank (03 R74, R78, R82; 04 R87, R96, R97, R102; 06 R131, R135). The runs of SHORT and OPEN, and the sample to compare
with in the freeze monitor, start anew (log 73). -/
def State.startLoop (s : State) (d j : Nat) : State :=
  let ln := loopNo d j
  let s1 := ((s.setI (R.LFC_RUN.RUN d) j true).setI (R.LFC_FAULT.LF d) j false).setI (R.LFC_PLSTAT.DEG d) j false
  let s2 := (s1.set (R.LFC_FCAUSE.CAUSE d) (setBits (s1.get (R.LFC_FCAUSE.CAUSE d)) (2 * j) 2 0)).set
    (R.LFC_PLCAUSE.CAUSE d) (setBits (s1.get (R.LFC_PLCAUSE.CAUSE d)) (2 * j) 2 0)
  let bk := s2.actBank d j
  let inst := s2.nextInstant d j s2.now
  let s3 := s2.modLoop ln fun l =>
    { ldClear l with
      missRun := 0, missArm := false, handed := false, uLast := l.ua, uApp := l.ua, exWin := [], frzCnt := 0, lostCnt := 0,
      blank := s2.get (R.LFC_PLCTL.BLANK d), haveLast := false, degCnt := 0, ramp := 0,
      opn := false, preReady := false, yHave := false,
      jobQ := [{ post := none, inst := inst, dl := inst + s2.frameLen d j - 47 }], bank := bk, swapT := none,
      ldShort := 0, ldOpen := 0 }
  let s4 := s3.modMon fun m =>
    { m with loopLat := tblErase (tblErase m.loopLat (92 + 2 * ln)) (93 + 2 * ln),
             live := tblErase (tblErase m.live (92 + 2 * ln)) (93 + 2 * ln) }
  if j < 4 then
    let c := 4 * d + j
    ((s4.setQuant d (8 + 2 * j) {}).setQuant d (9 + 2 * j) {}).modLane c (fun l => { l with duty := none, armed := none })
      |>.set (R.LFC_LDR.BLK d j) 0
  else if 8 ≤ j then
    (s4.setQuant d (2 * (j - 8)) {}).modPhase d (j - 8) (fun p => { p with duty := none, armed := none, fresh := false })
  else s4

/-- RUN bits set in ascending slot within one tick, with one evaluation of the selector for each outer loop (11 R254; 04 R88). -/
def State.setRun (s : State) (d mask : Nat) : State :=
  (List.range 12).foldl (fun t j => if mask.testBit j then (t.startLoop d j).selTrig d j else t) s

/-- State-space entries 0 to 14 of a loop cleared (03 R68). -/
def clearSpace (l : Loop) : Loop :=
  { l with x := [0, 0, 0, 0, 0, 0], s11 := 0, s21 := 0, s12 := 0, s22 := 0, ua := 0, e := 0, r := 0, g := 0, d := 0
           ecc := l.ecc.filter fun q => decide (q.1 < 256) }

/-- The state space of every loop of a domain cleared (03 R68). -/
def State.clearSpaces (s : State) (d : Nat) : State :=
  (List.range 12).foldl (fun t j => t.modLoop (loopNo d j) clearSpace) s

/-- A domain state in which sources of protection are of the domain's present run (08_monitors_and_protection.md R185, R190). -/
def dstLatches : Dst → Bool
  | .precharge | .active | .muted | .faulted => true
  | _ => false

/-- A loop faults, running or not: bit and cause, RUN cleared, protection signalled, event 0x0302 (03 R78, R79). A count of
consecutive misses above 255 shows as 255, as in event 0x0301 (log 71). In OFF and RELOAD, where every loop source ends, the fault
makes none active (08 R185; log 69). -/
def State.loopFault (s : State) (d j cause : Nat) : State :=
  let ln := loopNo d j
  let n := (s.loop ln).missRun
  let s1 := (s.setI (R.LFC_FAULT.LF d) j true).set (R.LFC_FCAUSE.CAUSE d)
    (setBits (s.get (R.LFC_FCAUSE.CAUSE d)) (2 * j) 2 cause)
  let s2 := if s.running d j then s1.stopLoop d j else s1
  let s3 := s2.modMon fun m => { m with live := tblSet (fun _ => false) m.live (92 + 2 * ln) (dstLatches (s.dom d).dst) }
  (s3.raise 0x0302 2 (le 1 ln ++ le 1 cause ++ le 1 (satN 255 n))).selTrig d j

/-- The number of this device in the ensemble. -/
def State.ensPos (s : State) : Nat := s.get R.ENS_CFG.POS

/-- The shift of R51 for a carrier period of P ticks, in ticks. -/
def State.ensShift (s : State) (per : Nat) : Nat :=
  if s.bit R.ENS_CFG.EN then s.get R.ENS_CFG.POS * per / (4 * (s.get R.ENS_CFG.NDEV + 1)) else 0

/-- The active phases of a mask ranked in ascending index. -/
def phaseRanks (mask : Nat) : List Nat := (List.range 4).filter (fun p => mask.testBit p)

/-- The target offset of rank i among n (06 R143). -/
def State.phaseTarget (s : State) (d i n : Nat) : Int :=
  let hs := s.supplyH d
  ((s.sbase d + i * 16 * hs / n + 16 * s.ensShift (2 * hs)) % (16 * hs) : Nat)

/-- Targets given to the ranks in order (06 R143). -/
def State.giveTargets (s : State) (d n : Nat) : Nat → List Nat → State
  | _, [] => s
  | i, p :: t => (s.modPhase d p fun x =>
      { x with target := s.phaseTarget d i n, glid := x.glid || decide (x.theta ≠ s.phaseTarget d i n) }).giveTargets d n (i + 1) t

/-- GLIDE shows whether an active phase is away from its target (06 R143). -/
def State.showGlide (s : State) (d : Nat) : State :=
  s.setB (R.PWM_PHASES.GLIDE d)
    ((phaseRanks (s.get (R.PWM_PHASES.ACT d))).any fun p => (s.phase d p).glid)

/-- The active set replaced: counts, new targets, the shed count restarts (06 R140, R143). -/
def State.setActive (s : State) (d mask : Nat) : State :=
  let s1 := (s.set (R.PWM_PHASES.ACT d) mask).set (R.PWM_PHASES.CNT d) (popN 4 mask)
  let s2 := s1.modDom d fun x => { x with shedCnt := 0 }
  (s2.giveTargets d (popN 4 mask) 0 (phaseRanks mask)).showGlide d

/-- The edge fabric asks for low at both gates of a phase. -/
def State.phaseLow (s : State) (d p : Nat) : State :=
  (s.setBall d (2 * p) { s.ball d (2 * p) with fab := false }).setBall d (2 * p + 1)
    { s.ball d (2 * p + 1) with fab := false }

/-- A faulted phase enters FLTP and leaves the active set; event 0x0504 (06 R144, R154). -/
def State.phaseFault (s : State) (d p : Nat) : State :=
  if s.bitI (R.PWM_PHASES.FLTP d) p then s
  else
    let s1 := s.setI (R.PWM_PHASES.FLTP d) p true
    let act := setBit (s1.get (R.PWM_PHASES.ACT d)) p false
    let s2 := (s1.phaseLow d p).modPhase d p fun x => { x with soft := false, softK := 0, stopPend := false, pulsing := false }
    let s3 := (s2.setI (R.PWM_PHASES.SOFT d) p false).setActive d act
    s3.raise 0x0504 1 (le 1 d ++ le 1 p ++ le 1 act)

/-- The number of phases of PHEN that are not in FLTP (06 R139). -/
def State.nAvail (s : State) (d : Nat) : Nat :=
  let fl := s.get (R.PWM_PHASES.FLTP d)
  let en := s.get (R.PWM_PHASES.PHEN d)
  popN 4 (en - (en &&& fl))

end Sys2Proof.Machine
end

