-- ==== Sys2Proof/Machine/EngBase.lean ====
section
/-! DEFINITION. Shared operations of the engines: context states, violations, stops, and the requests that frozen
contexts and channels make (09_zuelm_engines_and_gallery.md R200 to R222). -/

namespace Sys2Proof.Machine

/-- Context states as ENG_CTX.STATE codes them (09 R201, R224). -/
def cxStop : Nat := 0
def cxIdle : Nat := 1
def cxReady : Nat := 2
def cxRun : Nat := 3
def cxWaiting : Nat := 4
def cxFrozen : Nat := 5

/-- Channel states as DMA_ST.STATE codes them (09 R226). -/
def chIdle : Nat := 0
def chBusy : Nat := 1
def chFrozen : Nat := 2
def chAborted : Nat := 3

def State.ctx (s : State) (e x : Nat) : Ctx := tblGet (fun _ => {}) s.eng.ctxs (3 * e + x)
def State.modEng (s : State) (f : Eng → Eng) : State := { s with eng := f s.eng }
def State.modCtx (s : State) (e x : Nat) (f : Ctx → Ctx) : State :=
  s.modEng fun g => { g with ctxs := tblMod (fun _ => {}) g.ctxs (3 * e + x) f }
def State.cxState (s : State) (e x : Nat) : Nat := s.get (R.ENG_CTX.STATE e x)
def State.setCx (s : State) (e x st : Nat) : State := s.set (R.ENG_CTX.STATE e x) st
def State.engRun (s : State) (e : Nat) : Bool := s.bit (R.ENG_CTL.RUN e)

/-- The running context of an engine. -/
def State.running? (s : State) (e : Nat) : Option Nat :=
  match tblGet (fun _ => 0) s.eng.run e with
  | 0 => none
  | x + 1 => some x

def State.setRunning (s : State) (e : Nat) (x : Option Nat) : State :=
  s.modEng fun g => { g with run := tblSet (fun _ => 0) g.run e (match x with | some k => k + 1 | none => 0) }

def State.chState (s : State) (n : Nat) : Nat := s.get (R.DMA_ST.STATE n)
def State.setCh (s : State) (n st : Nat) : State := s.set (R.DMA_ST.STATE n) st

/-- ECLK runs: no engine and no mover runs before PLL B is locked (02_time_base_and_clocks.md R29, R30). -/
def State.eclkRuns (s : State) : Bool := s.coreRuns && s.bit R.CLK_STAT.PLLB_LOCK

/-! ### Register queues (09 R198, R204; 02 R34) -/

/-- The accesses that wait in the register queue of a master, oldest first. -/
def State.regQ (s : State) (m : Nat) : List QAcc := tblGet (fun _ => []) s.eng.regQ m
def State.setRegQ (s : State) (m : Nat) (l : List QAcc) : State :=
  s.modEng fun g => { g with regQ := tblSet (fun _ => []) g.regQ m l }

/-- A queue of 8 entries takes n more accesses. -/
def State.regRoom (s : State) (m n : Nat) : Bool := decide ((s.regQ m).length + n ≤ 8)

/-- An access enters a queue. -/
def State.pushQ (s : State) (m : Nat) (q : QAcc) : State := s.setRegQ m (s.regQ m ++ [q])

/-- No context waits any more for reads of a context in the queue: its bank was cleared. -/
def State.dropReads (s : State) (e x : Nat) : State :=
  s.setRegQ e ((s.regQ e).map fun q => if q.ctx = some x then { q with ctx := none } else q)

/-- The word of the oldest read of a list that still waits in the queue. -/
def fillRead (w : Word) : List (Nat × Option Word) → List (Nat × Option Word)
  | [] => []
  | (r, none) :: t => (r, some w) :: t
  | p :: t => p :: fillRead w t

/-! ### Channels and engines -/

/-- The channels that belong to an engine (09 R216). -/
def State.chansOf (s : State) (e : Nat) : List Nat :=
  (List.range 32).filter fun n => s.get (R.DMA_CH.ENG n) == e

/-- BUSY channels of an engine bound to a context become ABORTED (09 R219). -/
def State.abortBound (s : State) (e x : Nat) : State :=
  (s.chansOf e).foldl (fun t n =>
    if t.chState n = chBusy ∧ t.get (R.DMA_ST.BCTX n) = x then t.setCh n chAborted else t) s

/-- BUSY channels of an engine become ABORTED (09 R219). -/
def State.abortAll (s : State) (e : Nat) : State :=
  (s.chansOf e).foldl (fun t n => if t.chState n = chBusy then t.setCh n chAborted else t) s

/-- FROZEN and ABORTED channels of an engine become IDLE: a reload of its domain (09 R220). -/
def State.freeChans (s : State) (e : Nat) : State :=
  (s.chansOf e).foldl (fun t n =>
    if t.chState n = chFrozen ∨ t.chState n = chAborted then (t.setCh n chIdle).set (R.DMA_ST.CAUSE n) 0 else t) s

/-- RUN 1 to 0: every context STOP, pending activations gone, BUSY channels ABORTED (09 R201, R219). -/
def State.engStop (s : State) (e : Nat) : State :=
  let s1 := ((s.setB (R.ENG_CTL.RUN e) false).setRunning e none).abortAll e
  (List.range 3).foldl (fun t x =>
    ((t.setCx e x cxStop).modCtx e x fun c => { c with pend := false, wait := none, rd := [] }).dropReads e x) s1

/-- RUN 0 to 1: every register, accumulator, flag and stack of every context cleared, restart counts cleared;
contexts with EN = 1 become READY at ENG_ENTRY (09 R200, R201, R224). -/
def State.engStart (s : State) (e : Nat) : State :=
  let s1 := (s.setB (R.ENG_CTL.RUN e) true).setRunning e none
  (List.range 3).foldl (fun t x =>
    let t1 := ((t.modCtx e x fun _ => { pc := t.get (R.ENG_ENTRY.PC e x) }).dropReads e x).set (R.ENG_CTX.RSTCNT e x) 0
    t1.setCx e x (if t1.bit (R.ENG_CTX.EN e x) then cxReady else cxStop)) s1

/-- The recovery in force for a frozen context: RESTART becomes DOMAIN once RSTCNT is 4, and DOMAIN of a system
engine acts as DEVICE (09 R222). -/
def State.fpolOf (s : State) (e x : Nat) : Nat :=
  let f := s.get (R.ENG_CTX.FPOL e x)
  let f1 := if f = 1 ∧ 4 ≤ s.get (R.ENG_CTX.RSTCNT e x) then 2 else f
  if f1 = 2 ∧ 4 ≤ s.get (R.ENG_CTL.DOM e) then 3 else f1

/-- The frozen channels. -/
def State.frozenChans (s : State) : List Nat := (List.range 32).filter fun n => s.chState n == chFrozen

/-- A context is frozen, or a channel bound to it is and its FPOL names DOMAIN or DEVICE (09 R220, R222). -/
def State.holdsFreeze (s : State) (fc : List Nat) (e x : Nat) : Bool :=
  s.cxState e x == cxFrozen ||
    (fc.any fun n => s.get (R.DMA_CH.ENG n) == e && s.get (R.DMA_ST.BCTX n) == x && decide (2 ≤ s.get (R.ENG_CTX.FPOL e x)))

/-- Every engine and context. -/
def allCtxs : List (Nat × Nat) := (List.range 16).flatMap fun e => (List.range 3).map fun x => (e, x)

/-- The engine policy requests FAULTED with repair for domain d (11_modes.md R258; 09 R222). -/
def State.engDomReq (s : State) (d : Nat) : Bool :=
  let fc := s.frozenChans
  allCtxs.any fun q => s.holdsFreeze fc q.1 q.2 && s.fpolOf q.1 q.2 == 2 && s.get (R.ENG_CTL.DOM q.1) == d

/-- The engine policy requests FAULTED for every domain (11 R258; 09 R222). -/
def State.engDevReq (s : State) : Bool :=
  let fc := s.frozenChans
  allCtxs.any fun q => s.holdsFreeze fc q.1 q.2 && s.fpolOf q.1 q.2 == 3

/-- nFAULT is asked for by an engine policy (09 R222). -/
def State.engNflt (s : State) : Bool :=
  s.engDevReq || (List.range 4).any s.engDomReq

/-- A context violates: it freezes, its cause and place are kept, its channels end, event 0x0801 (09 R222, R227). -/
def State.violate (s : State) (e x cause addr : Nat) : State :=
  let pc := (s.ctx e x).pc
  let va := if cause = 4 ∨ cause = 5 ∨ cause = 9 then 0 else addr
  let s1 := ((s.setCx e x cxFrozen).set (R.ENG_VIO.CAUSE e x) cause).set (R.ENG_VIO.FPC e x) pc
  let s2 := (s1.set (R.ENG_VADR.V e x) va).modCtx e x fun c => { c with wait := none }
  let s3 := if s2.running? e = some x then s2.setRunning e none else s2
  (s3.abortBound e x).raise 0x0801 2 (le 1 e ++ le 1 x ++ le 1 cause ++ le 2 pc ++ le 4 va)

/-- An activation of a context (09 R202). -/
def State.activate (s : State) (e x : Nat) : State :=
  let st := s.cxState e x
  if st = cxStop ∨ st = cxFrozen then s
  else if st = cxIdle then s.setCx e x cxReady
  else
    let s1 := (s.modCtx e x fun c => { c with pend := true }).incSat (R.ENG_CTX.OVRN e x)
    s1.raise 0x0805 1 (le 1 e ++ le 1 x ++ le 1 (s1.get (R.ENG_CTX.OVRN e x)))

/-- The shadow bank cleared and the context IDLE at ENTRY: the restart of R222 (09 R222). -/
def State.ctxRestart (s : State) (e x : Nat) : State :=
  (((s.modCtx e x fun _ => { pc := s.get (R.ENG_ENTRY.PC e x) }).dropReads e x).setCx e x cxIdle).abortBound e x

end Sys2Proof.Machine
end

