-- ==== Sys2Proof/Machine/Protect.lean ====
section
/-! DEFINITION. The sources of protection, their latches, and the union of their actions (08_monitors_and_protection.md R185 to R193).
A source is named by a number: 2m the LO and 2m + 1 the HI comparator of monitor m, 84 + i driver fault i,
92 + 2L the fault and 93 + 2L the degradation of loop L, 188 the ensemble. -/

namespace Sys2Proof.Machine

/-- The number of sources. -/
def srcCount : Nat := 189

/-- The owning domain of a source; none where every domain owns it (08 R187). -/
def srcOwner (i : Nat) : Option Nat :=
  if i < 84 then
    let m := i / 2
    if m < 16 then some (m / 4) else if m < 24 then some ((m - 16) / 2) else if m < 26 then none else some ((m - 26) / 4)
  else if i < 92 then some ((i - 84) / 2)
  else if i < 188 then some ((i - 92) / 24)
  else none

/-- The own lane of a source on domain d: bits 0 to 15 its gates (08 R187). -/
def srcLane (i d : Nat) : Nat :=
  match srcOwner i with
  | none => 0xFFFF
  | some o =>
    if o ≠ d then 0
    else if i < 84 then
      let m := i / 2
      if m < 16 then 3 * 4 ^ (m % 4) else if m < 24 then 0xFF else 0x300 * 4 ^ ((m - 26) % 4)
    else if i < 92 then (if i % 2 = 0 then 0xFF else 0xFF00)
    else
      let j := (i - 92) / 2 % 12
      if j < 4 then 0x300 * 4 ^ j else if j < 8 then 0xFF else 3 * 4 ^ (j - 8)

/-- The source is the fault of a loop (08 R188). -/
def srcLoopFault (i : Nat) : Bool := 92 ≤ i && i < 188 && i % 2 == 0

/-- The action word of a source (08 R185). -/
def State.srcWord (s : State) (i : Nat) : Nat :=
  if i < 84 then
    if i % 2 = 1 then s.get (R.MON_ACT.AHI (i / 2)) else s.get (R.MON_ACT.ALO (i / 2))
  else if i < 92 then s.get (R.MON_FACT.ACT (i - 84))
  else if i < 188 then
    let j := (i - 92) / 2 % 12
    let k := if j < 4 then 0 else if j < 8 then 2 else 1
    if i % 2 = 0 then s.get (R.MON_LACT.FLT k) else s.get (R.MON_LACT.DEG k)
  else s.get R.MON_EACT.ACT

/-- Fields of an action word (08 R186). -/
def awLatch (w : Nat) : Bool := w.testBit 15
def awScope (w : Nat) : Nat := bitsAt w 12 3
def awOvr (w : Nat) : Nat := bitsAt w 10 2
def awState (w : Nat) : Nat := bitsAt w 8 2
def awNflt (w : Nat) : Bool := w.testBit 7
def awEns (w : Nat) : Bool := w.testBit 6
def awSev (w : Nat) : Nat := bitsAt w 4 2

/-- nFLT inputs of a domain are masked while its drivers do not run or wake (08 R184). -/
def State.nfltMasked (s : State) (d : Nat) : Bool :=
  match (s.dom d).dst with
  | .off | .reload | .faulted => true
  | .precharge => !(s.dom d).awake
  | _ => false

/-- The condition of a source (08 R185). -/
def State.srcCond (s : State) (i : Nat) : Bool :=
  if i < 84 then
    if i % 2 = 1 then s.bit (R.MON_ST.FHI (i / 2)) else s.bit (R.MON_ST.FLO (i / 2))
  else if i < 92 then s.bitI R.MON_NFST.FLT (i - 84) && !s.nfltMasked ((i - 84) / 2)
  else if i < 188 then tblGet (fun _ => false) s.mon.live i
  else s.mon.ensSrc

/-- The latch of a source (08 R190). -/
def State.srcLat (s : State) (i : Nat) : Bool :=
  if i < 84 then
    if i % 2 = 1 then s.bit (R.MON_ST.LATH (i / 2)) else s.bit (R.MON_ST.LATL (i / 2))
  else if i < 92 then s.bitI R.MON_NFST.LAT (i - 84)
  else if i < 188 then tblGet (fun _ => false) s.mon.loopLat i
  else s.mon.ensLat

/-- The latch of a source written. -/
def State.setLat (s : State) (i : Nat) (b : Bool) : State :=
  if i < 84 then
    if i % 2 = 1 then s.setB (R.MON_ST.LATH (i / 2)) b else s.setB (R.MON_ST.LATL (i / 2)) b
  else if i < 92 then s.setI R.MON_NFST.LAT (i - 84) b
  else if i < 188 then s.modMon fun m => { m with loopLat := tblSet (fun _ => false) m.loopLat i b }
  else s.modMon fun m => { m with ensLat := b }

/-- The owning domain of a source is in a state in which its latch can set (08 R190). -/
def State.ownerLive (s : State) (i : Nat) : Bool :=
  match srcOwner i with
  | some d => dstLatches (s.dom d).dst
  | none => (List.range 4).any fun d => dstLatches (s.dom d).dst

/-- A source is active (08 R185). -/
def State.srcActive (s : State) (i : Nat) : Bool := s.srcCond i || s.srcLat i

/-- The active sources. -/
def State.activeSrcs (s : State) : List Nat := (List.range srcCount).filter s.srcActive

/-- The balls of domain d that an action's scope takes in: gates in bits 0 to 15, nDRVEN in bit 16 (08 R186). -/
def scopeMask (i scope d : Nat) : Nat :=
  let own := match srcOwner i with
    | some o => o == d
    | none => true
  if scope = 0 then 0
  else if scope = 1 then srcLane i d
  else if scope = 5 then 0x1FFFF
  else if !own then 0
  else if scope = 2 then 0xFF
  else if scope = 3 then 0xFF00
  else 0x1FFFF

/-- What one active source de-asserts on domain d (08 R186, R188). -/
def State.srcDe (s : State) (d i : Nat) : Nat :=
  let w := s.srcWord i
  let m := if awOvr w = 1 ∨ awOvr w = 3 then scopeMask i (awScope w) d else 0
  if srcLoopFault i then m ||| srcLane i d else m

/-- What one active source asserts on domain d: gates only (08 R186). -/
def State.srcAs (s : State) (d i : Nat) : Nat :=
  let w := s.srcWord i
  if awOvr w = 2 then scopeMask i (awScope w) d &&& 0xFFFF else 0

/-- The union of the de-asserting overrides on domain d (08 R189). -/
def State.protDe (s : State) (d : Nat) : Nat := s.activeSrcs.foldl (fun m i => m ||| s.srcDe d i) 0

/-- The union of the asserting overrides on domain d (08 R189). -/
def State.protAs (s : State) (d : Nat) : Nat := s.activeSrcs.foldl (fun m i => m ||| s.srcAs d i) 0

/-- The state request of one source for domain d: 0 none, 1 MUTED, 2 FAULTED, 3 FAULTED with repair (08 R189). -/
def State.srcReq (s : State) (d i : Nat) : Nat :=
  let w := s.srcWord i
  let own := match srcOwner i with
    | some o => o == d
    | none => true
  if own || awScope w == 5 then awState w else 0

/-- A MUTED request for domain d is in force, beside whatever stronger one (08 R189, R196). -/
def State.mutedReq (s : State) (d : Nat) : Bool := s.activeSrcs.any fun i => s.srcReq d i == 1

/-- The strongest state request that protection makes of domain d (08 R189). -/
def State.protReq (s : State) (d : Nat) : Nat := s.activeSrcs.foldl (fun m i => max m (s.srcReq d i)) 0

/-- nFAULT is asked for by an active source (08 R193). -/
def State.protNflt (s : State) : Bool := s.activeSrcs.any fun i => awNflt (s.srcWord i)

/-- STATUS.FAULT is asked for by an active source (08 R193). -/
def State.protEns (s : State) : Bool := s.activeSrcs.any fun i => awEns (s.srcWord i)

/-- The event of a source that becomes active (08 R197). -/
def State.srcEvent (s : State) (i : Nat) : State :=
  let sev := awSev (s.srcWord i)
  if i < 84 then
    if tblGet (fun _ => false) s.mon.released i then
      s.raise 0x0701 sev (le 1 (i / 2) ++ le 1 (i % 2) ++ le 2 (s.get (R.MON_THR.THI (i / 2))) ++ le 2 (s.get (R.MON_THR.TLO (i / 2))))
    else s
  else if i < 92 then
    s.raise 0x0702 sev (le 1 (i - 84) ++ le 1 (dstCode (s.dom ((i - 84) / 2)).dst) ++ le 3 s.now)
  else if i < 188 then s
  else s.raise 0x0704 sev (le 1 s.mon.ensDev ++ le 1 s.mon.ensMask)

/-- One source followed in one tick: its latch, its event, and the removal of a faulted phase (08 R188, R190, R197). -/
def State.srcFollow (s : State) (i : Nat) : State :=
  let c := s.srcCond i
  let rise := c && !(tblGet (fun _ => false) s.mon.cond i)
  let s1 := if rise && awLatch (s.srcWord i) && s.ownerLive i then s.setLat i true else s
  let a := c || s1.srcLat i
  let s2 := if a && !(tblGet (fun _ => false) s.mon.active i) then s1.srcEvent i else s1
  let s3 := s2.modMon fun m =>
    { m with cond := tblSet (fun _ => false) m.cond i c, active := tblSet (fun _ => false) m.active i a }
  if rise && srcLoopFault i && 8 ≤ (i - 92) / 2 % 12 then s3.phaseFault ((i - 92) / 24) ((i - 92) / 2 % 12 - 8) else s3

/-- The gates of domain d that protection controls; none while the domain state alone does (08 R189, R192). -/
def State.ovrNow (s : State) (d : Nat) : Nat :=
  if dstLatches (s.dom d).dst then (s.protDe d ||| s.protAs d) &&& 0xFFFF else 0

/-- A loop whose lane protection gives back is blanked for BLANK samples (08 R192; 04_loop_nesting_and_plausibility.md R96). -/
def State.ovrEnd (s : State) (d old new j : Nat) : State :=
  if old &&& laneMask j ≠ 0 ∧ new &&& laneMask j = 0 then
    s.modLoop (loopNo d j) fun l => blanked (max l.blank (s.get (R.LFC_PLCTL.BLANK d))) l
  else s

/-- The gates that protection controls are followed (08 R192). -/
def State.ovrFollow (s : State) (d : Nat) : State :=
  let old := (s.dom d).ovr
  let new := s.ovrNow d
  if old = new then s
  else (List.range 12).foldl (fun t j => t.ovrEnd d old new j) (s.modDom d fun x => { x with ovr := new })

/-- All sources followed, and what they control. -/
def State.protFollow (s : State) : State :=
  (List.range 4).foldl State.ovrFollow ((List.range srcCount).foldl State.srcFollow s)

/-- The sources owned by domain d. -/
def srcsOf (d : Nat) : List Nat := (List.range srcCount).filter fun i => srcOwner i == some d

/-- At the entry of domain d to OFF or RELOAD its latches clear and its loop sources end (08 R185, R190). -/
def State.protClear (s : State) (d : Nat) : State :=
  let s1 := (srcsOf d).foldl (fun t i => t.setLat i false) s
  s1.modMon fun m => { m with live := m.live.filter fun e => srcOwner e.1 != some d }

/-- At the entry of domain d to PRECHARGE the latches of sources whose condition holds set (08 R190);
those of the device-wide sources when it is the first domain to enter. -/
def State.protEnter (s : State) (d : Nat) (first : Bool) : State :=
  let ids := (List.range srcCount).filter fun i => srcOwner i == some d || (first && srcOwner i == none)
  ids.foldl (fun t i => if t.srcCond i && awLatch (t.srcWord i) then t.setLat i true else t) s

/-- The latches of the device-wide sources clear when the device leaves HOLD or passes through WAKE (08 R190). -/
def State.protClearDevice (s : State) : State :=
  ((List.range srcCount).filter fun i => srcOwner i == none).foldl (fun t i => t.setLat i false) s

end Sys2Proof.Machine
end

