-- ==== Sys2Proof/Machine/Balls.lean ====
section
/-! DEFINITION. The balls of R149: which source controls each, dead times, and the outputs that follow from the state
(06_edges_and_phases.md R146 to R150; 08 R193; 11_modes.md R247; 17_balls.md R375). -/

namespace Sys2Proof.Machine

/-- The safe level of ball g of domain d as a truth value: supply gates low, audio gates PWM_SAFE, nDRVEN high (06 R125). -/
def State.safeLevel (s : State) (d g : Nat) : Bool :=
  if g < 8 then false else if g < 16 then s.bitI (R.PWM_SAFE.SAFE d) (g - 8) else true

/-- The level of a truth value. -/
def lvlOf (b : Bool) : Lvl := if b then .high else .low

/-- The sources that can control a ball (06 R146). -/
inductive BallSrc | fabric | manual | asserting | deasserting
  deriving DecidableEq, Repr

/-- The level a manual override writes on ball g, if it acts (06 R146, R148). -/
def State.manualLevel (s : State) (d g : Nat) : Option Bool :=
  if s.sys.mode ≠ .service then none
  else
    let v := if g < 16 then bitsAt (s.get (R.PWM_OVR.OVG d)) (2 * g) 2 else s.get (R.PWM_OVRD.DRV d)
    if v = 1 then some false else if v = 2 then some true else none

/-- The level the edge fabric asks for at ball g: in the states in which the domain switches that of its edges, with nDRVEN low once
the drivers are on; else the safe level (06 R146, R149, R150). -/
def State.fabLevel (s : State) (d g : Nat) : Bool :=
  let x := s.dom d
  if !dstRuns x.dst then s.safeLevel d g
  else if g < 16 then (s.ball d g).fab
  else x.dst == .precharge && !x.drvOn

/-- The level of an asserting override; of a supply gate with a PWM_PAV bit that is not low, an error of the host's own making, any
level (08 R186). -/
def State.pavLevel (s : State) (d g : Nat) : Bool :=
  let v := s.bitI (R.PWM_PAV.PAV d) g
  if g < 8 && v then (s.freeWord (R.PWM_PAV.at d)).getLsbD g else v

/-- Which source controls ball g, and the level it asks for, given the overrides in force (06 R146). -/
def State.ballSource (s : State) (de as_ d g : Nat) : BallSrc × Bool :=
  if de.testBit g then (.deasserting, s.safeLevel d g)
  else if as_.testBit g && decide (g < 16) then (.asserting, s.pavLevel d g)
  else match s.manualLevel d g with
    | some b => (.manual, b)
    | none => (.fabric, s.fabLevel d g)

/-- The dead time of ball g in ticks (06 R147). -/
def State.deadTime (s : State) (d g : Nat) : Nat :=
  if g < 8 then s.get (R.PWM_STIM.GAP d) else if g < 16 then (s.get (R.PWM_ATIM.TDA d) + 15) / 16 else 0

/-- A ball goes to a driven level (06 R147): a de-asserting change at once; an asserting one when the dead time has passed,
for a supply gate with its partner low as long; otherwise it waits at the safe level. -/
def State.driveBall (s : State) (d g : Nat) (want : Bool) : State :=
  let b := s.ball d g
  let safe := s.safeLevel d g
  if want = safe then
    s.setBall d g { b with lvl := lvlOf safe, since := if b.lvl = lvlOf safe then b.since else s.now, hold := false }
  else if b.lvl = lvlOf want then s.setBall d g { b with hold := false }
  else
    let dt := s.deadTime d g
    let pb := s.ball d (if g % 2 = 0 then g + 1 else g - 1)
    let since := if b.lvl = .hiz then s.now else b.since
    let ok := (decide (since + dt ≤ s.now) || dt == 0) &&
      (decide (8 ≤ g) || (pb.lvl == .low && decide (pb.since + dt ≤ s.now)))
    if ok then s.setBall d g { b with lvl := lvlOf want, hold := false }
    else s.setBall d g { b with lvl := lvlOf safe, since := since, hold := true }

/-- A ball released to high impedance. -/
def State.floatBall (s : State) (d g : Nat) : State := s.setBall d g { s.ball d g with lvl := .hiz, hold := false }

/-- The code of a source in PWM_OVST (06 R153). -/
def ballSrcCode : BallSrc → Nat
  | .fabric => 0 | .manual => 1 | .asserting => 2 | .deasserting => 3

/-- Ball g takes its level from the highest-priority source; in OFF and RELOAD no override acts, and in PRECHARGE the gates stay at
their safe levels until the drivers are awake (06 R146, R149, R150; 08 R189). -/
def State.refreshBall (s : State) (de as_ d g : Nat) : State :=
  let x := s.dom d
  match x.dst with
  | .off => if x.draining then s.driveBall d g (s.safeLevel d g) else s.floatBall d g
  | .reload => s.driveBall d g (s.safeLevel d g)
  | .precharge =>
    if g < 16 && !x.awake then s.driveBall d g (s.safeLevel d g) else s.driveBall d g (s.ballSource de as_ d g).2
  | _ => s.driveBall d g (s.ballSource de as_ d g).2

/-- The sources in control of the gates of a domain, as PWM_OVST shows them. -/
def State.ovstWord (s : State) (de as_ d : Nat) : Nat :=
  (List.range 16).foldl (fun w g => w + ballSrcCode (s.ballSource de as_ d g).1 * 4 ^ g) 0

/-- A manual override controls a ball of the domain. -/
def State.manualActs (s : State) (de as_ d : Nat) : Bool :=
  (List.range 17).any fun g => (s.ballSource de as_ d g).1 = .manual

/-- The balls of domain d follow their sources; PWM_OVST and MOACT show them, event 0x0505 when MOACT changes (06 R146, R154). -/
def State.refreshDomain (s : State) (d : Nat) : State :=
  let de := s.protDe d
  let as_ := s.protAs d
  let s1 := (List.range 17).foldl (fun t g => t.refreshBall de as_ d g) s
  let driven := dstLatches (s.dom d).dst
  let s2 := s1.set (R.PWM_OVST.SRC d) (if driven then s.ovstWord de as_ d else 0)
  let mo := driven && s.manualActs de as_ d
  if mo = s.bit (R.PWM_STAT.MOACT d) then s2
  else (s2.setB (R.PWM_STAT.MOACT d) mo).raise 0x0505 0 (le 1 d ++ le 1 (b2n mo) ++ le 2 (s.get (R.PWM_OVR.OVG d)))

/-- Every ball of R149 at high impedance: the device is unpowered or in reset (06 R149). -/
def State.floatAll (s : State) : State := { s with balls := [] }

/-- All balls follow their sources; while the core is in reset none is driven. -/
def State.refreshBalls (s : State) : State :=
  if s.pwr.coreUp && !s.pwr.supplyHeld then (List.range 4).foldl State.refreshDomain s else s.floatAll

/-! ### Outputs that the state fixes -/

/-- VDDIO is up: it is off in OFF and STANDBY (11 R247; 13 R292; 17 R374). -/
def State.vddio (s : State) : Bool :=
  s.pwr.vbat && s.sys.mode != .off && s.sys.mode != .standby && s.pwr.rails.getLsbD 1

/-- nFAULT; it has no level without VDDIO (08 R193; 11 R247; 13 R293). -/
def State.pinNFault (s : State) : Lvl :=
  if !s.vddio then .hiz
  else if !s.pwr.coreUp || s.pwr.supplyHeld || modeRwl s.sys.mode then .low
  else lvlOf (!(s.protNflt || s.engNflt))

/-- REM_OUT; of the two rules for OFF the one of the balls holds (11 R247; 17 R375; DEDUCED, log 81). -/
def State.pinRemOut (s : State) : Lvl :=
  if s.sys.mode = .off && !s.pwr.vbat then .hiz
  else lvlOf (modeOpen s.sys.mode && s.pwr.coreUp && !s.pwr.supplyHeld)

/-- nRSTOUT (11 R247): low until PLL A locks in WAKE, then high; in OFF as R375 has it (log 81). -/
def State.pinNRstOut (s : State) : Lvl :=
  if s.sys.mode = .off && !s.pwr.vbat then .hiz
  else lvlOf (s.pwr.coreUp && !s.pwr.supplyHeld && s.tb.run)

/-- VAUX_EN (13 R289). -/
def State.pinVauxEn (s : State) : Lvl := if !s.pwr.vbat then .hiz else lvlOf s.pwr.vauxEn

/-- The CAN port is in service: LOAD has completed and PLL C is locked (16_service_and_vehicle_bus.md R349; 02 R31). -/
def State.canInService (s : State) : Bool :=
  s.pwr.coreUp && !s.pwr.supplyHeld && !modeRwl s.sys.mode && s.bit R.CLK_STAT.PLLC_LOCK

/-- CAN_STB: high from the always-on island until LOAD completes, then low (16 R349; 17 R375). -/
def State.pinCanStb (s : State) : Lvl :=
  if !s.pwr.vbat then .hiz else lvlOf (!(s.coreRuns && !modeRwl s.sys.mode))

/-- CAN_TX while no frame goes out: recessive; high-impedance in reset (16 R349; 17 R375). -/
def State.pinCanTx (s : State) : Lvl := if s.vddio && s.coreRuns then .high else .hiz

/-- TDMB_BCLK and TDMB_FS are outputs while MST = 1 (17 R375; 10 R241). -/
def State.drivesTdmbClocks (s : State) : Bool := s.vddio && s.coreRuns && s.bit R.TDM_BCFG.MST

/-- TDMB_DO is driven once TDM-B is enabled (17 R375). -/
def State.drivesTdmbDo (s : State) : Bool := s.vddio && s.coreRuns && s.bit R.TDM_BCFG.EN

/-- The Weft outputs are driven, and its receiver is on, while ENS_CFG.EN = 1 (17 R375; 02 R43). -/
def State.drivesWeft (s : State) : Bool := s.vddio && s.coreRuns && s.bit R.ENS_CFG.EN

/-- QSPI_CSN and QSPI_SCK are driven after reset; QSPI_IO2 and QSPI_IO3 only in a quad mode (17 R375; 12 R266). -/
def State.drivesQspi (s : State) : Bool × Bool :=
  (s.vddio && s.coreRuns, s.vddio && s.coreRuns && s.get R.IMG_QCFG.MODE != 0)

/-- The clock that MCLK_OUT carries: 0 low, 1 the reference, 2 CCLK / 32, 3 CCLK / 16; none at high impedance (02 R32; 17 R375). -/
def State.pinMclk (s : State) : Option Nat :=
  if !s.pwr.coreUp || s.pwr.supplyHeld then none
  else if modeRwl s.sys.mode then some 1
  else some (s.get R.CLK_CFG.MCLKSEL)

end Sys2Proof.Machine
end

