-- ==== Sys2Proof/Machine/Domain.lean ====
section
/-! DEFINITION. The domain state machines: entering a state, mute ramps, requests, reload queue (11_modes.md R252 to R260). -/

namespace Sys2Proof.Machine

/-- FCAUSE of a domain (11 R262). -/
def State.setFcause (s : State) (d c : Nat) : State := s.set R.SYS_DSTAT.FCAUSE (setBits (s.get R.SYS_DSTAT.FCAUSE) (3 * d) 3 c)
def State.fcause (s : State) (d : Nat) : Nat := bitsAt (s.get R.SYS_DSTAT.FCAUSE) (3 * d) 3

/-- RPCNT of a domain (11 R262). -/
def State.setRpcnt (s : State) (d c : Nat) : State := s.set R.SYS_DSTAT.RPCNT (setBits (s.get R.SYS_DSTAT.RPCNT) (4 * d) 4 c)
def State.rpcnt (s : State) (d : Nat) : Nat := bitsAt (s.get R.SYS_DSTAT.RPCNT) (4 * d) 4

/-- The domain that Drip task i belongs to; 15 is the system (15_drip_and_flowstone.md R329). -/
def State.taskDom (s : State) (i : Nat) : Nat :=
  let v := if i < 8 then bitsAt (s.get (R.DRP_TDOM.V 0)) (4 * i) 4 else bitsAt (s.get (R.DRP_TDOM.V 1)) (4 * (i - 8)) 4
  if v < 4 then v else 15

/-- The states in which the tasks of a domain are excused (15 R329). -/
def dstExcuses : Dst → Bool
  | .off | .reload | .faulted => true
  | _ => false

/-- Tasks of a domain become excused in the current Drip cycle (15 R329). -/
def State.excuse (s : State) (d : Nat) : State :=
  s.set R.DRP_CYC.EXC ((List.range 16).foldl (fun m i => if s.taskDom i = d then setBit m i true else m) (s.get R.DRP_CYC.EXC))

/-- The planner stops: PSTATE reads OFF, the position keeps its value, and the other registers of the planner show what they showed
last (05_rail_tracking.md R115, R117; DESIGN CHOICE, log 79). -/
def State.planStop (s : State) (d : Nat) : State :=
  (s.modPrf d fun p => { p with started := false, tLoc := 0 }).set (R.PRF_STAT.PSTATE d) 0

/-- The phase manager stops: ACT reads 0; FLTP clears in OFF and RELOAD (06_edges_and_phases.md R144). -/
def State.phasesStop (s : State) (d : Nat) (clearFltp : Bool) : State :=
  let s1 := (((s.set (R.PWM_PHASES.ACT d) 0).set (R.PWM_PHASES.CNT d) 0).set (R.PWM_PHASES.SOFT d) 0).setB (R.PWM_PHASES.GLIDE d) false
  let s2 := (List.range 4).foldl (fun t p => t.modPhase d p fun x =>
    { x with soft := false, softK := 0, stopPend := false, pulsing := false, fresh := false }) s1
  if clearFltp then s2.set (R.PWM_PHASES.FLTP d) 0 else s2

/-- Every gate of a domain asked for at its safe level by the edge fabric. -/
def State.fabSafe (s : State) (d : Nat) : State :=
  (List.range 16).foldl (fun t g => t.setBall d g { t.ball d g with fab := t.safeLevel d g }) s

/-- The first half-cycle start of a phase at or after a tick, in taps (06 R128). -/
def firstStart (t hs : Nat) (theta : Int) : Int :=
  let base : Int := 16 * t
  base + (theta - base) % (16 * hs : Nat)

/-- The phases of a domain at its entry to PRECHARGE: offsets, side A, and the first active set (06 R128, R139). -/
def State.phasesEnter (s : State) (d : Nat) : State :=
  let hs := s.supplyH d
  let sb := s.sbase d
  let s1 := (List.range 4).foldl (fun t p =>
    let th : Int := ((sb + p * 16 * hs / 4 + 16 * s.ensShift (2 * hs)) % (16 * hs) : Nat)
    t.modPhase d p fun _ => { theta := th, target := th, startAt := firstStart s.now hs th }) s
  let en := s.get (R.PWM_PHASES.PHEN d)
  let n := min (s.get (R.PWM_PHASES.MINPH d)) (s1.nAvail d)
  s1.setActive d (((phaseRanks en).take n).foldl (fun m p => setBit m p true) 0)

/-- What every state without running loops does at its entry: RUN bits, planner and phase manager stop (11 R253). -/
def State.domQuiet (s : State) (d : Nat) (clearFltp : Bool) : State :=
  let s1 := ((s.clearRun d 0xFFF).planStop d).phasesStop d clearFltp
  (s1.modDom d fun x =>
    { x with awake := false, drvOn := false, railGood := false, railCnt := 0, rampOn := false, dwellOver := false,
             refused := false }).excuse d

/-- What PRECHARGE does at its entry (11 R254, R255; 03 R62; 05 R110, R117; 06 R150; 08 R190). -/
def State.domPrecharge (s : State) (d : Nat) : State :=
  let first := !((List.range 4).any fun k => k != d && dstLatches (s.dom k).dst)
  let s0 := s.modSys fun x => { x with preSeq := x.preSeq + 1 }
  let s1 := s0.modDom d fun x =>
    { x with t0 := s.now, seq := s.sys.preSeq + 1, awake := false, drvOn := false, draining := false, repair := false,
             dwellOver := false, railCnt := 0, railGood := false, gm := 0, g0 := 0, rampOn := false, rampDown := false,
             isp := [], ispMiss := [], railF := none, batF := none, vlP := none, shedCnt := 0 }
  let s2 := (s1.modPrf d fun p => { p with started := false, noWr := 0, wrote := false, tLoc := 0 }).setB (R.PRF_STAT.STL d) false
  let s3 := (List.range 4).foldl (fun t k => t.modLane (4 * d + k) fun _ => {}) s2
  ((s3.phasesEnter d).fabSafe d).protEnter d first

/-- The domain enters a state: event 0x0102, and what the state does at its entry (11 R252, R253, R263). -/
def State.enterDst (s : State) (d : Nat) (new : Dst) : State :=
  let old := (s.dom d).dst
  if old = new then s
  else
    let s1 := s.modDom d fun x => { x with dst := new }
    let sev := if new = .faulted then 2 else 0
    let s2 := s1.raise 0x0102 sev (le 1 d ++ le 1 (dstCode old) ++ le 1 (dstCode new) ++ le 1 (s.fcause d))
    match new with
    | .off =>
      let s3 := ((s2.domQuiet d true).protClear d).clearSpaces d
      s3.modDom d fun x => { x with draining := true, repair := false, relReq := none }
    | .reload => ((s2.domQuiet d true).protClear d).clearSpaces d
    | .faulted => s2.domQuiet d false
    | .precharge => s2.domPrecharge d
    | .active | .muted => s2

/-- The mute gain at a tick (11 R255). -/
def gainAt (mramp : Nat) (x : Dom) (t : Nat) : Nat :=
  if x.rampOn then
    let span := max mramp 1 * 1024
    let k := min (t - x.ts) span
    if x.rampDown then x.g0 - (x.g0 * k + span / 2) / span
    else x.g0 + ((32768 - x.g0) * k + span / 2) / span
  else x.gm

/-- The mute gain of a domain now. -/
def State.gain (s : State) (d : Nat) : Nat := gainAt (s.get R.SYS_DCFG.MRAMP) (s.dom d) s.now

/-- A new ramp from the gain reached (11 R255). -/
def State.startRamp (s : State) (d : Nat) (down : Bool) : State :=
  let g := s.gain d
  s.modDom d fun x => { x with gm := g, g0 := g, ts := s.now, rampDown := down, rampOn := true }

/-- A mute request is in force for the domain (11 R255). -/
def State.muteReq (s : State) (d : Nat) : Bool :=
  s.protReq d == 1 || s.bitI R.SYS_REQ.MUTE d || s.sys.nmuteLow || s.ens.mute || (s.dom d).relReq.isSome

/-- A FAULTED request is in force, and it carries repair (11 R258). -/
def State.faultReq (s : State) (d : Nat) : Bool × Bool :=
  let p := s.protReq d
  let q := s.bitI R.SYS_REQ.FLT d
  let e := s.engDomReq d
  (decide (2 ≤ p) || q || e || s.engDevReq, p == 3 || (q && s.bitI R.SYS_REQ.FLTR d) || e)

/-- The first cause that FCAUSE records for a request in force (11 R262). -/
def State.faultCause (s : State) (d : Nat) : Nat :=
  if 2 ≤ s.protReq d then 1 else if s.bitI R.SYS_REQ.FLT d then 2 else 3

/-- Entry to FAULTED with its cause and its repair mark (11 R258). -/
def State.enterFaulted (s : State) (d cause : Nat) (repair : Bool) : State :=
  ((s.setFcause d cause).enterDst d .faulted).modDom d fun x => { x with repair := repair }

/-- A domain follows its FAULTED requests and the loss of every phase (11 R253, R258; 06 R144). -/
def State.followFault (s : State) (d : Nat) : State :=
  let q := s.faultReq d
  match (s.dom d).dst with
  | .precharge | .active | .muted =>
    if q.1 then s.enterFaulted d (s.faultCause d) q.2
    else if s.nAvail d = 0 then s.enterFaulted d 5 false
    else s
  | .faulted => if q.1 && q.2 then s.modDom d fun x => { x with repair := true } else s
  | _ => s

/-- A domain follows its mute requests (11 R253, R255). -/
def State.followMute (s : State) (d : Nat) : State :=
  let x := s.dom d
  let q := s.muteReq d
  match x.dst with
  | .active => if q then (s.startRamp d true).enterDst d .muted else s
  | .precharge => if x.railGood && q then (s.startRamp d true).enterDst d .muted else s
  | .muted =>
    if q then (if x.rampOn then (if x.rampDown then s else s.startRamp d true) else if x.gm = 0 then s else s.startRamp d true)
    else if x.rampOn && !x.rampDown then s else s.startRamp d false
  | _ => s

/-- The copy a reload of domain d uses: the named one while it may be used, else the one DSRC names; and whether a named
copy was refused (12_image_and_start.md R282). -/
def State.copyUsable (s : State) (c : Nat) : Bool :=
  if c = 0 then s.bit R.IMG_STAT.VA && s.bit R.IMG_STAT.CMPA else s.bit R.IMG_STAT.VB && s.bit R.IMG_STAT.CMPB

/-- Local memory of engine e from an offset to another one is cleared, errors included: it reads as zeros (12 R277; 09 R199). -/
def State.clearLocal (s : State) (e lo hi : Nat) : State :=
  let b := 0x20000000 + e * 0x20000
  let k := 0x80000 + e * 0x4000
  { s with
    mem := s.mem.filter fun c => !(decide (b + lo ≤ c.1) && decide (c.1 < b + hi))
    eng := { s.eng with ecc := s.eng.ecc.filter fun q => !(decide (k + lo / 8 ≤ q.1) && decide (q.1 < k + hi / 8)) } }

/-- The engines of a domain. -/
def State.enginesOf (s : State) (d : Nat) : List Nat := (List.range 16).filter fun e => s.get (R.ENG_CTL.DOM e) == d

/-- The event of a refused reload request (12 R285). -/
def State.reloadRefused (s : State) (dmask src : Nat) : State :=
  (s.setB R.IMG_STAT.RREJ true).raise 0x0208 1
    (le 1 dmask ++ le 1 src ++ le 1 (s.get R.IMG_STAT.VA) ++ le 1 (s.get R.IMG_STAT.VB) ++
      le 1 (s.get R.IMG_STAT.CMPA) ++ le 1 (s.get R.IMG_STAT.CMPB))

/-- Domain d enters RELOAD: its engines stop and clear their data memories, their channels end, a flash operation is
suspended, and the loader is to read the header and table of its copy (11 R259; 12 R277, R282; 09 R220, R222). -/
def State.enterReload (s : State) (d : Nat) : State :=
  let x := s.dom d
  let byRepair := x.dst = .faulted && x.repair && x.dwellOver && !x.refused
  let named := match x.relReq with
    | some q => q.copy
    | none => 0
  let dsrc := b2n (s.bitI R.IMG_STAT.DSRC d)
  let bad := named != 0 && !s.copyUsable (named - 1)
  let copy := if named = 0 ∨ bad then dsrc else named - 1
  let s1 := if bad then s.reloadRefused (2 ^ d) named else s
  let s2 := if byRepair then s1.setRpcnt d (satN 15 (s.rpcnt d + 1)) else s1
  let s3 := s2.enterDst d .reload
  let s4 := (s3.enginesOf d).foldl (fun t e => ((t.engStop e).freeChans e).clearLocal e 0x10000 0x20000) s3
  let s5 := s4.modDom d fun y => { y with relReq := none, repair := false, dwellOver := false }
  let s6 := s5.setI R.IMG_STAT.RLD d true
  let wait := s.img.fBusy && s.img.par.suspend.isNone
  let s7 := if wait then s6.setB R.IMG_STAT.NOSUSP true else s6
  { s7 with
    img := { s7.img with rld := some d, rldT0 := s.now, copy := copy, idx := 0, phase := .rldTable, actNext := 0, touched := [],
                         fSusp := s.img.fBusy && s.img.par.suspend.isSome },
    sys := { s7.sys with reloadQ := s7.sys.reloadQ.filter fun k => k != d } }

/-- A domain whose entry condition for RELOAD holds enters it, or is queued while another is in RELOAD or queued (11 R259). -/
def State.reloadDue (s : State) (d : Nat) : State :=
  if s.sys.reloadQ.contains d || (s.dom d).dst = .reload then s
  else if !s.sys.reloadQ.isEmpty || (List.range 4).any fun k => (s.dom k).dst = .reload then
    s.modSys fun x => { x with reloadQ := x.reloadQ ++ [d] }
  else s.enterReload d

/-- The repair of a FAULTED domain with its mark, once its dwell is over: RELOAD is due, or it is refused at REPMAX with event 0x0105
and the mark is ignored (11 R259, R263). -/
def State.followRepair (s : State) (d : Nat) : State :=
  let x := s.dom d
  if x.dst = .faulted && x.repair && x.dwellOver && !x.refused && !s.sys.reloadQ.contains d then
    if s.get R.SYS_DCFG.REPMAX ≤ s.rpcnt d then
      (s.raise 0x0105 3 (le 1 d ++ le 1 (s.rpcnt d) ++ le 1 (s.fcause d))).modDom d fun y => { y with refused := true }
    else s.reloadDue d
  else s

/-- A requested reload whose ramp has ended is due: at once from PRECHARGE or FAULTED, from MUTED at gain 0, and with
power-down only once the planner is at rest (11 R259). -/
def State.followReload (s : State) (d : Nat) : State :=
  let x := s.dom d
  match x.relReq with
  | none => s
  | some q =>
    match x.dst with
    | .precharge | .faulted => s.reloadDue d
    | .muted =>
      let rest := s.get (R.PRF_STAT.PSTATE d) == 1 && (s.get (R.PRF_TGTI.V d) == s.get (R.PRF_FLR.FLOOR d) * 65536)
      if s.gain d = 0 && (!q.pdn || rest) then s.reloadDue d else s
    | _ => s

/-- The head of the reload queue enters RELOAD once no domain is in it (11 R259). -/
def State.followQueue (s : State) : State :=
  match s.sys.reloadQ with
  | [] => s
  | d :: _ => if (List.range 4).any fun k => (s.dom k).dst = .reload then s else s.enterReload d

/-- Nothing lasting keeps an enabled domain in OFF: no mismatch, no failed monitor, not rejected by the loader (11 R253; 12 R278; 08 R195). -/
def State.canLeaveOff (s : State) (d : Nat) : Bool :=
  s.bitI R.SYS_DCFG.DEN d && !s.bit R.ADC_CALSTAT.FAIL && !s.bit (R.PWM_STAT.SAFEMIS d) && !s.bitI R.IMG_STAT.DREJ d &&
    !((List.range 42).any fun m => s.bit (R.MON_ST.STF m) && (srcOwner (2 * m) == some d || srcOwner (2 * m) == none))

/-- Loops and domain d take the end of a device-wide cause: the domain enters OFF (11 R253); a reload of it is interrupted (12 R278). -/
def State.domOff (s : State) (d : Nat) : State :=
  if s.img.rld = some d then
    let s1 := ((s.setI R.IMG_STAT.RLD d false).setI R.IMG_STAT.DREJ d true).raise 0x0205 2
      (le 1 d ++ le 1 0 ++ le 1 s.img.idx ++ le 1 s.img.copy)
    let s2 := { s1 with img := { s1.img with rld := none, phase := .idle, fSusp := false } }
    (s2.set R.IMG_RTIME.V (s.now - s.img.rldT0)).enterDst d .off
  else s.enterDst d .off

/-- Every domain enters OFF and the reload queue empties (11 R253, R259). -/
def State.allOff (s : State) : State :=
  ((List.range 4).foldl State.domOff s).modSys fun x => { x with reloadQ := [] }

end Sys2Proof.Machine
end

