-- ==== Sys2Proof/Machine/Aes.lean ====
section
/-! DEFINITION. CMAC under AES-128 (NIST SP 800-38B), which authenticates the image and the tester (12_image_and_start.md R270;
16_service_and_vehicle_bus.md R356). The spec names the standards; their text stands here (log 13). Bytes are natural numbers
below 256, a block is sixteen of them in order. -/

namespace Sys2Proof.Machine

/-- Multiplication by x in GF(2^8). -/
def gfDouble (a : Nat) : Nat := if a < 128 then 2 * a else (2 * a) ^^^ 0x11B

/-- Multiplication in GF(2^8) over the low n bits of b. -/
def gfMulN : Nat → Nat → Nat → Nat
  | 0, _, _ => 0
  | n + 1, a, b => (if b % 2 = 1 then a else 0) ^^^ gfMulN n (gfDouble a) (b / 2)

/-- Multiplication in GF(2^8). -/
def gfMul (a b : Nat) : Nat := gfMulN 8 a b

/-- The inverse in GF(2^8): the 254th power. -/
def gfInv (a : Nat) : Nat :=
  let a2 := gfMul a a
  let a4 := gfMul a2 a2
  let a8 := gfMul a4 a4
  let a16 := gfMul a8 a8
  let a32 := gfMul a16 a16
  let a64 := gfMul a32 a32
  let a128 := gfMul a64 a64
  gfMul a2 (gfMul a4 (gfMul a8 (gfMul a16 (gfMul a32 (gfMul a64 a128)))))

/-- A byte rotated left. -/
def rotl8 (a n : Nat) : Nat := (a * 2 ^ n % 256) + a * 2 ^ n / 256

/-- The S-box. -/
def sbox (a : Nat) : Nat :=
  let b := gfInv a
  b ^^^ rotl8 b 1 ^^^ rotl8 b 2 ^^^ rotl8 b 3 ^^^ rotl8 b 4 ^^^ 0x63

/-- Two blocks added. -/
def xorBlock (a b : List Nat) : List Nat := List.zipWith (· ^^^ ·) a b

/-- SubBytes and ShiftRows. -/
def subShift (b : List Nat) : List Nat :=
  (List.range 16).map fun i => sbox (b.getD ((i + i % 4 * 4) % 16) 0)

/-- MixColumns. -/
def mixColumns (b : List Nat) : List Nat :=
  (List.range 16).map fun i =>
    let g := fun (k : Nat) => b.getD (i / 4 * 4 + (i + k) % 4) 0
    gfMul 2 (g 0) ^^^ gfMul 3 (g 1) ^^^ g 2 ^^^ g 3

/-- The next round key. -/
def nextKey (rcon : Nat) (k : List Nat) : List Nat :=
  let g := fun (i : Nat) => k.getD i 0
  let w0 := [g 0 ^^^ sbox (g 13) ^^^ rcon, g 1 ^^^ sbox (g 14), g 2 ^^^ sbox (g 15), g 3 ^^^ sbox (g 12)]
  let w1 := xorBlock w0 [g 4, g 5, g 6, g 7]
  let w2 := xorBlock w1 [g 8, g 9, g 10, g 11]
  w0 ++ w1 ++ w2 ++ xorBlock w2 [g 12, g 13, g 14, g 15]

/-- The rounds that are left, the last one without MixColumns. -/
def aesRounds : Nat → Nat → List Nat → List Nat → List Nat
  | 0, _, _, b => b
  | n + 1, rcon, k, b =>
    let k' := nextKey rcon k
    let x := subShift b
    aesRounds n (gfDouble rcon) k' (xorBlock (if n = 0 then x else mixColumns x) k')

/-- AES-128 of one block. -/
def aes128 (key block : List Nat) : List Nat := aesRounds 10 1 key (xorBlock block key)

/-- A value as a block, the first byte the highest. -/
def blockOf (v : Nat) : List Nat := (be 16 v).map (·.toNat)

/-- A block as a value. -/
def valOf (b : List Nat) : Nat := b.foldl (fun v x => v * 256 + x) 0

/-- Doubling in GF(2^128). -/
def dbl128 (v : Nat) : Nat := if v < 2 ^ 127 then 2 * v else (2 * v % 2 ^ 128) ^^^ 0x87

/-- The chaining of CMAC over n blocks; the last is padded and masked. -/
def cmacBlocks (key : List Nat) (k1 k2 : Nat) : Nat → List Nat → List Nat → List Nat
  | 0, _, c => c
  | n + 1, m, c =>
    if 16 < m.length then cmacBlocks key k1 k2 n (m.drop 16) (aes128 key (xorBlock c (m.take 16)))
    else if m.length = 16 then aes128 key (xorBlock c (xorBlock m (blockOf k1)))
    else aes128 key (xorBlock c (xorBlock (m ++ 0x80 :: List.replicate (15 - m.length) 0) (blockOf k2)))

/-- The CMAC of a message under a key: sixteen bytes. -/
def cmac (key : BitVec 128) (msg : List Byte) : List Byte :=
  let k := blockOf key.toNat
  let k1 := dbl128 (valOf (aes128 k (List.replicate 16 0)))
  let m := msg.map (·.toNat)
  (cmacBlocks k k1 (dbl128 k1) (m.length / 16 + 1) m (List.replicate 16 0)).map (BitVec.ofNat 8)

end Sys2Proof.Machine
end

