-- ==== Sys2Proof/Machine/Copy.lean ====
section
/-! DEFINITION. A copy of the Brogor image in the flash: its layout and the checks on it (12_image_and_start.md R264 to R272). -/

namespace Sys2Proof.Machine

/-! ### The flash -/

/-- What an unwritten byte of the flash reads as (log 6). -/
def flashDflt (_ : Nat) : Byte := 0xFF

/-- n bytes from an address on, out of the entries that lie at or above it. -/
def flashSeq : Nat → Nat → Tbl Byte → List Byte
  | 0, _, _ => []
  | n + 1, a, [] => 0xFF :: flashSeq n (a + 1) []
  | n + 1, a, (k, v) :: t => if k = a then v :: flashSeq n (a + 1) t else 0xFF :: flashSeq n (a + 1) ((k, v) :: t)

/-- n bytes of the flash from an address (12 R264). -/
def State.flashBytes (s : State) (a n : Nat) : List Byte := flashSeq n a (s.img.flash.dropWhile fun e => decide (e.1 < a))

/-- The start of a copy in the flash (12 R264). -/
def copyBase (c : Nat) : Nat := if c = 0 then 0 else 0x400000

/-- Copy B exists: the flash holds at least 8 MiB, or tells nothing of its density and both copies are read (12 R264, R265). -/
def State.copyBExists (s : State) : Bool := !s.img.par.sfdp || decide (23 ≤ s.img.par.dens.toNat)

/-- n bytes of a copy from an offset, read through a source of bytes: the flash, or a download under check. -/
abbrev CopyRd := Nat → Nat → List Byte

/-- A copy as it stands in the flash. -/
def State.copyRd (s : State) (c : Nat) : CopyRd := fun off n => s.flashBytes (copyBase c + off) n

/-! ### Layout -/

/-- A little-endian field of some bytes. -/
def fieldAt (l : List Byte) (off n : Nat) : Nat := leVal ((l.drop off).take n)

/-- The header of a copy (12 R267). -/
structure Hdr where
  magic : Nat
  fmt : Nat
  nsec : Nat
  gen : Nat
  len : Nat
  part : Nat
  srevMin : Nat
  flags : Nat
  qclk : Nat
  imgid : Nat
  compat : Nat
  hcrc : Nat
  htag : List Byte
  reservedZero : Bool
  raw : List Byte
  deriving DecidableEq, Repr

/-- The header out of its 64 bytes (12 R267). -/
def hdrOf (b : List Byte) : Hdr :=
  { magic := fieldAt b 0 4, fmt := fieldAt b 4 2, nsec := fieldAt b 6 2, gen := fieldAt b 8 4, len := fieldAt b 12 4,
    part := fieldAt b 0x10 2, srevMin := fieldAt b 0x12 1, flags := fieldAt b 0x13 1, qclk := fieldAt b 0x14 1,
    imgid := fieldAt b 0x18 4, compat := fieldAt b 0x1C 4, hcrc := fieldAt b 0x20 4, htag := b.drop 0x30,
    reservedZero := ((b.drop 0x15).take 3 ++ (b.drop 0x24).take 12).all (· == 0), raw := b }

/-- An entry of the section table (12 R267). -/
structure Sec where
  typ : Nat
  owner : Nat
  sub : Nat
  start : Bool
  off : Nat
  len : Nat
  crc : Nat
  tag : List Byte
  deriving DecidableEq, Repr

/-- The entry out of its 32 bytes (12 R267). -/
def secOf (b : List Byte) : Sec :=
  { typ := fieldAt b 0 1, owner := fieldAt b 1 1, sub := fieldAt b 2 1, start := fieldAt b 3 1 % 2 == 1,
    off := fieldAt b 4 4, len := fieldAt b 8 4, crc := fieldAt b 12 4, tag := (b.drop 16).take 16 }

/-- The bytes of the section table; a count out of range reads no table. -/
def tableBytes (rd : CopyRd) (h : Hdr) : List Byte := rd 0x40 (32 * if h.nsec ≤ 64 then h.nsec else 0)

/-- The sections of a table. -/
def secsOf (tb : List Byte) : List Sec := (List.range (tb.length / 32)).map fun i => secOf ((tb.drop (32 * i)).take 32)

/-! ### Checks 0x01 to 0x08 -/

/-- The first of checks 0x01 to 0x05 that a header fails; 0 for none (12 R272). -/
def hdrCheck (srev : Nat) (h : Hdr) : Nat :=
  if h.magic ≠ 0x52475242 then 1
  else if h.fmt ≠ 1 ∨ ¬ h.reservedZero then 2
  else if h.part ≠ 0x1616 ∨ srev < h.srevMin then 3
  else if h.gen = 0 ∨ h.gen = 0xFFFFFFFF ∨ 0x400000 < h.len then 4
  else if h.nsec = 0 ∨ 64 < h.nsec then 5
  else 0

/-- The CRC that HCRC must match: header bytes 0x00 to 0x1F and the table (12 R267). -/
def hdrCrc (h : Hdr) (tb : List Byte) : Nat := crc32 (h.raw.take 0x20 ++ tb)

/-- Section types of the device alone, of a domain, and of an engine (12 R268). -/
def secDevice (t : Nat) : Bool := t == 1 || t == 8 || t == 9 || t == 0xA || t == 0xB
def secDomain (t : Nat) : Bool := t == 2 || t == 5 || t == 7
def secEngine (t : Nat) : Bool := t == 3 || t == 4 || t == 6

/-- TYPE, OWNER and SUB of a section are valid (12 R268). -/
def secKind (x : Sec) : Bool :=
  (secDevice x.typ && x.owner == 0xF) || (secDomain x.typ && decide (x.owner < 4)) ||
    (secEngine x.typ && (decide (x.owner < 4) || x.owner == 0xF) && decide (x.sub < 16))

/-- A section lies within LEN and after the table, aligned (12 R267, R272). -/
def secPlace (h : Hdr) (x : Sec) : Bool :=
  x.off % 8 == 0 && x.len % 4 == 0 && decide (0x40 + 32 * h.nsec ≤ x.off) && decide (x.off + x.len ≤ h.len)

/-- Two sections share a byte. -/
def secsMeet (x y : Sec) : Bool := decide (x.off < y.off + y.len) && decide (y.off < x.off + x.len)

/-- Two sections that may not stand in one copy together: they overlap, or their type allows one of them (12 R268, R272). -/
def secsClash (x y : Sec) : Bool :=
  secsMeet x y || (x.typ == y.typ &&
    (secDevice x.typ || (secDomain x.typ && x.owner == y.owner) || (secEngine x.typ && x.sub == y.sub)))

/-- No two of the sections clash. -/
def secsApart : List Sec → Bool
  | [] => true
  | x :: t => t.all (fun y => !secsClash x y) && secsApart t

/-- The owner of an engine's program (12 R268). -/
def progOwner (l : List Sec) (e : Nat) : Option Nat := (l.find? fun x => x.typ == 3 && x.sub == e).map (·.owner)

/-- Check 0x08, but for the counts that depend on DEN (12 R268, R272). -/
def layoutOk (h : Hdr) (l : List Sec) : Bool :=
  l.all (fun x => secKind x && secPlace h x) && secsApart l &&
    [1, 8, 9, 0xA].all (fun t => l.any fun x => x.typ == t) &&
    l.all fun x => (x.typ != 4 && x.typ != 6) || progOwner l x.sub == some x.owner

/-- The image must authenticate (00_scope.md R2; 12 R270). -/
def State.authEn (s : State) : Bool := s.fuse.keyed

/-- The first of checks 0x06 to 0x08 that a table fails; 0 for none (12 R272). -/
def State.tableCheck (s : State) (h : Hdr) (tb : List Byte) : Nat :=
  if hdrCrc h tb ≠ h.hcrc then 6
  else if s.authEn && !(h.flags % 2 == 1 && cmac s.fuse.key (h.raw.take 0x30 ++ tb) == h.htag) then 7
  else if !layoutOk h (secsOf tb) then 8
  else 0

/-! ### Check 0x0A: where a record may go -/

/-- The registers that have sections of their own, and IMG: no register list writes them (12 R268). -/
def listBarred (a : Nat) : Bool :=
  (decide (0x40040400 ≤ a) && decide (a < 0x40040700)) || blkOf a == 0x400A0 || blkOf a == 0x40100 ||
    (decide (0x40010 ≤ blkOf a) && decide (blkOf a ≤ 0x40013) && decide (0x50 ≤ offOf a) && decide (offOf a ≤ 0x58))

/-- A register of the mode and fault-policy table (12 R268). -/
def policyTarget (a : Nat) : Bool :=
  a == R.SYS_DCFG.at || (decide (0x40050200 ≤ a) && decide (a < 0x400502A8)) || (decide (0x40050420 ≤ a) && decide (a < 0x40050450)) ||
    (blkOf a == 0x40090 && decide (0x400 ≤ offOf a) && decide (offOf a < 0xA00) && (ctxPlace (offOf a)).2.2 == 0)

/-- A register that the list of domain d may write in ADC and MON (12 R269). -/
def domAdcMon (d a : Nat) : Bool :=
  let o := offOf a
  if blkOf a = 0x40040 then decide (0x800 ≤ o) && decide (o < 0x900) && (o - 0x800) / 8 % 16 / 4 == d
  else if blkOf a = 0x40050 then
    if o < 0x300 then decide (o % 0x100 / 4 < 42) && srcOwner (2 * (o % 0x100 / 4)) == some d
    else decide (0x400 ≤ o) && decide (o < 0x440) && (o - 0x400) % 0x20 / 8 == d
  else false

/-- A record of the register list of domain d may go to its address (12 R269). -/
def domTarget (l : List Sec) (d a v : Nat) : Bool :=
  let b := blkOf a
  let o := offOf a
  b == 0x40010 + d || b == 0x40020 + d || b == 0x40030 + d || domAdcMon d a ||
    (b == 0x40090 && decide (0x400 ≤ o) && decide (o < 0xA00) && decide ((ctxPlace o).2.2 ≤ 8) && progOwner l (ctxPlace o).1 == some d) ||
    (b == 0x400B0 && decide (o < 0x200) && o % 0x10 == 0 && progOwner l (v / 2 ^ 24 % 16) == some d)

/-- A register record may go to its address (12 R268, R269). -/
def recTarget (l : List Sec) (x : Sec) (a v : Nat) : Bool :=
  inRegs a && a % 4 == 0 && !listBarred a &&
    (if x.typ = 1 then true else if x.typ = 8 then policyTarget a else domTarget l x.owner a v)

/-! ### Records and forms -/

/-- The 8-byte pairs of words of a section. -/
def pairsOf (data : List Byte) : List (Nat × Nat) :=
  (List.range (data.length / 8)).map fun i => (fieldAt data (8 * i) 4, fieldAt data (8 * i + 4) 4)

/-- The data records of a section: their place and their bytes; none where one is not whole (12 R268). -/
def dataRecs : Nat → List Byte → Option (List (Nat × List Byte))
  | _, [] => some []
  | 0, _ => none
  | n + 1, l =>
    let c := fieldAt l 4 4
    if l.length < 8 ∨ c % 4 ≠ 0 ∨ l.length < 8 + c then none
    else (dataRecs n (l.drop (8 + c))).map fun t => (fieldAt l 0 4, (l.drop 8).take c) :: t

/-- A section whose entries are counted in its first word: count limit, first entry, size (12 R268; 15 R335; 16 R350, R359). -/
def listForm (data : List Byte) (lim size : Nat) (rest : Bool) : Bool :=
  let n := fieldAt data 0 4
  decide (4 ≤ data.length) && decide (n ≤ lim) &&
    (if rest then decide (4 + size * n ≤ data.length) else data.length == 4 + size * n)

/-- Check 0x09 (12 R268, R272). -/
def formOk (x : Sec) (data : List Byte) : Bool :=
  if x.typ = 1 ∨ x.typ = 2 ∨ x.typ = 8 then data.length % 8 == 0
  else if x.typ = 3 then data.length % 8 == 0 && decide (data.length ≤ 65536)
  else if x.typ = 4 then (dataRecs data.length data).isSome
  else if x.typ = 5 then data.length == 17284
  else if x.typ = 6 then data.length == 384
  else if x.typ = 7 then data.length == 192
  else if x.typ = 9 then listForm data 1024 4 false
  else if x.typ = 0xA then listForm data 256 8 true
  else listForm data 32 16 false

/-- An identifier of the image: DID, length, kind, source (16 R359). -/
structure DidEntry where
  did : Nat
  len : Nat
  kind : Nat
  res : Nat
  src : Nat
  deriving DecidableEq, Repr

/-- The identifiers of a section (16 R359). -/
def didsOf (data : List Byte) : List DidEntry :=
  (List.range (fieldAt data 0 4)).map fun i =>
    let w := fieldAt data (4 + 8 * i) 4
    { did := w % 65536, len := w / 65536 % 256, kind := w / 2 ^ 24 % 4, res := w / 2 ^ 26, src := fieldAt data (8 + 8 * i) 4 }

/-- An identifier that R359 allows. -/
def didOk (size : Nat) (x : DidEntry) : Bool :=
  ((decide (0xF100 ≤ x.did) && decide (x.did ≤ 0xF1FF)) || (decide (0xFD80 ≤ x.did) && decide (x.did ≤ 0xFDFF))) &&
    decide (1 ≤ x.len) && decide (x.len ≤ 64) && x.res == 0 && x.kind != 3 &&
    (if x.kind = 0 then decide (x.src + x.len ≤ size) else x.len % 4 == 0 && x.src % 4 == 0)

/-- No DID is repeated. -/
def didsApart : List DidEntry → Bool
  | [] => true
  | x :: t => t.all (fun y => y.did != x.did) && didsApart t

/-- Check 0x0A, for what a section holds beside register records (12 R272; 16 R359). -/
def targetOk (x : Sec) (data : List Byte) : Bool :=
  if x.typ = 4 then
    ((dataRecs data.length data).getD []).all fun r => decide (0x10000 ≤ r.1) && decide (r.1 < 0x20000) && decide (r.1 + r.2.length ≤ 0x20000)
  else if x.typ = 0xA then (didsOf data).all (didOk data.length) && didsApart (didsOf data)
  else true

/-- Checks 0x0B and 0x0C (12 R270, R272). -/
def State.endCheck (s : State) (x : Sec) (data : List Byte) : Nat :=
  if crc32 data ≠ x.crc then 0xB
  else if s.authEn && cmac s.fuse.key data != x.tag then 0xC
  else 0

/-! ### The end of a copy -/

/-- A register holds an RWL field. -/
def hasRwl (a : Nat) : Bool := match regRow a with
  | some r => r.rwl != 0
  | none => false

/-- The bytes of a section that COMPAT covers (12 R271). -/
def compatBytes (rd : CopyRd) (x : Sec) : List Byte :=
  let data := rd x.off x.len
  if x.owner = 0xF then data
  else if x.typ = 2 then
    (List.range (x.len / 8)).flatMap fun i => if hasRwl (fieldAt data (8 * i) 4) then (data.drop (8 * i)).take 8 else []
  else []

/-- COMPAT as the loader recomputes it (12 R271). -/
def compatOf (rd : CopyRd) (l : List Sec) : Nat := crc32 (l.flatMap (compatBytes rd))

/-- DEN as the mode and fault-policy table of a copy sets it (12 R268). -/
def denOf (rd : CopyRd) (l : List Sec) : Nat :=
  match l.find? fun x => x.typ == 8 with
  | some x => (pairsOf (rd x.off x.len)).foldl (fun v p =>
      if p.1 = R.SYS_DCFG.at then fldOf (BitVec.ofNat 32 p.2) R.SYS_DCFG.DEN else v) (fldOf (resetWord R.SYS_DCFG.at) R.SYS_DCFG.DEN)
  | none => 0

/-- The counts that depend on DEN: coefficient banks and a frame-table share for every enabled domain (12 R268, R272). -/
def denCounts (den : Nat) (l : List Sec) : Bool :=
  (List.range 4).all fun d => !den.testBit d ||
    ((l.any fun x => x.typ == 5 && x.owner == d) && (l.any fun x => x.typ == 7 && x.owner == d))

/-- A failed check is recorded (12 R284). -/
def State.imgChk (s : State) (code sidx when copy : Nat) : State :=
  (((s.setReg R.IMG_CHK.at 0).set R.IMG_CHK.CODE code).set R.IMG_CHK.SIDX sidx).set R.IMG_CHK.WHEN when |>.set R.IMG_CHK.CPY copy

/-- The read mode of a copy: its code and D; a flash without SFDP is read in 1-1-1 with D = 8 (12 R265, R266). -/
def readMode (p : FlashParams) (flags : Nat) : Nat × Nat :=
  if !p.sfdp then (0, 8)
  else match flags.testBit 1, p.dtr144, p.m144, p.m114 with
    | true, some w, _, _ => (3, w)
    | _, _, some w, _ => (2, w)
    | _, _, none, some w => (1, w)
    | _, _, none, none => (0, 8)

/-- The read mode in force is that of a copy: what follows its header is read in it (12 R266, R284). -/
def State.showMode (s : State) (h : Hdr) : State :=
  let m := readMode s.img.par h.flags
  ((s.set R.IMG_QCFG.MODE m.1).set R.IMG_QCFG.D m.2).set R.IMG_QCFG.QCLK (if s.img.par.sfdp then h.qclk % 4 else 0)

/-- The header of a copy in the flash, and its table. -/
def State.hdrAt (s : State) (c : Nat) : Hdr := hdrOf (s.copyRd c 0 64)
def State.tableAt (s : State) (c : Nat) : List Byte := tableBytes (s.copyRd c) (s.hdrAt c)

/-! ### All checks on a copy -/

/-- The targets of the register records of a section are allowed (12 R268, R269, R272). -/
def recsOk (l : List Sec) (x : Sec) (data : List Byte) : Bool :=
  if x.typ = 1 ∨ x.typ = 2 ∨ x.typ = 8 then (pairsOf data).all fun p => recTarget l x p.1 p.2 else true

/-- The check of 0x09 to 0x0C that a section fails; 0 for none (12 R272). -/
def State.secCheck (s : State) (l : List Sec) (x : Sec) (data : List Byte) : Nat :=
  if !formOk x data then 9
  else if !(recsOk l x data && targetOk x data) then 0xA
  else s.endCheck x data

/-- The first section that fails a check: the code and its index. -/
def State.secsCheck (s : State) (rd : CopyRd) (l : List Sec) : Nat → List Sec → Option (Nat × Nat)
  | _, [] => none
  | i, x :: t =>
    let c := s.secCheck l x (rd x.off x.len)
    if c ≠ 0 then some (c, i) else s.secsCheck rd l (i + 1) t

/-- Every check of R272 on a copy: the failing code and index, or none (12 R272, R281). -/
def State.copyCheck (s : State) (rd : CopyRd) : Option (Nat × Nat) :=
  let h := hdrOf (rd 0 64)
  let tb := tableBytes rd h
  let l := secsOf tb
  let a := hdrCheck (s.get R.SYS_ID.SREV) h
  let b := s.tableCheck h tb
  if a ≠ 0 then some (a, 0xFF)
  else if b ≠ 0 then some (b, 0xFF)
  else match s.secsCheck rd l 0 l with
    | some r => some r
    | none =>
      if !denCounts (denOf rd l) l then some (8, 0xFF)
      else if compatOf rd l ≠ h.compat then some (0xD, 0xFF)
      else none

end Sys2Proof.Machine
end

