-- ==== Sys2Proof/Machine/DsuOps.lean ====
section
/-! DEFINITION. Shared operations of the diagnostic service unit: responses, the transport of a response, sessions, and what a
return to the default session or a reset ends (16_service_and_vehicle_bus.md R352 to R354, R363, R364, R367). -/

namespace Sys2Proof.Machine

def State.modDsu (s : State) (f : Dsu → Dsu) : State := { s with dsu := f s.dsu }
def State.modImg (s : State) (f : Img → Img) : State := { s with img := f s.img }

/-- The sessions as DSU_STAT.SESS codes them (16 R354, R370). -/
def sesDefault : Nat := 1
def sesProgramming : Nat := 2
def sesExtended : Nat := 3

/-- The port takes diagnostic frames: in service, enabled, not bus-off (16 R348, R349). -/
def State.diagOn (s : State) : Bool := s.canInService && s.bit R.CAN_CFG.EN && s.get R.CAN_STAT.STATE != 2

/-- A request is taken: no response to an earlier one is pending (16 R353). -/
def State.reqOn (s : State) : Bool := s.diagOn && s.dsu.pend.isNone && s.dsu.tx.isNone

/-- The port takes the frames of a request: under the identifier of CAN_DIAG or, functionally addressed, of CAN_FUNC, and in FD
frames only where they are in use (16 R348, R369). -/
def State.frameTaken (s : State) (q : ReqKind) : Bool :=
  q.id.toNat == s.get (if q.functional then R.CAN_FUNC.ID else R.CAN_DIAG.REQID) && (!q.fd || s.bit R.CAN_CFG.FDEN)

/-- The longest message of a single frame, the data bytes of a first frame, those of a consecutive frame (16 R352). -/
def sfMax (fd : Bool) : Nat := if fd then 62 else 7
def ffData (fd : Bool) : Nat := if fd then 62 else 6
def cfData (fd : Bool) : Nat := if fd then 63 else 7

/-- The length of a frame that holds n bytes: classical frames are padded to 8 bytes, FD frames to the next length that they have
(16 R352; PRESUMED, log 15). -/
def canLen (fd : Bool) (n : Nat) : Nat :=
  if fd then ([8, 12, 16, 20, 24, 32, 48, 64].find? fun k => decide (n ≤ k)).getD 64 else 8

/-- The frame that carries some bytes to the tester: identifier and format, the bit rate switch, the padding (16 R348, R352, R369). -/
def State.frameOf (s : State) (fd : Bool) (l : List Byte) : CanSent :=
  { id := s.get R.CAN_DIAG.RSPID, fd := fd, brs := fd && s.bit R.CAN_CFG.BRS,
    data := l ++ List.replicate (canLen fd l.length - l.length) (BitVec.ofNat 8 (s.get R.CAN_CFG.PAD)) }

/-- A message as a single frame; above 7 bytes the length stands in a second byte (16 R352; PRESUMED, log 15). -/
def sfBytes (m : List Byte) : List Byte := (if m.length ≤ 7 then le 1 m.length else 0 :: le 1 m.length) ++ m

/-- The first frame of a longer message (16 R352; PRESUMED, log 15). -/
def ffBytes (fd : Bool) (m : List Byte) : List Byte := be 2 (0x1000 + m.length) ++ m.take (ffData fd)

/-- Up to k consecutive frames of a message, from sequence number sn on (16 R352; PRESUMED, log 15). -/
def cfBytes (fd : Bool) : Nat → Nat → List Byte → List (List Byte)
  | 0, _, _ => []
  | k + 1, sn, l =>
    if l.isEmpty then [] else (le 1 (0x20 + sn % 16) ++ l.take (cfData fd)) :: cfBytes fd k (sn + 1) (l.drop (cfData fd))

/-- A message is sent, in the frame format of its request: a single frame, or a first frame that awaits flow control (16 R352). -/
def State.send (s : State) (fd : Bool) (m : List Byte) : State :=
  s.modDsu fun x =>
    { x with rsp := m, pend := none,
             tx := if m.length ≤ sfMax fd then none else some { rest := m.drop (ffData fd), sn := 1, fd := fd },
             out := [s.frameOf fd (if m.length ≤ sfMax fd then sfBytes m else ffBytes fd m)] }

/-- Nothing is sent. -/
def State.silent (s : State) : State := s.modDsu fun x => { x with rsp := [], pend := none, tx := none, out := [] }

/-- A negative response; to a functional request 0x11, 0x12, 0x31 and 0x7E are suppressed (16 R353, R370). -/
def State.negative (s : State) (q : ReqKind) (sid nrc : Nat) : State :=
  if q.functional && (nrc == 0x11 || nrc == 0x12 || nrc == 0x31 || nrc == 0x7E) then s.silent
  else (s.set R.DSU_STAT.LASTNRC nrc).send q.fd [0x7F, BitVec.ofNat 8 sid, BitVec.ofNat 8 nrc]

/-- A positive response; a message above 4095 bytes does not exist, and 0x14 answers instead (16 R352, R355; log 14). -/
def State.positive (s : State) (q : ReqKind) (sid : Nat) (m : List Byte) : State :=
  if 4094 < m.length then s.negative q sid 0x14 else s.send q.fd (BitVec.ofNat 8 (sid + 0x40) :: m)

/-- A positive response that bit 7 of the subfunction suppresses (16 R353). -/
def State.positiveSub (s : State) (q : ReqKind) (sid : Nat) (m : List Byte) : State :=
  if q.suppress then s.silent else s.positive q sid m

/-- The window of DTC setting off closes (16 R363). -/
def State.dtcOn (s : State) : State :=
  if s.bit R.DSU_STAT.DTCOFF then
    let n := s.fls.lastSeq.toNat
    ((s.setB R.DSU_STAT.DTCOFF false).set R.DSU_DTCON.V n).raise 0x0BA6 0 (le 1 1 ++ le 4 n)
  else s

/-- The window of DTC setting off opens (16 R363). -/
def State.dtcOff (s : State) : State :=
  if s.bit R.DSU_STAT.DTCOFF then s
  else
    let n := s.fls.lastSeq.toNat
    (((s.setB R.DSU_STAT.DTCOFF true).set R.DSU_DTCOFF.V n).set R.DSU_DTCON.V 0xFFFFFFFF).raise 0x0BA6 0 (le 1 2 ++ le 4 n)

/-- A download fails: DLFAIL, event 0x0207; its first page is never programmed (12 R281, R285). -/
def State.dlFail (s : State) (code : Nat) : State :=
  let s1 := ((s.setB R.IMG_STAT.DLACT false).setB R.IMG_STAT.DLFAIL true).raise 0x0207 1
    (le 1 s.img.dlCopy ++ le 1 code ++ le 4 (s.get R.IMG_DLCNT.V))
  { s1 with img := { s1.img with dlBuf := [], dlGot := false, dlSize := 0 } }

/-- An active download is failed (16 R367). -/
def State.dlAbort (s : State) : State := if s.bit R.IMG_STAT.DLACT then s.dlFail 0 else s

/-- The session changes: event 0x0BA0. A return to the default session locks security, sets DTC setting on and fails an
active download (16 R354, R367, R371). -/
def State.toSession (s : State) (new cause : Nat) : State :=
  let old := s.get R.DSU_STAT.SESS
  if old = new then s
  else
    let s1 := (s.set R.DSU_STAT.SESS new).raise 0x0BA0 0 (le 1 new ++ le 1 old ++ le 1 cause)
    if new = sesDefault then ((s1.setB R.DSU_STAT.SEC false).dtcOn).dlAbort else s1

/-- What a reset of the core ends in the DSU (16 R354, R367). -/
def State.dsuReset (s : State) : State := if s.coreRuns then (s.toSession sesDefault 2).dlAbort else s

/-- A clearing that a request awaits is over: the positive response follows (16 R364). -/
def State.clearAnswered (s : State) : State :=
  match s.dsu.pend with
  | some p =>
    if p.sid = 0x14 then s.positive p.kind 0x14 []
    else if p.sid = 0x31 then s.positiveSub p.kind 0x31 [0x01, 0xFE, 0x03]
    else s
  | none => s

/-! ### Services -/

/-- The sessions in which a service is available (16 R355). -/
def sesAll : List Nat := [sesDefault, sesProgramming, sesExtended]
def sesExt : List Nat := [sesExtended]
def sesProg : List Nat := [sesProgramming]
def sesNonDef : List Nat := [sesProgramming, sesExtended]

/-- A request of n bytes for a service that runs in some sessions only, and with security where it is asked for: the work, or
0x7F or 0x33. A request whose frames the port does not take is ignored, and a functional one that a single frame does not hold;
a request ends a reception in progress (16 R348, R352, R353, R355). -/
def State.service (s : State) (q : ReqKind) (sid n : Nat) (sessions : List Nat) (sec : Bool) (work : State → State) : State :=
  if !s.reqOn || !s.frameTaken q || (q.functional && decide (sfMax q.fd < n)) then s
  else
    let s1 := s.modDsu fun x => { x with rx := none }
    if !sessions.contains (s1.get R.DSU_STAT.SESS) then s1.negative q sid 0x7F
    else if sec && !s1.bit R.DSU_STAT.SEC then s1.negative q sid 0x33
    else work s1

/-! ### RequestDownload (12_image_and_start.md R279, R280; 16 R367) -/

/-- The copy that memoryAddress names (12 R264, R280). -/
def dlTarget (addr : Nat) : Option Nat := if addr = 0 then some 0 else if addr = 0x400000 then some 1 else none

/-- DSRC of an enabled domain names the copy (12 R280). -/
def State.copyServes (s : State) (c : Nat) : Bool :=
  (List.range 4).any fun d => s.bitI R.SYS_DCFG.DEN d && b2n (s.bitI R.IMG_STAT.DSRC d) == c

/-- What RequestDownload answers: 0, or a negative response code; session, security and format come before the refusals of
R280, which are taken in their order (12 R280; 16 R355, R367; log 14). -/
def State.dlRefusal (s : State) (r : DlReq) : Nat :=
  if s.get R.DSU_STAT.SESS ≠ sesProgramming then 0x7F
  else if s.bit R.DSU_STAT.SEC = false then 0x33
  else if r.dfi ≠ 0 ∨ r.fmt ≠ 0x44 then 0x31
  else match dlTarget r.addr.toNat with
    | none => 0x31
    | some c =>
      if s.copyServes c ∨ 0x400000 < r.size.toNat then 0x31
      else if s.img.par.dens.toNat < 23 ∨ s.bit R.IMG_STAT.QERR ∨ s.bit R.IMG_STAT.DLACT ∨ s.pwr.inh then 0x22
      else 0

/-- The bytes of the flash from an address are erased (12 R280). -/
def flashErase (f : Tbl Byte) (a n : Nat) : Tbl Byte := f.filter fun e => !(decide (a ≤ e.1) && decide (e.1 < a + n))

/-- The sector that an erase covers: the smallest erase type that the flash gives (12 R265, R280; log 6). -/
def sectorSize (p : FlashParams) : Nat := 2 ^ (p.erase.min?.getD 12)

/-- A download is accepted: the target loses its V bit, and its first sector is erased (12 R280, R284). -/
def State.dlAccept (s : State) (c size : Nat) : State :=
  let s1 := if c = 0 then (s.setB R.IMG_STAT.VA false).set R.IMG_GENA.V 0 else (s.setB R.IMG_STAT.VB false).set R.IMG_GENB.V 0
  let s2 := (s1.setB R.IMG_STAT.DLACT true).set R.IMG_DLCNT.V 0
  { s2 with img := { s2.img with flash := flashErase s2.img.flash (0x400000 * c) (sectorSize s.img.par), fBusy := true, dlSize := size,
                                 dlCopy := c, dlCtr := 0, dlBuf := [], dlGot := false } }

/-- RequestDownload is answered (12 R280; 16 R367). -/
def State.dlAnswer (s : State) (r : DlReq) : State :=
  let s0 := { s with img := { s.img with dlWait := none } }
  let n := s0.dlRefusal r
  if n ≠ 0 then s0.negative r.kind 0x34 n
  else (s0.dlAccept ((dlTarget r.addr.toNat).getD 0) r.size.toNat).positive r.kind 0x34 [0x20, 0x0F, 0xFF]

/-- A domain is being reloaded. -/
def State.inReload (s : State) : Bool := (List.range 4).any fun d => (s.dom d).dst == .reload

/-- A request of a download is left waiting for the end of a reload (12 R279). -/
def State.dlHold (s : State) (q : ReqKind) (sid : Nat) (r : DlWait) : State :=
  { s with img := { s.img with dlWait := some r }, dsu := { s.dsu with pend := some { sid := sid, kind := q } } }

/-! ### TransferData (12 R280; 16 R367) -/

/-- One byte of a copy is programmed; the first byte of a sector of n bytes has its sector erased before (12 R280). -/
def progByte (n : Nat) (f : Tbl Byte) (base off : Nat) (b : Byte) : Tbl Byte :=
  tblSet flashDflt (if off % n = 0 ∧ off ≠ 0 then flashErase f (base + off) n else f) (base + off) b

/-- Bytes of a copy from an offset on are programmed (12 R280). -/
def progBytes (n base : Nat) : Tbl Byte → Nat → List Byte → Tbl Byte
  | f, _, [] => f
  | f, off, b :: t => progBytes n base (progByte n f base off b) (off + 1) t

/-- Bytes of a download arrive: the first 256 go to the buffer, the others are programmed (12 R280). -/
def State.dlTake (s : State) (ctr : BitVec 8) (data : List Byte) : State :=
  let n := s.get R.IMG_DLCNT.V
  let head := data.take (256 - n)
  let rest := data.drop head.length
  let s1 := s.set R.IMG_DLCNT.V (n + data.length)
  s1.modImg fun x =>
    { x with dlCtr := ctr, dlBuf := x.dlBuf ++ head, fBusy := x.fBusy || !rest.isEmpty,
             flash := progBytes (sectorSize s.img.par) (copyBase x.dlCopy) x.flash (n + head.length) rest }

/-- TransferData: the counter, the repeat of the previous one, the size, and the write inhibit; during a reload it waits, since
the loader has the flash (12 R279 to R281; 16 R367). -/
def State.transferData (s : State) (q : ReqKind) (ctr : BitVec 8) (data : List Byte) : State :=
  let n := s.get R.IMG_DLCNT.V
  if s.bit R.IMG_STAT.DLACT = false then s.negative q 0x36 0x24
  else if s.img.dlGot && ctr == s.img.dlCtr then s.positive q 0x36 [ctr]
  else if ctr ≠ s.img.dlCtr + 1 then s.negative q 0x36 0x73
  else if s.img.dlSize < n + data.length then s.negative q 0x36 0x71
  else if s.inReload then s.dlHold q 0x36 (.data q ctr data)
  else if s.pwr.inh && decide (256 < n + data.length) then (s.dlFail 0).negative q 0x36 0x72
  else ((s.dlTake ctr data).modImg fun x => { x with dlGot := true }).positive q 0x36 [ctr]

/-! ### RequestTransferExit (12 R281; 16 R367) -/

/-- The downloaded copy as it is read back: its first bytes come from the buffer (12 R281). -/
def State.dlRd (s : State) : CopyRd := fun off n =>
  let b := (s.img.dlBuf.drop off).take n
  b ++ s.copyRd s.img.dlCopy (off + b.length) (n - b.length)

/-- The generation exceeds that of every accepted copy (12 R281). -/
def State.genAbove (s : State) (g : Nat) : Bool :=
  (!s.bit R.IMG_STAT.VA || decide (s.get R.IMG_GENA.V < g)) && (!s.bit R.IMG_STAT.VB || decide (s.get R.IMG_GENB.V < g))

/-- A downloaded copy passed: its first page is programmed, and it is accepted (12 R281, R284, R285). -/
def State.dlPass (s : State) (h : Hdr) : State :=
  let c := s.img.dlCopy
  let cmp := s.img.compat == some h.compat
  let s1 := s.modImg fun x =>
    { x with flash := progBytes (sectorSize s.img.par) (copyBase c) x.flash 0 x.dlBuf, fBusy := true, dlBuf := [], dlGot := false, dlSize := 0 }
  let s2 :=
    if c = 0 then
      (((s1.setB R.IMG_STAT.VA true).setB R.IMG_STAT.CMPA cmp).set R.IMG_GENA.V h.gen).modImg fun x => { x with hcrcA := h.hcrc }
    else
      (((s1.setB R.IMG_STAT.VB true).setB R.IMG_STAT.CMPB cmp).set R.IMG_GENB.V h.gen).modImg fun x => { x with hcrcB := h.hcrc }
  (s2.setB R.IMG_STAT.DLACT false).raise 0x0206 0 (le 1 c ++ le 4 h.gen ++ le 1 (b2n cmp))

/-- The copy is read back in the mode that its header allows (12 R266, R281). -/
def State.dlRead (s : State) : State :=
  let h := hdrOf (s.dlRd 0 64)
  if hdrCheck (s.get R.SYS_ID.SREV) h = 0 then s.showMode h else s

/-- RequestTransferExit; during a reload it waits (12 R279, R281; 16 R367). -/
def State.transferExit (s : State) (q : ReqKind) : State :=
  if s.bit R.IMG_STAT.DLACT = false then s.negative q 0x37 0x24
  else if s.inReload then s.dlHold q 0x37 (.exit q)
  else
    let h := hdrOf (s.dlRd 0 64)
    match s.copyCheck s.dlRd with
    | some (code, sidx) => ((s.dlRead.imgChk code sidx 2 s.img.dlCopy).dlFail code).negative q 0x37 0x72
    | none =>
      if s.get R.IMG_DLCNT.V ≠ s.img.dlSize ∨ !s.genAbove h.gen ∨ s.pwr.inh then (s.dlRead.dlFail 0).negative q 0x37 0x72
      else (s.dlRead.dlPass h).positive q 0x37 []

/-- A request of a download that waited for the end of a reload is served (12 R279). -/
def State.dlServe (s : State) : State :=
  let s0 := { s with img := { s.img with dlWait := none } }
  match s.img.dlWait with
  | some w =>
    if s.inReload then s
    else match w with
      | .request r => s0.dlAnswer r
      | .data q ctr data => s0.transferData q ctr data
      | .exit q => s0.transferExit q
  | none => s

end Sys2Proof.Machine
end

