-- ==== Sys2Proof/Machine/Modes.lean ====
section
/-! DEFINITION. The device modes: transitions, the start order, and what follows from any change of sources, requests
and conditions within a step (11_modes.md R248 to R259, R263). -/

namespace Sys2Proof.Machine

/-- The mode changes: PREV, event 0x0101, every domain OFF in a mode that lets none leave it, measurements end with
SERVICE, device-wide latches clear at the end of HOLD and WAKE (11 R248, R249, R253, R263; 08 R190). -/
def State.enterMode (s : State) (m : Mode) : State :=
  let old := s.sys.mode
  if old = m then s
  else
    let s1 := (s.set R.SYS_MODE.PREV (modeCode old)).modSys fun x => { x with mode := m }
    let s2 := if s.pwr.coreUp && s.tb.run then s1.raise 0x0101 0 (le 1 (modeCode m) ++ le 1 (modeCode old) ++ le 3 s.now) else s1
    let s3 := if old = .service then (List.range 4).foldl State.zStop s2 else s2
    let s4 := if old = .crank then (List.range 4).foldl (fun t d => t.modDom d fun x => { x with shedCnt := 0 }) s3 else s3
    let s5 := if modeOpen m then s4 else s4.allOff
    if old = .hold ∨ old = .wake then s5.protClearDevice else s5

/-- PRECHARGE entered afresh: the start order begins (11 R257). -/
def State.beginPrecharge (s : State) : State :=
  (s.modSys fun x => { x with past := false, startNext := 0, ensWaitOver := false }).enterMode .precharge

/-- The rise regime is in force: SELFTEST, PRECHARGE or SERVICE, and REC seconds after a recovery (14_thermal.md R319). -/
def State.riseRegime (s : State) : Bool :=
  s.sys.mode == .selftest || s.sys.mode == .precharge || s.sys.mode == .service || decide (s.now < s.thm.recEnd)

/-- A condition of DERATE holds (11 R249; 14 R315, R319). -/
def State.derateCond (s : State) : Bool :=
  (s.bit R.THM_STAT.THRT && !s.riseRegime) || s.bit R.PWR_STAT.DRL || s.bit R.PWR_STAT.DRH || s.bit R.SYS_REQ.DERATE

/-- A tester session is open: the session is not the default one (11 R249; 16_service_and_vehicle_bus.md R354). -/
def State.sessionOpen (s : State) : Bool := s.get R.DSU_STAT.SESS != 1

/-- The first running mode whose condition holds (11 R249). -/
def State.runTarget (s : State) : Mode :=
  if s.bit R.PWR_STAT.CRK then .crank
  else if s.derateCond || s.sys.derateHeld then .derate
  else if s.sessionOpen then .service
  else if s.bit R.SYS_REQ.FIXED then .playFixed
  else .play

/-- An enabled domain that can no longer leave OFF or FAULTED (11 R250). -/
def State.domDead (s : State) (d : Nat) : Bool :=
  match (s.dom d).dst with
  | .off => !s.canLeaveOff d
  | .faulted => (!(s.dom d).repair || (s.dom d).refused) && (s.dom d).relReq.isNone && !s.sys.reloadQ.contains d
  | _ => false

/-- No enabled domain can leave OFF or FAULTED (11 R250). -/
def State.allDead (s : State) : Bool :=
  (List.range 4).all fun d => !s.bitI R.SYS_DCFG.DEN d || s.domDead d

/-- The cause is judged once the waits of R257 are over, or the converter has failed its start calibration (11 R250, R257). -/
def State.deadJudged (s : State) : Bool :=
  s.sys.past || s.bit R.ADC_CALSTAT.FAIL ||
    (s.bit R.ADC_CALSTAT.INIT && (!s.bit R.ENS_CFG.EN || s.get R.ENS_STAT.STATE == 2 || s.sys.ensWaitOver))

/-- A HOLD cause is in force (11 R250). -/
def State.holdCause (s : State) : Bool :=
  s.sys.noImage || s.sys.deadHold || s.bit R.SYS_REQ.HOLD || s.sys.sdHold

/-- HOLD is left after a shut-down: the rise regime of the recovery begins; event 0x0B27, whose byte 0 counts the sensors broken
(14 R319, R320, R322; DEDUCED, log 82). -/
def State.recovered (s : State) : State :=
  if s.thm.recov then
    let s1 := { s with thm := { s.thm with recov := false, recEnd := s.now + s.get R.THM_CFG.REC * 393216000 } }
    s1.raise 0x0B27 0 (le 1 (popN 9 (s.get R.THM_STAT.BRK)) ++ le 2 (s.get R.THM_MAX.Q) ++ le 1 (s.get R.THM_SD.TOT))
  else s

/-- The waits of R257 before the first domain starts are over (11 R257). -/
def State.startReady (s : State) : Bool :=
  s.bit R.ADC_CALSTAT.INIT && (!s.bit R.ENS_CFG.EN || s.get R.ENS_STAT.STATE == 2 || s.sys.ensWaitOver)

/-- The start order has begun, or may: the waits come before the first domain only (11 R257). -/
def State.startBegun (s : State) : Bool := s.startReady || s.sys.startNext != 0

/-- The start order: while no domain is in PRECHARGE, the next enabled one that can leave OFF enters it (11 R257). -/
def State.startOrder (s : State) : State :=
  if !s.startBegun || (List.range 4).any (fun d => (s.dom d).dst = .precharge) then s
  else
    match (List.range 4).find? fun d => decide (s.sys.startNext ≤ d) && decide ((s.dom d).dst = .off) && s.canLeaveOff d with
    | some d => (s.modSys fun x => { x with startNext := d + 1 }).enterDst d .precharge
    | none => s.modSys fun x => { x with startNext := 4 }

/-- The condition under which device PRECHARGE ends (11 R248). -/
def State.startDone (s : State) : Bool :=
  s.sys.startNext == 4 && !(List.range 4).any (fun d => (s.dom d).dst = .precharge) &&
    (List.range 4).any fun d => (s.dom d).dst = .active || (s.dom d).dst = .muted

/-- The last domain of the order has started: the order is over once none is left that can start (11 R257). -/
def State.orderOver (s : State) : State :=
  if s.startBegun && !((List.range 4).any fun d => decide (s.sys.startNext ≤ d) && decide ((s.dom d).dst = .off) && s.canLeaveOff d)
  then s.modSys fun x => { x with startNext := 4 } else s

/-- The device mode follows its conditions (11 R248 to R250). -/
def State.followMode (s : State) : State :=
  match s.sys.mode with
  | .precharge =>
    let s1 := if s.deadJudged && s.allDead then s.modSys fun x => { x with deadHold := true } else s
    if s1.holdCause then s1.enterMode .hold
    else if s1.bit R.PWR_STAT.CRK then s1.enterMode .crank
    else
      let s2 := s1.startOrder.orderOver
      if s2.startDone then
        let s3 := s2.modSys fun x => { x with past := true, derateHeld := s2.derateCond }
        s3.enterMode s3.runTarget
      else s2
  | .play | .playFixed | .derate | .crank | .service =>
    let s1 := if s.deadJudged && s.allDead then s.modSys fun x => { x with deadHold := true } else s
    if s1.holdCause then s1.enterMode .hold
    else if !s1.sys.past then (if s1.bit R.PWR_STAT.CRK then s1 else s1.enterMode .precharge)
    else
      let s2 := if s1.derateCond then s1.modSys fun x => { x with derateHeld := true } else s1
      s2.enterMode s2.runTarget
  | .hold => if s.holdCause then s else s.recovered.beginPrecharge
  | _ => s

/-- One round of consequences: sources, requests, reloads, mode. -/
def State.settleRound (s : State) : State :=
  let s1 := s.protFollow
  let s2 := (List.range 4).foldl (fun t d => (((t.followFault d).followMute d).followRepair d).followReload d) s1
  s2.followQueue.followMode

/-- What a round must leave unchanged for the consequences to be complete. -/
def State.settleKey (s : State) : Mode × List Dst × List Nat :=
  (s.sys.mode, (List.range 4).map fun d => (s.dom d).dst, s.sys.reloadQ)

/-- Rounds until nothing changes; the changes that the spec puts a tick or a few after their cause come about here (log 2). -/
def State.settleN : Nat → State → State
  | 0, s => s
  | n + 1, s =>
    let t := s.settleRound
    if t.settleKey = s.settleKey then t else t.settleN n

/-- Every domain is OFF, RELOAD or FAULTED. -/
def State.allQuiet (s : State) : Bool := (List.range 4).all fun d => !dstRuns (s.dom d).dst

/-- The Weft link begins to acquire (02_time_base_and_clocks.md R47). -/
def State.ensAcquire (s : State) : State :=
  let s1 := s.set R.ENS_STAT.STATE 1
  { s1 with ens := { s.ens with miss := 0, good := 0, errs := [], rtts := [], loaded := false, mute := false, hop := none } }

/-- A failed link acquires again once every domain is OFF, RELOAD or FAULTED (02 R47). -/
def State.ensRetry (s : State) : State :=
  if s.get R.ENS_STAT.STATE = 3 ∧ s.allQuiet then s.ensAcquire else s

/-- The consequences of a change, then the balls follow. While the core is in reset or held, only the balls follow (13 R293). -/
def State.settle (s : State) : State :=
  if s.pwr.coreUp && !s.pwr.supplyHeld then (s.settleN 16).ensRetry.dlServe.refreshBalls else s.refreshBalls

/-- The registers that a core reset keeps: the always-on island and the hold island (11 R251, R262; 13 R287; 15 R341; log 11). -/
def keptRegs : List Nat := [R.SYS_RSTCAUSE.at, R.PWR_LASTF.at, R.PWR_CRCNT.at, R.FLS_STAT.at]

/-- Everything in the core goes to its reset value; the always-on island, the hold island, the fuses, the flash and the
memories keep what they hold (11 R251; 13 R287, R301; 15 R341; log 11). -/
def State.coreClear (s : State) : State :=
  { s with
    regs := s.regs.filter fun e => keptRegs.contains e.1
    tb := { now := s.tb.now, latch := [], run := false, retry := false, trimIdx := s.tb.trimIdx, trimFresh := true }
    sys := { mode := s.sys.mode, wakeCycle := s.sys.wakeCycle }
    pwr := { s.pwr with coreUp := false, crRun := 0, crExit := none, crStart := 0, crLow := 0, htRun := false, htOver := false,
                        sink := false,
                        saLock := s.pwr.saLock || s.bit R.DSU_STAT.LOCK }
    doms := [], loops := [], coefs := [], prfs := [], lanes := [], phases := [], quants := [], balls := []
    mon := {}
    fls := { s.fls with dripOn := false, dripSub := 0, dripExp := 0, unexp := 0, dripSkip := 0, buckets := [],
                        csrc := false, evt := [], evtOn := false, copyPend := false }
    eng := { ecc := s.eng.ecc, pkaW := s.eng.pkaW }
    ens := {}
    img := { flash := s.img.flash }
    adc := {}
    thm := {}
    net := {}
    tdms := []
    dsu := {} }

/-- What mode control raises at a reset while CCLK runs: the mode change, and the domains that enter OFF (11 R263). -/
def State.resetEvents (s : State) (m : Mode) : State :=
  if s.coreRuns && s.tb.run && s.sys.mode != m then
    let s1 := s.raise 0x0101 0 (le 1 (modeCode m) ++ le 1 (modeCode s.sys.mode) ++ le 3 s.now)
    (List.range 4).foldl (fun t d => if (s.dom d).dst = .off then t
      else t.raise 0x0102 0 (le 1 d ++ le 1 (dstCode (s.dom d).dst) ++ le 1 (dstCode .off) ++ le 1 (s.fcause d))) s1
  else s

/-- A reset cause: the balls are released, the cause and the mode in force are recorded, the core resets, and the device
restarts in WAKE, or in STANDBY where no wake request of the WAKE ball is in force: KEEP clears at every reset. VAUX_EN stays low
while nRESET is held low. A clock fault has stopped the CCLK that events register in (11 R251, R262, R263; 13 R289; 15 R334). -/
def State.coreReset (s : State) (cause : Fld) : State :=
  let m : Mode := if s.pwr.wakeBall then .wake else .standby
  let s0 := (if cause = R.SYS_RSTCAUSE.CLK then s else s.resetEvents m).dsuReset
  let s1 := (s0.set R.SYS_RSTCAUSE.RMODE (modeCode s.sys.mode)).incSat R.SYS_RSTCAUSE.RCNT
  let s2 := (s1.setB cause true).coreClear
  let s3 := s2.modPwr fun p => { p with vauxEn := p.wakeBall && !p.nrstHeld, sleepLow := false }
  s3.modSys fun x => { x with mode := m }

/-- The device is in a mode from WAKE on (11 R248, R251). -/
def State.fromWake (s : State) : Bool := s.sys.mode != .off && s.sys.mode != .standby

/-- The device enters STANDBY: the mode change is raised while the recorder's clock still runs (R263; log 62), then the core is
in reset and VAUX_EN is low (11 R246; 13 R289). -/
def State.toStandby (s : State) : State :=
  let s1 := if s.pwr.coreUp && s.tb.run then
      s.raise 0x0101 0 (le 1 (modeCode .standby) ++ le 1 (modeCode s.sys.mode) ++ le 3 s.now)
    else s
  (s1.coreClear.modPwr fun p => { p with vauxEn := false, sleepLow := false }).modSys fun x => { x with mode := .standby }

/-- A wake request is in force (13 R289). -/
def State.wakeReq (s : State) : Bool := s.pwr.wakeBall || s.bit R.PWR_CTL.KEEP

end Sys2Proof.Machine
end

