-- ==== Sys2Proof/Machine/FlsOps.lean ====
section
/-! DEFINITION. Shared operations of Flowstone and Drip: commits, the slots of the FeRAM, the Drip cycle
(15_drip_and_flowstone.md R323 to R344). -/

namespace Sys2Proof.Machine

/-- SEQ a lies at or before SEQ b (15 R338). -/
def seqLe (a b : BitVec 32) : Bool := a = b || (a - b).msb

/-- The later of two SEQ values (15 R338). -/
def seqMax (a b : BitVec 32) : BitVec 32 := if seqLe a b then b else a

/-- A slot counts as empty: blank, failing its CRC, or at or before CLRSEQ (15 R337). -/
def slotEmpty (clr : BitVec 32) : Slot → Bool
  | .blank => true
  | .bad => true
  | .rcd r => seqLe r.seq clr

/-- The lowest-indexed empty slot from i on whose block is not retired (15 R337). -/
def firstEmpty (t : Tbl Slot) (clr : BitVec 32) (blockOut : Nat → Bool) : Nat → Nat → Option Nat
  | 0, _ => none
  | n + 1, i =>
    if !blockOut i && slotEmpty clr (tblGet (fun _ => .blank) t i) then some i else firstEmpty t clr blockOut n (i + 1)

/-- The slot of the oldest SEQ among those of a severity at or below a bound (15 R337). -/
def oldestAtMost (sev : BitVec 2) (blockOut : Nat → Bool) : Tbl Slot → Option (Nat × BitVec 32)
  | [] => none
  | (i, .rcd r) :: t =>
    let rest := oldestAtMost sev blockOut t
    if blockOut i || sev < r.sev then rest
    else match rest with
      | some (k, q) => if seqLe r.seq q then some (i, r.seq) else some (k, q)
      | none => some (i, r.seq)
  | _ :: t => oldestAtMost sev blockOut t

/-- A block of 32 main-ring slots is retired (15 R339). -/
def State.blockRetired (s : State) (i : Nat) : Bool := s.fls.retired.contains (i / 32)

/-- The slot of the main ring for a record of a severity (15 R337). -/
def State.mainSlot (s : State) (sev : BitVec 2) : Option Nat :=
  match firstEmpty s.fls.main s.fls.cnt.clrSeq s.blockRetired 7168 0 with
  | some i => some i
  | none => (oldestAtMost sev s.blockRetired s.fls.main).map (·.1)

/-- The spill slots of the tally area, 64 to 1023 (15 R339). -/
def spillOf (t : Tbl Slot) : Tbl Slot := t.filter fun e => decide (64 ≤ e.1)

/-- The slot of the spill ring for a record of a severity (15 R337, R339). -/
def State.spillSlot (s : State) (sev : BitVec 2) : Option Nat :=
  match firstEmpty s.fls.tal s.fls.cnt.clrSeq (fun _ => false) 960 64 with
  | some i => some i
  | none => (oldestAtMost sev (fun _ => false) (spillOf s.fls.tal)).map (·.1)

/-- The counter block written to the copy whose turn it is (15 R339). -/
def State.writeCounters (s : State) : State :=
  s.modFls fun f =>
    let c := { f.cnt with nret := f.retired.length }
    if f.cntNext then { f with cnt := c, cntB := some c, cntNext := false }
    else { f with cnt := c, cntA := some c, cntNext := true }

/-- The valid copy of the counter block with the larger NEXTSEQ (15 R339). -/
def newestCopy (a b : Option Counters) : Option Counters :=
  match a, b with
  | some x, some y => if seqLe x.nextSeq y.nextSeq then some y else some x
  | some x, none => some x
  | none, y => y

/-- A record that finds no slot is dropped (15 R337). -/
def State.dropRecord (s : State) : State :=
  let s1 := s.modFls fun f => { f with cnt := { f.cnt with dropNe := satN 0xFFFFFFFF (f.cnt.dropNe + 1) } }
  (s1.incSat R.FLS_CNT.DROPNE).setB R.FLS_STAT.DROPNE true

/-- The RAM mirror takes a committed record (15 R337). -/
def mirrorPush (m : List FRec) (r : FRec) : List FRec := (r :: m).take 64

/-- The oldest record of a mirror with severity at or below a bound, by SEQ (15 R337, R340). -/
def mirrorOldest (sev : BitVec 2) : List FRec → Option (BitVec 32)
  | [] => none
  | r :: t =>
    if sev < r.sev then mirrorOldest sev t
    else match mirrorOldest sev t with
      | some q => if seqLe r.seq q then some r.seq else some q
      | none => some r.seq

/-- SEQ taken by the record whose commit begins (15 R338). -/
def State.takeSeq (s : State) : State :=
  s.modFls fun f => { f with lastSeq := f.cnt.nextSeq, cnt := { f.cnt with nextSeq := f.cnt.nextSeq + 1 } }

/-- DEGRADED is set and event 0x0B63 raised, with the failed area, slot and SEQ; for a failed retirement map, the slot is that of the
record whose failure led to it (15 R340, R347; log 86). -/
def State.degrade (s : State) (area slot : Nat) (q : BitVec 32) : State :=
  (s.setB R.FLS_STAT.DEGRADED true).raise 0x0B63 3 (le 1 area ++ le 2 slot ++ le 4 q.toNat)

/-- A record committed while DEGRADED: only the mirror takes it, by the slot rule of R337 (15 R340). -/
def State.commitMirror (s : State) (r : FRec) : State :=
  if s.fls.mirror.length < 64 then
    (s.takeSeq).modFls fun f => { f with mirror := { r with seq := s.fls.cnt.nextSeq } :: f.mirror }
  else match mirrorOldest r.sev s.fls.mirror with
    | some q =>
      (s.takeSeq).modFls fun f =>
        { f with mirror := { r with seq := s.fls.cnt.nextSeq } :: f.mirror.filter fun x => x.seq ≠ q }
    | none => s.dropRecord

/-- A record written to the spill ring; a failing write degrades the recorder (15 R339, R340). -/
def State.commitSpill (s : State) (r : FRec) (fails : Bool) : State :=
  match s.spillSlot r.sev with
  | none => s.dropRecord
  | some i =>
    let r1 := { r with seq := s.fls.cnt.nextSeq }
    let s1 := s.takeSeq.modFls fun f =>
      { f with tal := tblSet (fun _ => .blank) f.tal i (if fails then .bad else .rcd r1), mirror := mirrorPush f.mirror r1 }
    if fails then s1.degrade 1 i r1.seq else s1.writeCounters

/-- One commit of a record, with what the media do (15 R337 to R340). -/
def State.commitRec (s : State) (r : FRec) (media : MediaOutcome) : State :=
  if s.bit R.FLS_STAT.DEGRADED then s.commitMirror r
  else if r.code = 0x0B62 ∨ r.code = 0x0B63 then s.commitSpill r (media != .good)
  else match s.mainSlot r.sev with
    | none => s.dropRecord
    | some i =>
      let q := s.fls.cnt.nextSeq
      let r1 := { r with seq := q }
      if media = .good then
        (s.takeSeq.modFls fun f =>
          { f with main := tblSet (fun _ => .blank) f.main i (.rcd r1), mirror := mirrorPush f.mirror r1 }).writeCounters
      else
        let s1 := s.takeSeq.modFls fun f =>
          { f with main := tblSet (fun _ => .blank) f.main i .bad, retired := f.retired ++ [i / 32], mirror := mirrorPush f.mirror r1 }
        if media = .mapFails then s1.degrade 2 i q
        else
          let s2 := (s1.modFls fun f => { f with mapA := some f.retired, mapB := some f.retired }).set
            R.FLS_STAT.RETCNT (satN 255 s1.fls.retired.length)
          let s3 := s2.raise 0x0B62 2 (le 1 0 ++ le 1 (i / 32) ++ le 2 i ++ le 4 q.toNat)
          match s3.spillSlot r.sev with
          | none => s3.dropRecord
          | some k =>
            let s4 := s3.modFls fun f =>
              { f with tal := tblSet (fun _ => .blank) f.tal k (if media = .spillFails then .bad else .rcd r1) }
            if media = .spillFails then s4.degrade 1 k q else s4.writeCounters

/-- The oldest staged record committed (15 R337). -/
def State.commitOldest (s : State) (media : MediaOutcome) (pl : Bool) : State :=
  match s.fls.stage with
  | [] => s
  | r :: t => (s.modFls fun f => { f with stage := t }).commitRec { r with pl := pl } media

/-- The recorder may begin a commit (15 R337; 13 R300). -/
def State.commitReady (s : State) : Bool := s.bit R.FLS_STAT.READY && !s.pwr.inh && !s.pwr.supplyHeld

/-- A record of a tally ring of 16 slots from base: a free slot, or the oldest overwritten; it carries the SEQ of the last
commit and takes no number (15 R338, R339). The ring is followed by its record count. -/
def State.tallyWrite (s : State) (base : Nat) (r : FRec) : State :=
  let ring := s.fls.tal.filter fun e => decide (base ≤ e.1) && decide (e.1 < base + 16)
  let slot :=
    match (List.range 16).find? fun k => tblGet (fun _ => Slot.blank) s.fls.tal (base + k) == .blank with
    | some k => base + k
    | none =>
      match ring.find? fun e => match e.2 with
        | .rcd x => ring.all fun e' => match e'.2 with
          | .rcd y => decide (seqLe x.seq y.seq) && (x.seq != y.seq || decide (x.ts ≤ y.ts))
          | _ => true
        | _ => true with
      | some e => e.1
      | none => base
  s.modFls fun f => { f with tal := tblSet (fun _ => .blank) f.tal slot (.rcd { r with seq := f.lastSeq, tally := true }) }

/-- The 32 bytes of a record (15 R332). -/
def recBytes (r : FRec) : List Byte :=
  let b := le 4 r.seq.toNat ++ le 6 r.ts.toNat ++ le 2 r.code.toNat ++ le 1 (r.sev.toNat * 64 + r.src.toNat) ++
    le 1 (2 * b2n r.tally + b2n r.pl) ++ le 2 r.supp.toNat ++ data12 r.data ++ le 2 0
  b ++ le 2 (crc16 b)

/-- The 32 bytes of a counter block (15 R339). -/
def cntBytes (c : Counters) : List Byte :=
  let b := le 4 c.nextSeq.toNat ++ le 4 c.clrSeq.toNat ++ le 4 c.starts ++ le 4 c.dropNe ++ le 4 c.dropStg ++ le 4 c.suppr ++
    le 2 c.nret ++ le 4 0
  b ++ le 2 (crc16 b)

/-- The 32 bytes of a retirement map (15 R339). -/
def mapBytes (l : List Nat) : List Byte :=
  let b := (List.range 28).map (fun i => BitVec.ofNat 8 (l.foldl (fun m k => if k / 8 = i then setBit m (k % 8) true else m) 0)) ++ le 2 0
  b ++ le 2 (crc16 b)

/-! ### Drip -/

/-- The next token (15 R325). -/
def dripNext (t : Nat) : Nat := if t % 2 = 1 then (t / 2) ^^^ 0xB400 else t / 2

/-- The tasks whose domain is OFF, RELOAD or FAULTED (15 R329). -/
def State.excusedNow (s : State) : Nat :=
  (List.range 16).foldl (fun m i => let d := s.taskDom i
    if decide (d < 4) && dstExcuses (s.dom d).dst then setBit m i true else m) 0

/-- The end of a Drip cycle, whatever its outcome (15 R325, R328, R329). -/
def State.dripRestart (s : State) : State :=
  let s1 := (((s.set R.DRP_CNT.C 0).setB R.DRP_STAT.ARMED false).set R.DRP_CHKIN.SEEN 0).set R.DRP_CYC.DBL 0
  let s2 := (s1.set R.DRP_CYC.EXC s1.excusedNow).set R.DRP_STAT.TOKEN (dripNext (s1.get R.DRP_STAT.TOKEN))
  s2.modFls fun f =>
    { f with unexp := 0, dripSkip := 0, dripExp := if s.bit R.DRP_STAT.START then f.dripExp else s.get R.DRP_CHKIN.EXP }

/-- A loader milestone, or the second of HOLD without an image, ends a cycle of the start regime as good (15 R327). -/
def State.dripMilestone (s : State) : State :=
  if s.fls.dripOn && s.bit R.DRP_STAT.START then s.dripRestart else s

/-- Drip expires: the record is staged, the core resets (15 R331, R347). -/
def State.dripExpireNow (s : State) (cause : Nat) : State :=
  let s1 := s.raise 0x0B41 3
    (le 1 cause ++ le 1 (s.get R.DRP_STAT.LASTC) ++ le 1 (s.get R.DRP_STAT.FAILCNT) ++ le 3 (s.get R.DRP_CNT.C) ++
      le 2 (s.get R.DRP_CHKIN.SEEN) ++ le 2 (s.get R.DRP_CHKIN.EXP))
  s1.coreReset R.SYS_RSTCAUSE.DRIP

/-- The causes that hold at the end of a cycle, beside those of its ending write (15 R330). -/
def State.dripCauses (s : State) : Nat :=
  let exp := s.fls.dripExp
  let exc := s.get R.DRP_CYC.EXC
  let need := exp - (exp &&& exc)
  (if need - (need &&& s.get R.DRP_CHKIN.SEEN) = 0 then 0 else 4) + (if need &&& s.get R.DRP_CYC.DBL = 0 then 0 else 8) +
    (if s.fls.unexp - (s.fls.unexp &&& exc) = 0 then 0 else 16)

/-- An ordinary cycle ends with the causes of its ending write (15 R325, R330). -/
def State.dripEnd (s : State) (c0 : Nat) : State :=
  let c := c0 + s.dripCauses
  if c = 0 then (s.set R.DRP_STAT.FAILCNT 0).dripRestart
  else
    let n := s.get R.DRP_STAT.FAILCNT + 1
    let s1 := ((s.set R.DRP_STAT.LASTC c).setB R.DRP_STAT.FAIL true).set R.DRP_STAT.FAILCNT (satN 7 n)
    if max (s.get R.DRP_WIN.FLIM) 1 ≤ n then s1.dripExpireNow 2
    else
      let s2 := s1.raise 0x0B42 1 (le 1 c ++ le 3 (s.get R.DRP_CNT.C) ++ le 2 (s.get R.DRP_CHKIN.SEEN) ++ le 2 (s.get R.DRP_CYC.DBL))
      s2.dripRestart

/-- The Drip clock edge that registers a write to DRP_KICK, counted from the write: the first or the second, a free value
(15 R326; log 84). -/
def State.kickEdge (s : State) : Nat := 1 + Config.tbSkew s.freeCtr % 2

/-- A write ends the cycle with count c, at the edge e Drip periods ahead: until then C stands at 0 (15 R325, R326, R328; log 84). -/
def State.dripClose (s : State) (c e cause : Nat) : State :=
  let t := (s.set R.DRP_CNT.C c).dripEnd cause
  if t.fls.dripOn then t.modFls fun f => { f with dripSkip := e } else t

/-- A write to DRP_KICK: its count is the value of C at the edge that registers it. One that would register where C passes the end of
the window comes too late for Drip to judge it (15 R325, R326). -/
def State.dripWrite (s0 : State) (w : Nat) : State :=
  if !s0.fls.dripOn || s0.bit R.DRP_STAT.START then s0
  else
    let e := s0.kickEdge
    let s := s0.bump
    let c := s.get R.DRP_CNT.C + e - min e s.fls.dripSkip
    let t := s.get R.DRP_STAT.TOKEN
    if 64 * s.get R.DRP_WIN.TMAX < c then s
    else if s.bit R.DRP_STAT.ARMED then
      s.dripClose c e (if w ≠ 0xFFFF0000 + (t ^^^ 0xFFFF) then 2 else if c < 64 * max (s.get R.DRP_WIN.TMIN) 1 then 1 else 0)
    else if w = t then s.setB R.DRP_STAT.ARMED true
    else s.dripClose c e 2

/-- A check-in of task i; one of a task that is not expected, by the EXP in force in the cycle, counts unless the task is excused by
the end of the cycle (15 R328 to R330; log 85). -/
def State.dripCheckIn (s : State) (i : Nat) : State :=
  if !s.fls.dripOn || s.bit R.DRP_STAT.START || s.bitI R.DRP_CYC.EXC i then s
  else
    let s1 := if s.fls.dripExp.testBit i then s else s.modFls fun f => { f with unexp := setBit f.unexp i true }
    if s.bitI R.DRP_CHKIN.SEEN i then s1.setI R.DRP_CYC.DBL i true else s1.setI R.DRP_CHKIN.SEEN i true

end Sys2Proof.Machine
end

