-- ==== Sys2Proof/Machine/TimeBase.lean ====
section
/-! DEFINITION. The clocks and TB_NOW: what one idle tick does, and the clock commands
(02_time_base_and_clocks.md R30, R31, R36, R37). -/

namespace Sys2Proof.Machine

/-- Millisecond counts of the buckets that are not full (15_drip_and_flowstone.md R335). -/
def State.bucketMs (s : State) : State :=
  s.modFls fun f => { f with buckets := f.buckets.map fun e =>
    if e.2.tok < (s.bucketDP e.1).1 then (e.1, { e.2 with ms := e.2.ms + 1 }) else e }

/-- One Drip clock period in 384 ticks while Drip runs; a cycle begins at the edge that registers the write that ended the one before
(15 R323, R326). -/
def State.dripTick (s : State) : State :=
  if s.fls.dripOn && !s.pwr.supplyHeld then
    if 383 ≤ s.fls.dripSub then
      let s1 := s.modFls fun f => { f with dripSub := 0, dripSkip := f.dripSkip - 1 }
      if s.fls.dripSkip = 0 then s1.incSat R.DRP_CNT.C else s1
    else s.modFls fun f => { f with dripSub := f.dripSub + 1 }
  else s

/-- One tick: what a step on an empty queue does (02 R36; log 1). -/
def State.tick (s : State) : State :=
  let s1 := if s.tb.run then s.modTb fun t => { t with now := (t.now + 1) % 2 ^ 64 } else s
  let s2 := if s1.tb.run && s1.tb.now % 393216 = 0 then s1.bucketMs else s1
  s2.dripTick

/-- WAKE passes to LOAD once all three PLLs are locked and the resistor check is done (11_modes.md R248); event 0x0103. -/
def State.wakeToLoad (s : State) : State :=
  if s.sys.mode = .wake && s.bit R.CLK_STAT.PLLA_LOCK && s.bit R.CLK_STAT.PLLB_LOCK && s.bit R.CLK_STAT.PLLC_LOCK &&
      (List.range 4).all (fun d => s.bit (R.PWM_SCHKD.DONE d)) then
    let s1 := (s.enterMode .load).raise 0x0103 0
      (le 1 (s.reg R.SYS_RSTCAUSE.at).toNat ++ le 1 (s.get R.SYS_RSTCAUSE.RMODE) ++ le 1 (s.get R.SYS_RSTCAUSE.RCNT))
    { s1 with img := { s1.img with phase := .discover } }
  else s

/-- PLL_A_LOCK: TB_NOW starts at 0, PLLs B and C are enabled, the start calibration begins (02 R30; 07 R166). -/
def execPllALock (s : State) : Host.Outcome State Fault Refusal :=
  .next (if s.pwr.coreUp && !s.pwr.supplyHeld && !s.bit R.CLK_STAT.PLLA_LOCK then
    ((s.modTb fun t => { t with now := 0, run := true, latch := [] }).setB R.CLK_STAT.PLLA_LOCK true).setB R.CLK_STAT.XOK true
  else s)

/-- PLL_B_C_LOCK: PLL B or C reports lock; the last one can complete WAKE (02 R30; 11 R248). -/
def execPllBCLock (which : PllBC) (s : State) : Host.Outcome State Fault Refusal :=
  .next (if s.pwr.coreUp && !s.pwr.supplyHeld && s.bit R.CLK_STAT.PLLA_LOCK then
    match which with
    | .b => (s.setB R.CLK_STAT.PLLB_LOCK true).wakeToLoad
    | .c => (s.setB R.CLK_STAT.PLLC_LOCK true).wakeToLoad
  else s)

/-- REFERENCE_CLOCK_FAULT: the balls are released and the device resets with a clock cause (02 R31; 11 R251). -/
def execReferenceClockFault (s : State) : Host.Outcome State Fault Refusal :=
  .next (if s.pwr.coreUp && !s.pwr.supplyHeld then s.coreReset R.SYS_RSTCAUSE.CLK else s)

/-- PLL_C_LOCK_LOSS: PLLC_LOCK clears, the CAN port goes recessive, the retries begin (02 R31). -/
def execPllCLockLoss (s : State) : Host.Outcome State Fault Refusal :=
  .next (if s.pwr.coreUp && !s.pwr.supplyHeld && s.bit R.CLK_STAT.PLLC_LOCK then
    (s.setB R.CLK_STAT.PLLC_LOCK false).modTb fun t => { t with retry := true }
  else s)

/-- PLL_C_RETRY: one retry of the lock; the first success takes the port back into service (02 R31). -/
def execPllCRetry (locked : Bool) (s : State) : Host.Outcome State Fault Refusal :=
  .next (if s.tb.retry && locked && !s.pwr.supplyHeld then
    ((s.setB R.CLK_STAT.PLLC_LOCK true).modTb fun t => { t with retry := false }).wakeToLoad
  else s)

/-- The latch of TB_NOW[63:32] that belongs to a master; none holds 0 (02 R37). -/
def State.tbLatch (s : State) (m : Nat) : Word := tblGet (fun _ => 0) s.tb.latch m

/-- A read of TB_NOW_LO by a master latches the high word for it (02 R37). -/
def State.tbLoRead (s : State) (m : Nat) : State :=
  s.modTb fun t => { t with latch := tblSet (fun _ => 0) t.latch m (BitVec.ofNat 32 (t.now / 2 ^ 32)) }

/-- TB_NOW_LO_READ: the master's latch takes TB_NOW[63:32] (02 R37). -/
def execTbNowLoRead (master : Nat) (s : State) : Host.Outcome State Fault Refusal :=
  .next (if s.pwr.coreUp && !s.pwr.supplyHeld then s.tbLoRead master else s)

end Sys2Proof.Machine
end

