-- ==== Sys2Proof/Machine/MonOps.lean ====
section
/-! DEFINITION. Shared operations of the window monitors: filters and their start (08_monitors_and_protection.md R181 to R183). -/

namespace Sys2Proof.Machine

/-- The filter history of a comparator (2m LO, 2m + 1 HI) or a driver-fault input (84 + i), newest first; it starts full
of asserted samples (08 R182, R183). -/
def State.history (s : State) (i : Nat) : List Bool := tblGet (fun _ => List.replicate 15 true) s.mon.hist i

/-- The filter settings of a source: FWIN and FTHR (08 R182, R183). -/
def State.filterSet (s : State) (i : Nat) : Nat × Nat :=
  if i < 84 then (s.get (R.MON_FILT.FWIN (i / 2)), s.get (R.MON_FILT.FTHR (i / 2)))
  else (s.get (R.MON_FFILT.FWIN (i - 84)), s.get (R.MON_FFILT.FTHR (i - 84)))

/-- Settings of a filter without an error of the host's own making (08 R182). -/
def filterOk (fwin fthr : Nat) : Bool := fwin != 0 && decide (fwin < 2 * fthr) && decide (fthr ≤ fwin)

/-- The settings as a filter works with them: any legal ones where they are in error (08 R182; 00_scope.md R7; log 4). -/
def State.filterEff (s : State) (i : Nat) : Nat × Nat :=
  let f := s.filterSet i
  if filterOk f.1 f.2 then f
  else
    let v := (s.freeWord (if i < 84 then R.MON_FILT.at (i / 2) else R.MON_FFILT.at (i - 84))).toNat
    let n := 1 + v % 15
    (n, n / 2 + 1 + v / 15 % (n - n / 2))

/-- A filter that settled to t with free settings: the counter of free values advances. -/
def State.filterBump (s : State) (i : Nat) (t : State) : State := if filterOk (s.filterSet i).1 (s.filterSet i).2 then t else t.bump

/-- The filtered level of a source as its status register shows it. -/
def State.filtered (s : State) (i : Nat) : Bool :=
  if i < 84 then
    if i % 2 = 1 then s.bit (R.MON_ST.FHI (i / 2)) else s.bit (R.MON_ST.FLO (i / 2))
  else s.bitI R.MON_NFST.FLT (i - 84)

/-- The filtered level of a source written. -/
def State.setFiltered (s : State) (i : Nat) (b : Bool) : State :=
  if i < 84 then
    if i % 2 = 1 then s.setB (R.MON_ST.FHI (i / 2)) b else s.setB (R.MON_ST.FLO (i / 2)) b
  else s.setI R.MON_NFST.FLT (i - 84) b

/-- The raw level of a source written. -/
def State.setRaw (s : State) (i : Nat) (b : Bool) : State :=
  if i < 84 then
    if i % 2 = 1 then s.setB (R.MON_ST.RHI (i / 2)) b else s.setB (R.MON_ST.RLO (i / 2)) b
  else s.setI R.MON_NFST.RAW (i - 84) b

/-- The samples asserted among the newest n of a history. -/
def asserted (h : List Bool) (n : Nat) : Nat := ((h.take n).filter id).length

/-- One sample into a history of fifteen (08 R182). -/
def State.pushSample (s : State) (i : Nat) (b : Bool) : State :=
  s.modMon fun m => { m with hist := tblSet (fun _ => List.replicate 15 true) m.hist i ((b :: s.history i).take 15) }

/-- One sample of a filter: history, raw level, and the filtered level by majority; a level held by a test keeps its
value (08 R182, R194). -/
def State.filterStep (s : State) (i : Nat) (held : Bool) (b : Bool) : State :=
  let s1 := (s.pushSample i b).setRaw i b
  let (fwin, fthr) := s.filterEff i
  let k := asserted (s1.history i) fwin
  if held then s1
  else if fthr ≤ k then s1.setFiltered i true
  else if k ≤ fwin - fthr then
    (s1.setFiltered i false).modMon fun m => { m with released := tblSet (fun _ => false) m.released i true }
  else s1

/-! ### Comparators -/

/-- A comparator's output, but for what a test does to it (08 R180, R181). -/
def State.cmpOn (s : State) (i : Nat) : Bool := tblGet (fun _ => true) s.mon.cmp i

/-- The level of a threshold code, in 1/1024 of a DAC step of the reference in force, from that of code 512 (08 R179). -/
def dacLevel (t : Int) : Int := (t - 512) * 1024

/-- The output of a comparator at an input level, by its thresholds and hysteresis (08 R178, R180). -/
def State.cmpNext (s : State) (i : Nat) (x : Int) : Bool :=
  let m := i / 2
  let h : Int := s.get (R.MON_THR.HYS m)
  if i % 2 = 1 then
    let t : Int := s.get (R.MON_THR.THI m)
    if s.cmpOn i then !decide (x < dacLevel (t - h)) else decide (dacLevel t < x)
  else
    let t : Int := s.get (R.MON_THR.TLO m)
    if s.cmpOn i then !decide (dacLevel (t + h) < x) else decide (x < dacLevel t)

/-- The test mode in effect at a monitor: the automatic test applies its modes in turn (08 R194, R195). -/
def State.testMode (s : State) (m : Nat) : Nat :=
  if !s.bit (R.MON_ST.TST m) then 0
  else if s.mon.autoStep ≠ 0 then s.mon.autoStep % 4
  else s.get R.MON_TEST.MODE

/-- The input of a comparator in a test mode: tied to +1.03125 or -1.03125 of FS, which is 528 DAC steps (08 R194). -/
def testInput (k : Nat) (x : Int) : Int := if k = 2 then 528 * 1024 else if k = 3 then -(528 * 1024) else x

/-- The raw level that a comparator's output gives: inverse with input and threshold exchanged (08 R194). -/
def testRaw (k : Nat) (c : Bool) : Bool := if k = 1 then !c else c

/-- A comparator at an input level (08 R180, R182, R194). -/
def State.cmpInput (s : State) (i : Nat) (x : Int) (take : Bool) : State :=
  let k := s.testMode (i / 2)
  let c := s.cmpNext i (testInput k x)
  let s1 := (s.modMon fun m => { m with cmp := tblSet (fun _ => true) m.cmp i c }).setRaw i (testRaw k c)
  if take then s1.filterStep i (s.bit (R.MON_ST.TST (i / 2))) (testRaw k c) else s1

/-- Both comparators of a monitor at an input level (08 R178, R182). -/
def State.monInput (s : State) (m : Nat) (x : Int) (take : Bool) : State :=
  (s.cmpInput (2 * m) x take).cmpInput (2 * m + 1) x take

/-- The raw levels that a test mode gives a monitor when it takes effect (08 R194). -/
def State.testDrive (s : State) (m : Nat) : State :=
  let k := s.testMode m
  let lo := if k = 2 then false else if k = 3 then true else s.cmpOn (2 * m)
  let hi := if k = 2 then true else if k = 3 then false else s.cmpOn (2 * m + 1)
  ((s.modMon fun x => { x with cmp := tblSet (fun _ => true) (tblSet (fun _ => true) x.cmp (2 * m) lo) (2 * m + 1) hi }).setRaw (2 * m)
    (testRaw k lo)).setRaw (2 * m + 1) (testRaw k hi)

/-- A comparator starts: asserted, its history full of asserted samples, and no release since (08 R181, R182, R197). -/
def State.cmpStart (s : State) (i : Nat) : State :=
  let s1 := ((s.setRaw i true).setFiltered i true)
  s1.modMon fun m =>
    { m with cmp := tblErase m.cmp i, hist := tblErase m.hist i, released := tblErase m.released i }

/-- Both comparators of a monitor start (08 R181). -/
def State.monStart (s : State) (m : Nat) : State := (s.cmpStart (2 * m)).cmpStart (2 * m + 1)

/-- Every comparator starts (08 R181). -/
def State.allMonStart (s : State) : State := (List.range 42).foldl State.monStart s

end Sys2Proof.Machine
end

