-- ==== Sys2Proof/Machine/AdcOps.lean ====
section
/-! DEFINITION. Shared operations of the feedback converter: codes, positions, frame-table claims, injections, swaps,
slice and channel correction, and the battery conditions that its results drive
(07_feedback_converter.md R155 to R175; 13_supply_events.md R294 to R297). -/

namespace Sys2Proof.Machine

def State.modAdc (s : State) (f : Adc → Adc) : State := { s with adc := f s.adc }

/-- A code that scan and injection may name (07 R157). -/
def scanCode (c : Nat) : Bool :=
  decide (c < 0x20) || c == 0x40 || (0x44 ≤ c && c ≤ 0x58) || (0x60 ≤ c && c ≤ 0x6B)

/-- Some code that scan and injection may name, by a free number (00_scope.md R7; log 4). -/
def anyScanCode (v : Nat) : Nat := if scanCode (v % 0x6C) then v % 0x6C else v % 0x20

/-- A frame-table code of domain d (07 R157, R159). -/
def frameCode (d c : Nat) : Bool :=
  (4 * d ≤ c && c < 4 * d + 4) || (0x10 + 4 * d ≤ c && c < 0x14 + 4 * d) || c == 0x20 + d || c == 0x24 + d ||
    c == 0x28 + d || c == 0x2C + d || c == 0x30 + d

/-- A pair code (07 R157). -/
def pairCode (c : Nat) : Bool := 0x20 ≤ c && c ≤ 0x27

/-- A marker code, which claims no slot (07 R157). -/
def markerCode (c : Nat) : Bool := 0x30 ≤ c && c ≤ 0x33

/-- The frame of the loop that a code feeds, in slots; none for the rail feedforward (07 R159). -/
def State.codeFrame (s : State) (d c : Nat) : Option Nat :=
  if c < 0x10 then some (s.audioH d / 4)
  else if c < 0x20 then some (s.supplyH d / 4)
  else if 0x24 ≤ c ∧ c < 0x28 then none
  else some (s.outerF d / 4)

/-- An entry that keeps the rules of R159 within its share (07 R159). -/
def State.entryOk (s : State) (i : Nat) : Bool :=
  let d := i / 48
  let c := s.get (R.ADC_FRAME.CODE i)
  let n := s.get (R.ADC_FRAME.PER i) + 1
  frameCode d c && decide (s.get (R.ADC_FRAME.PHS i) < n) &&
    (match s.codeFrame d c with
     | some f => f == n && s.frameEntry d c == some (i - 48 * d) &&
         !((List.range 48).any fun k => 48 * d + k != i && s.get (R.ADC_FRAME.CODE (48 * d + k)) == c)
     | none => true)

/-- An entry fires in a slot (07 R159). -/
def State.fires (s : State) (i slot : Nat) : Bool :=
  slot % (s.get (R.ADC_FRAME.PER i) + 1) == s.get (R.ADC_FRAME.PHS i)

/-- Latent errors of an entry of the converter's memories (07 R175). -/
def State.adcEcc (s : State) (k : Nat) : Nat := tblGet (fun _ => 0) s.adc.ecc k

/-- An entry is read: a single-bit error is corrected, a double-bit error is found; event 0x0607 (07 R175). -/
def State.eccUse (s : State) (k tab idx : Nat) : State :=
  if s.adcEcc k = 1 then (s.modAdc fun a => { a with ecc := tblErase a.ecc k }).setB R.ADC_STAT.ECCCOR true
  else if s.adcEcc k = 2 then
    ((s.modAdc fun a => { a with ecc := tblPut a.ecc k 3 }).setB R.ADC_STAT.ECCERR true).raise 0x0607 2 (le 1 tab ++ le 1 idx)
  else s

/-- An entry whose domain runs and that is in use (07 R159). -/
def State.entryLive (s : State) (i : Nat) : Bool :=
  dstRuns (s.dom (i / 48)).dst && s.get (R.ADC_FRAME.CODE i) != 0xFF

/-- The claim of an entry on a slot: none, its first or its second slot (07 R159, R175). -/
def State.claim (s : State) (slot i : Nat) : Option Bool :=
  let c := s.get (R.ADC_FRAME.CODE i)
  if !s.entryLive i || markerCode c || decide (2 ≤ s.adcEcc i) then none
  else if s.fires i slot then some false
  else if pairCode c && decide (1 ≤ slot) && s.fires i (slot - 1) then some true
  else none

/-- The entries that claim a slot, with their half (07 R159). -/
def State.claims (s : State) (slot : Nat) : List (Nat × Bool) :=
  (List.range 192).filterMap fun i => (s.claim slot i).map fun h => (i, h)

/-- The winner: the domain that entered PRECHARGE earliest, then the lowest index (07 R160). -/
def State.slotWinner (s : State) : List (Nat × Bool) → Option (Nat × Bool)
  | [] => none
  | c :: t =>
    match s.slotWinner t with
    | some w =>
      if (s.dom (w.1 / 48)).seq < (s.dom (c.1 / 48)).seq then some w else some c
    | none => some c

/-- The slice at a position (07 R155). -/
def State.sliceAt (s : State) (p : Nat) : Nat :=
  if p < 8 then bitsAt (s.get R.ADC_SMAP0.POS0_7) (4 * p) 4 else bitsAt (s.get R.ADC_SMAP1.POS8_11) (4 * (p - 8)) 4

/-- A slice put at a position. -/
def State.setSliceAt (s : State) (p k : Nat) : State :=
  if p < 8 then s.set R.ADC_SMAP0.POS0_7 (setBits (s.get R.ADC_SMAP0.POS0_7) (4 * p) 4 k)
  else s.set R.ADC_SMAP1.POS8_11 (setBits (s.get R.ADC_SMAP1.POS8_11) (4 * (p - 8)) 4 k)

/-- A conversion that will not come: an ISP input is missing for IL, a scan conversion is done with (03 R61; 07 R170, R175). -/
def State.noConv (s : State) : Owner → State
  | .frame i _ =>
    let c := s.get (R.ADC_FRAME.CODE i)
    if 0x10 ≤ c ∧ c < 0x20 then
      s.modDom (i / 48) fun x => { x with ispMiss := tblSet (fun _ => false) x.ispMiss (c % 4) true }
    else s
  | .scan _ _ => s.modAdc fun a => { a with scanOut := a.scanOut - 1 }
  | _ => s

/-- A losing entry delivers no conversion: COLL, CIDX, event 0x0603; an ISP input is missing for IL (07 R160; 03 R61). -/
def State.collide (s : State) (win lose : Nat) : State :=
  (((s.setB R.ADC_STAT.COLL true).set R.ADC_STAT.CIDX lose).raise 0x0603 2 (le 1 lose ++ le 1 win ++ le 3 s.now)).noConv
    (.frame lose false)

/-- A conversion is fixed for a slot (07 R161). -/
def State.addConv (s : State) (slot : Nat) (o : Owner) : State :=
  s.modAdc fun a => { a with convs := a.convs ++ [{ slot := slot, slice := s.sliceAt (slot % 12), own := o }] }

/-- The first converter-cycle boundary at or after a tick (07 R169). -/
def cycleFrom (t : Nat) : Nat := (t + 47) / 48 * 48

/-- The oldest injection without a slot takes one. -/
def giveSlot (slot : Nat) : List Inj → List Inj
  | [] => []
  | q :: t => if q.slot.isNone then { q with slot := some slot } :: t else q :: giveSlot slot t

/-- The injections whose slot has not started: they are pending (07 R169, R173). -/
def State.injPend (s : State) : List Inj :=
  s.adc.inj.filter fun q => match q.slot with
    | none => true
    | some k => decide (s.now < 4 * k)

/-- The owner of a free slot: the oldest injection, the next scan conversion, or nobody. A swap waits for the start of the last marked
injection (07 R161, R169). -/
def State.freeSlot (s : State) (slot : Nat) : State :=
  match s.adc.inj.find? fun q => q.slot.isNone with
  | some q =>
    (s.modAdc fun a => { a with inj := giveSlot slot s.injPend
                                swapAt := if q.marked then max a.swapAt (cycleFrom (4 * slot)) else a.swapAt }).addConv slot
      (.injected q.code q.org)
  | none =>
    match s.adc.scanLeft with
    | (c, q) :: t => (s.modAdc fun a => { a with scanLeft := t, scanOut := a.scanOut + 1 }).addConv slot (.scan c q)
    | [] => s.addConv slot .idle

/-- A request for an injected conversion; the ninth is refused (07 R173). -/
def State.inject (s : State) (code org : Nat) : State :=
  if 8 ≤ s.injPend.length then s.setB R.ADC_INJSTAT.REJ true
  else s.modAdc fun a => { a with inj := s.injPend ++ [{ code := code, org := org, marked := false }] }

/-- A write to ADC_INJ; a code that injection does not know is an error of the host's own making, and any code may be converted
(07 R157, R173; 00_scope.md R7; log 4). -/
def State.injAct (s : State) (code : Nat) : State :=
  if scanCode code then s.inject code 0 else s.bump.inject (anyScanCode (s.freeWord R.ADC_INJ.at).toNat) 0

/-- The boundary that the marked injections which have a slot ask for (07 R169). -/
def markBound (b : Nat) (l : List Inj) : Nat :=
  l.foldl (fun m q => match q.slot with
    | some k => max m (cycleFrom (4 * k))
    | none => m) b

/-- A swap registers: pending injections are marked; the boundary is the next one, or that of the last marked injection (07 R169). -/
def State.swapRegister (s : State) : State :=
  (s.modAdc fun a => { a with swapWait := false, inj := s.injPend.map fun q => { q with marked := true }
                              swapAt := markBound ((s.now / 48 + 1) * 48) s.injPend }).setB R.ADC_CALSTAT.ROTPEND true

/-- A swap is asked for; it registers once the spare is calibrated (07 R167). -/
def State.swapAsk (s : State) : State :=
  if s.bit R.ADC_CALSTAT.ROTPEND then s
  else if s.adc.spareOk then s.swapRegister
  else s.modAdc fun a => { a with swapWait := true }

/-- Rotation runs: INIT, ROTEN and a spare (07 R167). -/
def State.rotates (s : State) : Bool :=
  s.coreRuns && s.bit R.ADC_CALSTAT.INIT && s.bit R.ADC_CALCTL.ROTEN && !s.bit R.ADC_CALSTAT.NOSPARE

/-- The limits of R168 (07 R168). -/
def calOk (c : SliceCal) : Bool :=
  decide (-1024 ≤ c.ofs.toInt) && decide (c.ofs.toInt ≤ 1024) && decide (-5243 ≤ c.gndev.toInt) && decide (c.gndev.toInt ≤ 5243) &&
    c.weightsOk && decide (-31 ≤ c.skew) && decide (c.skew ≤ 31) && c.skewOk

/-- What a calibration leaves. -/
def calOf (c : SliceCal) : Cal := { ofs := c.ofs.toInt, gndev := c.gndev.toInt, w := c.weights, skew := c.skew }

/-- Calibration values come into force for a slice; ADC_SCALs shows them (07 R167, R177). -/
def State.setCal (s : State) (k : Nat) (c : Cal) : State :=
  ((s.modAdc fun a => { a with cals := tblSet (fun _ => {}) a.cals k c, ecc := tblErase a.ecc (512 + k) }).setS (R.ADC_SCAL.OFS k) c.ofs).setS (R.ADC_SCAL.GNDEV k) c.gndev

/-- A slice is out of service for good: BAD, event 0x0601 (07 R168). -/
def State.badSlice (s : State) (k : Nat) (ofs gndev : Int) : State :=
  (s.setI R.ADC_CALSTAT.BAD k true).raise 0x0601 1 (le 1 k ++ le 2 (bitsN 16 ofs) ++ le 2 (bitsN 16 gndev))

/-- Rotation stops without a spare: NOSPARE, event 0x0609 (07 R168). -/
def State.noSpare (s : State) (k : Nat) : State :=
  let s1 := ((s.setB R.ADC_CALSTAT.NOSPARE true).set R.ADC_CALSTAT.SPARE 15).modAdc fun a =>
    { a with spareOk := false, swapWait := false }
  s1.raise 0x0609 1 (le 1 k ++ le 1 (s.get R.ADC_CALSTAT.NEXTPOS))

/-- A double-bit error in the calibration of a slice in service: the slice is BAD, its position delivers nothing, and the
spare is to take the first position so left (07 R175). A swap that is already registered is turned to it (log 77). -/
def State.loseSlice (s : State) (k : Nat) : State :=
  let c := tblGet (fun _ => {}) s.adc.cals k
  let s1 := s.badSlice k c.ofs c.gndev
  let pos := ((List.range 12).filter fun p => s.sliceAt p == k && !s.adc.lost.contains p).take 1
  let s2 := s1.modAdc fun a => { a with lost := a.lost ++ pos }
  if s2.bit R.ADC_CALSTAT.NOSPARE then s2 else s2.swapAsk

/-! ### Corrections -/

/-- The weighted sum of eighteen decisions (07 R162). -/
def decisionSum (b : BitVec 18) : Nat → List Int → Int
  | _, [] => 0
  | i, w :: t => (if b.getLsbD i then w else -w) + decisionSum b (i + 1) t

/-- The slice correction: the code and OVR (07 R162). -/
def sliceCorrect (c : Cal) (b : BitVec 18) (inovl : Bool) : Int × Bool :=
  let z := decisionSum b 0 c.w - c.ofs
  let x := asr (z * (262144 + c.gndev) + 2097152) 22
  let ovr := decide (32767 < x) || decide (x < -32768) || inovl
  (if ovr then (if x < 0 then -32768 else 32767) else x, ovr)

/-- The committed correction of a physical code: CGM with CGS, and COFS (07 R163, R177). -/
def State.corr (s : State) (pc : Nat) : Coef × Int :=
  if pc < 0x40 then
    ({ m := s.reg (R.ADC_CORRM.at pc), s := BitVec.ofNat 5 (s.get (R.ADC_CORRS.CGS pc)) }, s.getS (R.ADC_CORRS.COFS pc))
  else
    ({ m := s.reg (R.ADC_CORRMB.at (pc - 0x40)), s := BitVec.ofNat 5 (s.get (R.ADC_CORRSB.CGS (pc - 0x40))) },
      s.getS (R.ADC_CORRSB.COFS (pc - 0x40)))

/-- The channel correction, and whether it saturated (07 R163). -/
def chanCorrect (k : Coef × Int) (x : Int) : Int × Bool :=
  let a := coefMul k.1 (x - k.2)
  (rnd a, rndSat a)

/-- The physical code that a frame-table code converts, in its first or second slot (07 R157, R163). -/
def physCode (c : Nat) (second : Bool) : Nat :=
  if c < 0x20 then c
  else if c < 0x28 then (if second then 0x4C else 0x48) + c % 4
  else if c < 0x2C then 0x40
  else 0x44 + c % 4

/-! ### Battery -/

/-- VB of a slice-corrected code (13 R294). -/
def State.vbOf (s : State) (x : Int) : Nat :=
  let v := asr ((x - s.getS R.PWR_VBCAL.OFS) * (s.get R.PWR_VBCAL.GAIN : Int) + 32768) 16
  (clampI 0 0xFFFF v).toNat

/-- The CRANK condition begins (13 R295, R308). -/
def State.crankBegin (s : State) (vb : Nat) : State :=
  let s1 := ((s.setB R.PWR_STAT.CRK true).setB R.PWR_STAT.CRSEEN true).incSat R.PWR_CRCNT.CNT
  let s2 := s1.modPwr fun p => { p with crStart := s.now, crExit := none, crLow := vb }
  s2.raise 0x0B01 1 (le 1 (modeCode s.sys.mode) ++ le 2 vb ++ le 2 (s.get R.PWR_VBAT.VBAT))

/-- The CRANK condition ends (13 R295, R308). -/
def State.crankEnd (s : State) : State :=
  let ms := satN 0xFFFF ((s.now - s.pwr.crStart) / 393216)
  let s1 := s.setB R.PWR_STAT.CRK false
  let s2 := if s1.get R.PWR_CRCNT.LONGEST < ms then s1.set R.PWR_CRCNT.LONGEST ms else s1
  let s3 := s2.modPwr fun p => { p with crRun := 0, crExit := none }
  s3.raise 0x0B02 0 (le 1 (modeCode s.sys.mode) ++ le 2 ms ++ le 2 s.pwr.crLow)

/-- A VB update drives the CRANK condition (13 R295). -/
def State.crankUpdate (s : State) (vb : Nat) : State :=
  let th := s.get R.PWR_THR.CRTH
  let ex := s.get R.PWR_THR.CREX
  if s.bit R.PWR_STAT.CRK then
    let s1 := s.modPwr fun p => { p with crLow := min p.crLow vb }
    if vb < ex then s1.modPwr fun p => { p with crExit := none }
    else
      let t0 := s.pwr.crExit.getD s.now
      let s2 := s1.modPwr fun p => { p with crExit := some t0 }
      if t0 + max (s.get R.PWR_CFG.CRDWELL) 1 * 393216 ≤ s.now then s2.crankEnd else s2
  else
    let n := if vb < th then s.pwr.crRun + 1 else 0
    let s1 := s.modPwr fun p => { p with crRun := n }
    if max (s.get R.PWR_CFG.CRN) 1 ≤ n then s1.crankBegin vb else s1

/-- Entry into a derate band: event 0x0B03 (13 R297, R308). -/
def State.bandEvent (s : State) (high : Nat) : State :=
  (s.setB R.PWR_STAT.DRSEEN true).raise 0x0B03 0
    (le 1 high ++ le 2 (s.get R.PWR_VBAT.VB) ++ le 2 (s.get R.PWR_VBAT.VBAT))

/-- A VB update drives the derate bands (13 R297). -/
def State.bandUpdate (s : State) (vb : Nat) : State :=
  let hys := 10 * s.get R.PWR_CFG.DRHYS
  let lo := s.get R.PWR_DRB.LOWTH
  let hi := s.get R.PWR_DRB.HIGHTH
  let s1 :=
    if s.bit R.PWR_STAT.DRL then (if lo + hys ≤ vb then s.setB R.PWR_STAT.DRL false else s)
    else if vb < lo then (s.setB R.PWR_STAT.DRL true).bandEvent 0 else s
  if s1.bit R.PWR_STAT.DRH then (if vb + hys ≤ hi then s1.setB R.PWR_STAT.DRH false else s1)
  else if hi < vb then (s1.setB R.PWR_STAT.DRH true).bandEvent 1 else s1

/-- PWR_VBAT.VB takes a clean battery conversion, and the conditions follow it (13 R294, R295, R297). -/
def State.vbUpdate (s : State) (x : Int) : State :=
  let vb := s.vbOf x
  ((s.set R.PWR_VBAT.VB vb).crankUpdate vb).bandUpdate vb

/-- PWR_VBAT.VBAT takes a clean conversion of code 0x69 (13 R294). -/
def State.vbatUpdate (s : State) (x : Int) : State :=
  s.set R.PWR_VBAT.VBAT (clampI 0 0xFFFF (asr (x + 16384 + 4) 3)).toNat

end Sys2Proof.Machine
end

