-- ==== Sys2Proof/Machine/Converter.lean ====
section
/-! DEFINITION. The commands of the feedback converter (07_feedback_converter.md R161 to R177). -/

namespace Sys2Proof.Machine

/-- SLOT_OWNER_FIX: 16 ticks before a slot its owner is fixed (07 R160, R161, R175). -/
def State.slotFix (s : State) : State :=
  let slot := s.now / 4 + 4
  let s1 := ((List.range 192).filter s.entryLive).foldl (fun t i => t.eccUse i 0 i) s
  let cl := s1.claims slot
  let lost := s1.adc.lost.contains (slot % 12)
  match s1.slotWinner cl with
  | some (i, h) =>
    let s2 := (cl.filter fun c => c.1 != i).foldl (fun t c => t.collide i c.1) s1
    if lost then s2.noConv (.frame i h) else s2.addConv slot (.frame i h)
  | none => if lost then s1 else s1.freeSlot slot

/-- SLOT_OWNER_FIX (07 R159 to R161). -/
def execSlotOwnerFix (s : State) : Host.Outcome State Fault Refusal :=
  .next (if s.coreRuns && s.bit R.ADC_CALSTAT.INIT && decide (s.adc.startSlot ≤ s.now / 4 + 4) then s.slotFix else s)

/-- A result of a loop reaches the input combiner of its cluster; the latest VL pair and ISP samples that are not missing are kept
for the slots of TDM-B whether their loop runs or not (07 R164; 03_kareo_loop_fabric.md R54, R61; 10_audio_inputs.md R242). -/
def State.deliverY (s : State) (d j : Nat) (y : Int) (miss : Bool) : State :=
  let good := fun (l : Loop) => if miss then l.yGood else y
  if s.running d j then s.modLoop (loopNo d j) fun l => { l with y := y, yMiss := miss, yHave := true, yGood := good l }
  else if j = 4 ∨ 8 ≤ j then s.modLoop (loopNo d j) fun l => { l with yGood := good l }
  else s

/-- A loop-class result goes to the cluster of its domain (07 R164; 03 R61, R62). -/
def State.deliverFrame (s : State) (d c : Nat) (y : Int) (miss : Bool) : State :=
  if c < 0x10 then s.deliverY d (c % 4) y miss
  else if c < 0x20 then
    let s1 := s.modDom d fun x =>
      { x with ispMiss := tblSet (fun _ => false) x.ispMiss (c % 4) miss
               isp := if miss then x.isp else tblPut x.isp (c % 4) y }
    s1.deliverY d (8 + c % 4) y miss
  else if c < 0x24 then
    (s.modDom d fun x =>
      if miss then x else { x with railF := some y, vlP := some y }).deliverY d 4 y miss
  else if c < 0x28 then s.modDom d fun x => if miss then x else { x with railF := some y }
  else if c < 0x2C then (s.modDom d fun x => if miss then x else { x with batF := some y }).deliverY d 6 y miss
  else s.deliverY d 7 y miss

/-- The result of a frame-table conversion: a pair waits for its second slot (07 R163, R164). -/
def State.frameResult (s : State) (i : Nat) (second : Bool) (slot : Nat) (y : Int) (miss : Bool) : State :=
  let d := i / 48
  let c := s.get (R.ADC_FRAME.CODE i)
  if !dstRuns (s.dom d).dst then s
  else if pairCode c then
    if second then
      match tblGet (fun _ => none) s.adc.pairs i with
      | some (sl, y0, m0) =>
        let s1 := s.modAdc fun a => { a with pairs := tblSet (fun _ => none) a.pairs i none }
        if sl + 1 = slot then
          let p := y0 - y
          let s2 := if sat32 p = p then s1 else s1.setB R.ADC_STAT.CSAT true
          s2.deliverFrame d c (sat32 p) (m0 || miss)
        else s1
      | none => s
    else s.modAdc fun a => { a with pairs := tblSet (fun _ => none) a.pairs i (some (slot, y, miss)) }
  else s.deliverFrame d c y miss

/-- A result enters the housekeeping queue; a full queue drops it (07 R172). -/
def State.queueResult (s : State) (w : Word) (start : Nat) : State :=
  if 64 ≤ s.adc.queue.length then
    let was := s.bit R.ADC_QSTAT.OVF
    let s1 := (s.incSat R.ADC_QSTAT.OVFCNT).setB R.ADC_QSTAT.OVF true
    if was then s1 else s1.raise 0x0605 1 (le 1 (s1.get R.ADC_QSTAT.OVFCNT) ++ le 1 s.adc.queue.length)
  else s.modAdc fun a => { a with queue := a.queue ++ [(w, start)] }

/-- The word of a queue entry (07 R177). -/
def queueWord (ovr settle inj : Bool) (slice code : Nat) (v : Int) : Word :=
  BitVec.ofNat 32 (2 ^ 31 + b2n ovr * 2 ^ 30 + b2n settle * 2 ^ 29 + b2n inj * 2 ^ 28 + slice % 16 * 2 ^ 24 +
    code % 256 * 2 ^ 16 + bitsN 16 v)

/-- The latest-value entry of a code, with the raw code kept for the thermal block and the trim (07 R171; 14 R310, R311). -/
def State.hkWrite (s : State) (code : Nat) (x v : Int) (ovr settle : Bool) : State :=
  if code < 0x40 then s
  else
    let k := code - 0x40
    let s1 := ((((s.setB (R.ADC_HK.VALID k) true).setB (R.ADC_HK.OVR k) ovr).setB (R.ADC_HK.SETTLE k) settle).setS (R.ADC_HK.VALUE k) v)
    let ok := !ovr && !settle
    s1.modAdc fun a =>
      { a with hkX := tblPut a.hkX k x, hkNew := tblPut a.hkNew k true,
               bg := if code = 0x60 && ok then some x else a.bg,
               ts7 := if code = 0x57 && ok then some x else a.ts7 }

/-- A result of scan or injection: ADC_HK, the queue, the battery values, the hold test (07 R163, R171, R172; 13 R294, R306). -/
def State.hkResult (s : State) (code : Nat) (inj qen hold : Bool) (slice slot : Nat) (x y : Int) (ovr settle : Bool) : State :=
  let v := sat16 y
  let s0 := if v = y then s else s.setB R.ADC_STAT.CSAT true
  let s1 := s0.hkWrite code x v ovr settle
  let s2 := if inj || qen then s1.queueResult (queueWord ovr settle inj slice code v) (4 * slot) else s1
  let clean := !ovr && !settle
  let s3 := if code = 0x40 && clean then s2.vbUpdate x else s2
  let s4 := if code = 0x69 && clean then s3.vbatUpdate x else s3
  if hold && s4.pwr.htRun then s4.setS R.PWR_HOLD.V0 v else s4

/-- The flags of a conversion: SETTLE from an over-range before it on its slice, from the reference, or from a lost
correction (07 R165, R174, R175). -/
def State.convSettle (s : State) (c : Conv) (pc : Nat) : Bool :=
  s.adc.settle.contains (c.slice, c.slot) ||
    (match s.adc.refAt with
      | some t => decide (t ≤ 4 * c.slot) && decide (4 * (c.slot : Int) < t + 65536)
      | none => false) ||
    decide (2 ≤ s.adcEcc (256 + pc))

/-- The physical code of an owner; AGND for an idle conversion (07 R157, R161). -/
def State.ownerCode (s : State) : Owner → Nat
  | .frame i h => physCode (s.get (R.ADC_FRAME.CODE i)) h
  | .injected c _ => c
  | .scan c _ => c
  | .idle => 0x6B

/-- The conversion was over-range: flags, and two settling conversions of its slice (07 R165). -/
def State.overRange (s : State) (c : Conv) (pc : Nat) (x : Int) : State :=
  let s1 := ((s.setB R.ADC_STAT.OVR true).setI R.ADC_STAT.OVRS c.slice true).modAdc fun a =>
    { a with settle := a.settle ++ [(c.slice, c.slot + 12), (c.slice, c.slot + 24)] }
  match c.own with
  | .frame _ _ => s1.raise 0x0604 0 (le 1 pc ++ le 1 c.slice ++ le 2 (bitsN 16 x))
  | _ => s1

/-- The result of a conversion goes where its owner says; an idle one is discarded, but for its over-range. An entry of the frame table
that breaks R159 is an error of the host's own making: the value it delivers is free (07 R159, R162 to R165, R171, R172, R175;
00_scope.md R7; log 4). -/
def State.convResult (s : State) (c : Conv) (b : BitVec 18) (overload : Bool) : State :=
  let pc := s.ownerCode c.own
  let s1 := (s.eccUse (512 + c.slice) 2 c.slice).eccUse (256 + pc) 1 pc
  if s1.adcEcc (512 + c.slice) = 3 && s.adcEcc (512 + c.slice) = 2 then (s1.loseSlice c.slice).noConv c.own
  else if decide (2 ≤ s1.adcEcc (512 + c.slice)) then s1.noConv c.own
  else
    let (x, ovr) := sliceCorrect (tblGet (fun _ => {}) s1.adc.cals c.slice) b overload
    let settle := s1.convSettle c pc
    let s2 := s1.modAdc fun a => { a with settle := a.settle.filter fun e => e.1 != c.slice || decide (c.slot < e.2) }
    let s3 := if ovr then s2.overRange c pc x else s2
    let (y, sat) := chanCorrect (c.cor.getD (s3.corr pc)) x
    let s4 := if sat then s3.setB R.ADC_STAT.CSAT true else s3
    match c.own with
    | .frame i h =>
      let s5 := if s4.entryOk i then s4.frameResult i h c.slot y (ovr || settle)
        else s4.bump.frameResult i h c.slot (s32 (s4.freeWord (R.ADC_FRAME.at i))) (ovr || settle)
      let code := s4.get (R.ADC_FRAME.CODE i)
      if 0x28 ≤ code && code < 0x2C && !ovr && !settle && dstRuns (s4.dom (i / 48)).dst then s5.vbUpdate x else s5
    | .injected code org => s4.hkResult code true false (org == 1) c.slice c.slot x y ovr settle
    | .scan code q =>
      (s4.modAdc fun a => { a with scanOut := a.scanOut - 1 }).hkResult code false q false c.slice c.slot x y ovr settle
    | .idle => s3

/-- CONVERSION_RESULT: the result of the conversion in a slot is delivered (07 R164). -/
def execConversionResult (slot : Nat) (decisions : BitVec 18) (overload : Bool) (s : State) : Host.Outcome State Fault Refusal :=
  .next (match s.coreRuns, s.adc.convs.find? fun c => c.slot == slot with
    | true, some c =>
      ((s.modAdc fun a => { a with convs := a.convs.filter fun e => e.slot != slot }).convResult c decisions overload).settle
    | _, _ => s)

/-- The start calibration gives slice k its values or marks it (07 R166, R168). -/
def State.startCal (s : State) (k : Nat) (c : SliceCal) : State :=
  if calOk c then s.setCal k (calOf c) else s.badSlice k c.ofs.toInt c.gndev.toInt

/-- Slices put at positions in ascending order (07 R166). -/
def State.placeSlices (s : State) : Nat → List Nat → State
  | _, [] => s
  | p, k :: t => (s.setSliceAt p k).placeSlices (p + 1) t

/-- The states of an input of the thermal block that is broken at once: a die sensor with every neighbour broken (14_thermal.md R314,
R321). -/
def State.tsBroken (s : State) (i : Nat) : State :=
  [R.THM_TS.BRK i, R.THM_TS.SD i, R.THM_TS.THR i, R.THM_TS.WRN i].foldl (fun t f => t.setB f true) s

/-- FAIL breaks every die sensor and NTC at once, which makes each too hot; the events of its states (14 R314, R322). -/
def State.allBroken (s : State) : State :=
  let s1 := (((s.set R.THM_STAT.BRK 0x1FF).set R.THM_STAT.NBRK 0xF).set R.THM_STAT.NWARN 0xF).set R.THM_STAT.NTHR 0xF
  let s2 := (List.range 9).foldl State.tsBroken s1
  let ev := fun (u : State) (code sev v : Nat) => (List.range 13).foldl (fun t i => t.raise code sev (le 1 i ++ le 2 0 ++ le 1 v)) u
  ev (ev (ev s2 0x0B21 1 (modeCode s.sys.mode)) 0x0B22 1 (s.get R.THM_STAT.STEP)) 0x0B24 2 0

/-- The outcome of the start calibration, once every slice has its values or its mark (07 R166). -/
def State.startCalEnd (s1 : State) : State :=
  let bad := s1.get R.ADC_CALSTAT.BAD
  let good := (List.range 13).filter fun k => !bad.testBit k
  if good.length < 12 then
    (((s1.setB R.ADC_CALSTAT.FAIL true).set R.ADC_CALSTAT.SPARE 15).raise 0x0602 3 (le 1 good.length ++ le 2 bad)).allBroken
  else
    let s2 := (s1.placeSlices 0 (good.take 12)).setB R.ADC_CALSTAT.INIT true
    let s3 := s2.modAdc fun a => { a with startSlot := (s1.now / 48 + 1) * 12, spareOk := good.length == 13 }
    if good.length = 13 then s3.set R.ADC_CALSTAT.SPARE 12
    else (s3.set R.ADC_CALSTAT.SPARE 15).setB R.ADC_CALSTAT.NOSPARE true

/-- START_CALIBRATION_DONE: INIT, NOSPARE or FAIL; domains can start from now on (07 R166; 11 R257). -/
def execStartCalibrationDone (cal : List SliceCal) (s : State) : Host.Outcome State Fault Refusal :=
  .next (if s.coreRuns && s.tb.run && !s.bit R.ADC_CALSTAT.INIT && !s.bit R.ADC_CALSTAT.FAIL && decide (cal.length = 13) then
    ((((List.range 13).zip cal).foldl (fun t e => t.startCal e.1 e.2) s).startCalEnd).settle
  else s)

/-- SWAP_REQUEST: the swap interval has elapsed (07 R167, R169). -/
def execSwapRequest (s : State) : Host.Outcome State Fault Refusal :=
  .next (if s.rotates then s.swapAsk else s)

/-- NOW: a write of 1 to ADC_CALCTL.NOW requests a swap (07 R167). -/
def execNow (s : State) : Host.Outcome State Fault Refusal :=
  .next (if s.rotates then s.swapAsk else s)

/-- The swap takes effect: the spare takes its position, the displaced slice becomes the spare (07 R167, R169, R175). -/
def State.swapEffect (s : State) : State :=
  let spare := s.get R.ADC_CALSTAT.SPARE
  let pos := s.adc.lost.headD (s.get R.ADC_CALSTAT.NEXTPOS)
  let old := s.sliceAt pos
  let first := s.now / 4
  let s1 := (s.setSliceAt pos spare).setCal spare (s.adc.calNew.getD (tblGet (fun _ => {}) s.adc.cals spare))
  let s2 := s1.modAdc fun a =>
    { a with calNew := none, spareOk := false, lost := a.lost.drop 1,
             settle := a.settle.filter fun e => e.1 != old || decide (e.2 < first),
             convs := a.convs.map fun c => if c.slot % 12 = pos ∧ first ≤ c.slot then { c with slice := spare } else c }
  let s3 := s2.setB R.ADC_CALSTAT.ROTPEND false
  if !s.adc.lost.isEmpty then s3.noSpare old
  else (s3.set R.ADC_CALSTAT.SPARE old).set R.ADC_CALSTAT.NEXTPOS ((pos + 1) % 12)

/-- A swap may happen: rotation is enabled, or a position without a slice waits for the spare, whatever ROTEN says (07 R167, R175;
log 77). -/
def State.swapAllowed (s : State) : Bool := s.bit R.ADC_CALCTL.ROTEN || !s.adc.lost.isEmpty

/-- SWAP_TAKES_EFFECT, from the boundary on, once every marked injection has its slot; with ROTEN = 0 the swap waits (07 R167, R169). -/
def execSwapTakesEffect (s : State) : Host.Outcome State Fault Refusal :=
  .next (if s.coreRuns && s.bit R.ADC_CALSTAT.ROTPEND && !(s.adc.inj.any fun q => q.marked && q.slot.isNone) && decide (s.adc.swapAt ≤ s.now) &&
    s.swapAllowed then s.swapEffect else s)

/-- SLICE_CALIBRATION_DONE: the displaced slice becomes the calibrated spare, or is marked BAD and rotation stops
(07 R167, R168). -/
def execSliceCalibrationDone (cal : SliceCal) (s : State) : Host.Outcome State Fault Refusal :=
  .next (
    let k := s.get R.ADC_CALSTAT.SPARE
    if s.coreRuns && s.bit R.ADC_CALSTAT.INIT && !s.bit R.ADC_CALSTAT.NOSPARE && !s.adc.spareOk then
      if calOk cal then
        let s1 := s.modAdc fun a => { a with calNew := some (calOf cal), spareOk := true }
        if s.adc.swapWait && s.swapAllowed then s1.swapRegister else s1
      else (s.badSlice k cal.ofs.toInt cal.gndev.toInt).noSpare k
    else s)

/-- The entries of a scan cycle: those with EN = 1, in ascending index. A code that the scan does not know is an error of the host's
own making: any code may be converted (07 R157, R170; 00_scope.md R7; log 4). -/
def State.scanList (s : State) : List (Nat × Bool) :=
  ((List.range 32).filter fun i => s.bit (R.ADC_SCAN.EN i)).map fun i =>
    let c := s.get (R.ADC_SCAN.CODE i)
    (if scanCode c then c else anyScanCode (s.freeWord (R.ADC_SCAN.at i)).toNat, s.bit (R.ADC_SCAN.QEN i))

/-- A scan cycle runs: a conversion of it is still to be made or its result still to come (07 R170). -/
def State.scanRuns (s : State) : Bool := !s.adc.scanLeft.isEmpty || s.adc.scanOut != 0

/-- A scan entry in use names a code that the scan does not know (07 R157). -/
def State.scanBad (s : State) : Bool := (List.range 32).any fun i => s.bit (R.ADC_SCAN.EN i) && !scanCode (s.get (R.ADC_SCAN.CODE i))

/-- SCAN_CYCLE_START: a cycle falls due or a late one starts (07 R170). -/
def execScanCycleStart (s : State) : Host.Outcome State Fault Refusal :=
  if !s.coreRuns || !s.bit R.ADC_CALSTAT.INIT then .next s
  else if s.scanRuns then .next (s.modAdc fun a => { a with scanPend := true })
  else
    let s0 := if s.scanBad then s.bump else s
    let s1 := s0.modAdc fun a => { a with scanLeft := s.scanList, scanPend := false }
    .next (if s.adc.scanPend then
      (s1.setB R.ADC_STAT.SCANLATE true).raise 0x0606 0 (le 1 (s.get R.ADC_SCANCTL.SPER) ++ le 3 s.now)
    else s1)

/-- ADC_INJ: a write queues an injected conversion or is refused (07 R157, R173). -/
def execAdcInj (code : BitVec 8) (s : State) : Host.Outcome State Fault Refusal :=
  .next (if s.coreRuns then s.injAct code.toNat else s)

/-- ADC_QDATA read by the reader that latch m belongs to: the oldest entry is removed and its slot start latched for it (07 R172). -/
def State.qRead (s : State) (m : Nat) : State × Word :=
  match s.adc.queue with
  | [] => (s, 0)
  | (w, t) :: q =>
    (s.modAdc fun a => { a with queue := q, qts := tblSet (fun _ => 0) a.qts m (BitVec.ofNat 32 t) }, w)

/-- ADC_QDATA_READ (07 R172). -/
def execAdcQdataRead (latch : Fin 82) (s : State) : Host.Outcome State Fault Refusal :=
  .next (if s.coreRuns then (s.qRead latch).1 else s)

/-- The reference takes effect at the next cycle boundary: settling, every comparator held asserted (07 R174; 08 R181). -/
def State.refChange (s : State) : State :=
  ((s.setB R.ADC_REFCTL.SETTLING true).modAdc fun a => { a with refAt := some (((s.now / 48 + 1) * 48 : Nat) : Int), refNext := none }).allMonStart

/-- The RUN bits of the audio loops of all clusters, four bits each (07 R176). -/
def State.audioRuns (s : State) : Nat :=
  (List.range 4).foldl (fun w d => w + s.get (R.LFC_RUN.RUN d) % 16 * 16 ^ d) 0

/-- A write to ADC_REFCTL.SRC: refused while any loop runs; during the hold test the change waits for its end (07 R174; 13 R306). -/
def State.refWrite (s : State) (src : Nat) : State :=
  if (List.range 4).any fun d => s.get (R.LFC_RUN.RUN d) != 0 then
    (s.setB R.ADC_STAT.REFREJ true).raise 0x0608 1 (le 1 src ++ le 2 s.audioRuns)
  else
    let s1 := s.set R.ADC_REFCTL.SRC src
    if s.pwr.htRun then s1.modAdc fun a => { a with refNext := some src } else s1.refChange

/-- REFERENCE_SELECT (07 R174). -/
def execReferenceSelect (src : BitVec 2) (s : State) : Host.Outcome State Fault Refusal :=
  .next (if s.coreRuns then (s.refWrite src.toNat).settle else s)

/-- REFERENCE_SETTLED: SETTLING clears and every comparator starts (07 R174; 08 R181). -/
def execReferenceSettled (s : State) : Host.Outcome State Fault Refusal :=
  .next (if s.coreRuns && s.bit R.ADC_REFCTL.SETTLING then (s.setB R.ADC_REFCTL.SETTLING false).allMonStart.settle else s)

/-- The domain that owns a physical code; none for the device's own (07 R157, R177). -/
def codeDom (c : Nat) : Option Nat :=
  if c < 0x10 then some (c / 4)
  else if c < 0x20 then some ((c - 0x10) / 4)
  else if 0x44 ≤ c ∧ c < 0x50 then some (c % 4)
  else none

/-- A correction exists for a code (07 R177). -/
def corrCode (c : Nat) : Bool := decide (c < 0x20) || (0x40 ≤ c && c ≤ 0x6B)

/-- The addresses of ADC_CORRM and ADC_CORRS of a code (07 R177). -/
def corrAddr (c : Nat) : Nat × Nat :=
  if c < 0x40 then (R.ADC_CORRM.at c, R.ADC_CORRS.at c) else (R.ADC_CORRMB.at (c - 0x40), R.ADC_CORRSB.at (c - 0x40))

/-- A mantissa is committed with a shift and an offset. A conversion of the code that has started keeps the correction it has: the new
one takes effect with the next (07 R177). -/
def State.corrPut (s : State) (c : Nat) (m w : Word) : State :=
  let old := s.corr c
  ((s.setReg (corrAddr c).1 m).plainWrite (corrAddr c).2 w).modAdc fun a =>
    { a with ecc := tblErase a.ecc (256 + c)
             convs := a.convs.map fun k =>
               if s.ownerCode k.own = c ∧ 4 * k.slot ≤ s.now ∧ k.cor = none then { k with cor := some old } else k }

/-- A write to ADC_CORRS: the held mantissa is committed. The entry of a code of a running domain is an error of the host's own making,
and free words are committed (07 R177; 00_scope.md R7; log 4). -/
def State.corrCommit (s : State) (c : Nat) (w : Word) : State :=
  if (codeDom c).any fun d => dstRuns (s.dom d).dst then
    s.bump.corrPut c (s.freeWord (corrAddr c).1) (s.freeWord (corrAddr c).2)
  else s.corrPut c s.adc.corrHold w

/-- ADC_CORRS_COMMIT (07 R177). -/
def execAdcCorrsCommit (code : BitVec 8) (word : Word) (s : State) : Host.Outcome State Fault Refusal :=
  .next (if s.coreRuns && corrCode code.toNat then s.corrCommit code.toNat word else s)

end Sys2Proof.Machine
end

