-- ==== Sys2Proof/Machine/Power.lean ====
section
/-! DEFINITION. The commands of the supplies, the always-on island and the resets
(13_supply_events.md R287 to R306; 11_modes.md R248, R251; 06_edges_and_phases.md R151). -/

namespace Sys2Proof.Machine

/-- VBAT_POWER_ON: OFF passes to STANDBY and the island sets POR with a clear of every other field (13 R287; 11 R248, R262). -/
def execVbatPowerOn (s : State) : Host.Outcome State Fault Refusal :=
  .next (if s.pwr.vbat then s
  else
    let s1 := (s.setReg R.SYS_RSTCAUSE.at 1).modPwr fun p => { p with vbat := true }
    (s1.modTb fun t => { t with trimIdx := 13 }).modSys fun x => { x with mode := .standby })

/-- VBAT_POWER_LOSS: the device enters OFF; the always-on island and the memories lose what they hold (13 R287; log 11). -/
def execVbatPowerLoss (s : State) : Host.Outcome State Fault Refusal :=
  .next (if s.pwr.vbat then
    let s1 := s.coreClear
    { s1 with
      regs := s1.regs.filter fun e => e.1 == R.FLS_STAT.at
      mem := []
      eng := {}
      tb := {}
      sys := {}
      pwr := { s1.pwr with vbat := false, vauxEn := false, wakeBall := false, sleepLow := false, supplyHeld := false,
                           saCnt := 0, saLock := false } }
  else s)

/-- The device enters WAKE: VAUX_EN high, WAKEUP (11 R248, R262; 13 R289). -/
def State.enterWake (s : State) : State :=
  ((s.setB R.SYS_RSTCAUSE.WAKEUP true).modPwr fun p => { p with vauxEn := true }).modSys fun x => { x with mode := .wake }

/-- WAKE_REQUEST: the WAKE ball, or CAN_RX, has held for 32 AON periods (11 R248, R250; 13 R289). -/
def execWakeRequest (src : WakeSource) (s : State) : Host.Outcome State Fault Refusal :=
  .next (if !s.pwr.vbat then s
  else
    let s1 := match src with
      | .wakeBall => s.modPwr fun p => { p with wakeBall := true }
      | .canRx => s
    if s1.sys.mode = .standby && !s1.sys.wakeCycle && !s1.pwr.nrstHeld then s1.enterWake else s1)

/-- WAKE_REQUEST_END: the filtered WAKE input falls. A WAKE cycle that HOLD calls for begins: the device passes to STANDBY
(13 R289; 11 R248, R250). -/
def execWakeRequestEnd (s : State) : Host.Outcome State Fault Refusal :=
  .next (
    let s1 := (s.modPwr fun p => { p with wakeBall := false }).modSys fun x => { x with wakeCycle := false }
    if s.sys.mode = .hold && (s.sys.noImage || s.sys.deadHold) && !s.pwr.supplyHeld then s1.toStandby else s1)

/-- The supplies are good together: VAUX, the four rails and PGOOD_X (13 R291). -/
def State.suppliesGood (s : State) : Bool := s.pwr.vauxEn && s.pwr.vauxGood && s.pwr.rails == 15 && s.pwr.pgx

/-- A start is counted: STARTS, and the first SEQ of the start (15 R339; 16 R361). -/
def State.countStart (s : State) : State :=
  s.modFls fun f => { f with cnt := { f.cnt with starts := satN 0xFFFFFFFF (f.cnt.starts + 1) }, startSeq := f.cnt.nextSeq,
                             scanStart := false }

/-- CORE_RESET_RELEASE: the core reset is released, Drip starts, PLL A is enabled, the comparators start asserted
(13 R291; 02 R30; 15 R323; 08 R181). -/
def execCoreResetRelease (s : State) : Host.Outcome State Fault Refusal :=
  .next (if s.sys.mode = .wake && s.suppliesGood && !s.pwr.supplyHeld && !s.pwr.nrstHeld && !s.pwr.coreUp then
    let s1 := ((s.modPwr fun p => { p with coreUp := true }).setB R.CLK_STAT.XOK true).modFls fun f =>
      { f with dripOn := true, dripSub := 0 }
    let s2 := (s1.setB R.DSU_STAT.LOCK (s.pwr.saLock && decide (3 ≤ s.pwr.saCnt))).modPwr fun p => { p with saLock := false }
    if s.bit R.FLS_STAT.READY then s2.countStart else s2.modFls fun f => { f with scanStart := true }
  else s)

/-- The code of a ball in the resistor check (06 R151). -/
def resistorCode (up down : Bool) : Nat :=
  match up, down with
  | false, false => 0 | true, true => 1 | true, false => 2 | false, true => 3

/-- The codes of domain d stored: ball 17 d + g, gates in PWM_SCHK, nDRVEN in DCODE (06 R151, R153). -/
def State.storeCodes (s : State) (up down : BitVec 68) (d : Nat) : State :=
  let code := fun g => resistorCode (up.getLsbD (17 * d + g)) (down.getLsbD (17 * d + g))
  let w := (List.range 16).foldl (fun w g => w + code g * 4 ^ g) 0
  ((s.set (R.PWM_SCHK.CODE d) w).set (R.PWM_SCHKD.DCODE d) (code 16)).setB (R.PWM_SCHKD.DONE d) true

/-- RESISTOR_CHECK_DONE: the codes of all 68 balls are stored, DONE is set, which can complete WAKE (06 R151; 11 R248). -/
def execResistorCheckDone (up down : BitVec 68) (s : State) : Host.Outcome State Fault Refusal :=
  .next (if s.sys.mode = .wake && s.pwr.coreUp && !s.pwr.supplyHeld then
    ((List.range 4).foldl (fun t d => t.storeCodes up down d) s).wakeToLoad
  else s)

/-- WAKE_TIMEOUT: the 20 ms WAKE limit expires; STANDBY with WAKEF (11 R248). -/
def execWakeTimeout (s : State) : Host.Outcome State Fault Refusal :=
  .next (if s.sys.mode = .wake && !s.pwr.nrstHeld && !s.pwr.supplyHeld then (s.setB R.SYS_RSTCAUSE.WAKEF true).toStandby else s)

/-- NRESET_ASSERT: the device resets and stays in reset while nRESET is low (11 R251). -/
def execNresetAssert (s : State) : Host.Outcome State Fault Refusal :=
  .next (
    let s1 := s.modPwr fun p => { p with nrstHeld := true }
    if s.fromWake && !s.pwr.supplyHeld then s1.coreReset R.SYS_RSTCAUSE.NRST else s1)

/-- NRESET_RELEASE: the restart in WAKE or STANDBY begins: VAUX_EN leaves its In-reset state; a WAKE ball that has been high in STANDBY
meanwhile wakes the device (11 R248, R251). -/
def execNresetRelease (s : State) : Host.Outcome State Fault Refusal :=
  .next (
    let s1 := s.modPwr fun p => { p with nrstHeld := false }
    if !s.pwr.nrstHeld then s1
    else if s.sys.mode = .wake then s1.modPwr fun p => { p with vauxEn := true }
    else if s.sys.mode = .standby && s.pwr.wakeBall && !s.sys.wakeCycle then s1.enterWake
    else s1)

/-- Whether VHOLD stands at 4.30 V while the charger raises it: once it does, it goes on doing so (13 R303). -/
def risingVhold (b : Option Bool) : Option Bool := if b = some true then some true else none

/-- Whether VHOLD stands at 4.30 V while it falls from a VHOLD / 4 code, of which 816 is 4.30 V: once it does not, it goes on so
(13 R303, R306). -/
def fallingVhold (code : Int) : Option Bool := if code < 816 then some false else none

/-- VAUX_GOOD: the write inhibit ends, the charger closes, the start scan of Flowstone begins (13 R299, R300, R303; 15 R341).
A supply fault keeps its inhibit (13 R300). -/
def execVauxGood (s : State) : Host.Outcome State Fault Refusal :=
  .next (if s.pwr.vbat && !s.pwr.vauxGood then
    let s1 := s.modPwr fun p =>
      { p with vauxGood := true, inh := p.supplyHeld, pfd := false, charger := true, vholdSrc := false, holdRdy := risingVhold p.holdRdy }
    (s1.setB R.FLS_STAT.READY false).modFls fun f => { f with scanPend := true }
  else s)

/-- The write inhibit begins: INH, INHSEEN, event 0x0B04 (13 R300, R308). -/
def State.inhibit (s : State) (vhold : Int) : State :=
  if s.pwr.inh then s
  else
    let s1 := s.modPwr fun p => { p with inh := true }
    let s2 := if s.pwr.coreUp then s1.setB R.PWR_STAT.INHSEEN true else s1
    s2.raise 0x0B04 1 (le 1 (modeCode s.sys.mode) ++ le 2 (bitsN 16 vhold) ++ le 4 s.now)

/-- WRITE_INHIBIT: VAUX has been below 4.40 V; VHOLD is isolated (13 R299, R300, R303). The operand is the VHOLD / 4 code. -/
def execWriteInhibit (vhold : BitVec 16) (s : State) : Host.Outcome State Fault Refusal :=
  .next (if s.pwr.vauxGood then
    (s.modPwr fun p => { p with vauxGood := false, charger := false, holdRdy := fallingVhold vhold.toInt }).inhibit vhold.toInt
  else s)

/-- The cause that PWR_LASTF takes at PFD (13 R302). -/
def State.pfdCause (s : State) : Nat := if s.pwr.supplyHeld then 2 else if s.pwr.sleepLow then 3 else 1

/-- The power-loss record 0x0B07 (13 R302, R308). -/
def State.powerLossRec (s : State) (vhold : Int) : FRec :=
  { ts := BitVec.ofNat 48 s.now, code := 0x0B07, sev := 3, src := BitVec.ofNat 6 (evtSource 0x0B07), tally := true, pl := true,
    data := data12 (le 1 s.pfdCause ++ le 1 (modeCode s.sys.mode) ++ le 1 s.fls.stage.length ++ le 2 (s.get R.PWR_VBAT.VB) ++
      le 2 (s.get R.PWR_VBAT.VBAT) ++ le 2 (bitsN 16 vhold)) }

/-- Staged records committed in queue order, n at most (13 R302). -/
def State.commitN : Nat → State → State
  | 0, s => s
  | n + 1, s => State.commitN n (s.commitOldest .good true)

/-- The last-heat record of a shut-down (14_thermal.md R318, R322). -/
def heatRec (h : Heat) : FRec :=
  { ts := BitVec.ofNat 48 h.at_, code := 0x0B23, sev := 3, src := BitVec.ofNat 6 (evtSource 0x0B23), tally := true,
    data := data12 (le 1 h.cause ++ le 1 h.input ++ le 2 (bitsN 16 h.q) ++ le 2 (bitsN 16 h.max) ++ le 2 h.brk ++ le 1 h.win ++ le 1 h.mode) }

/-- The oldest last-heat records that wait are committed, n at most (14 R318). -/
def State.commitHeat : Nat → State → State
  | 0, s => s
  | n + 1, s =>
    match s.fls.heat with
    | [] => s
    | h :: t => State.commitHeat n ((s.tallyWrite 16 (heatRec h)).modFls fun f => { f with heat := t })

/-- The records that VHOLD lets begin: of those that an operand names none below 2.80 V at PFD, and from 2.83 V on one at least
(13 R301, R304; the code of VHOLD / 4 is (V - 4.096) / 0.25 mV). -/
def pfdFit (vhold : Int) (fit : Nat) : Nat := if vhold < -5184 then 0 else if vhold < -5064 then fit else max fit 1

/-- What the hold island writes at PFD, as far as VHOLD lets it: the power-loss record, a waiting last-heat record, the staged records,
the counts in PWR_LASTF while the always-on island is powered (13 R287, R301, R302; 14 R318). -/
def State.pfdCommit (s : State) (vhold : Int) (fit : Nat) : State :=
  let n := s.fls.stage.length
  let q := s.fls.cnt.nextSeq
  let k0 := pfdFit vhold fit
  let h := s.fls.heat.length
  let s1 := State.commitHeat (k0 - 1) (if k0 = 0 then s else s.tallyWrite 0 (s.powerLossRec vhold))
  let s2 := if s.bit R.FLS_STAT.READY then State.commitN (min (k0 - 1 - h) n) s1 else s1
  let k := (s2.fls.cnt.nextSeq - q).toNat
  if s.pwr.vbat then ((s2.set R.PWR_LASTF.NCOMMIT k).set R.PWR_LASTF.NDROP (n - k)).set R.PWR_LASTF.CAUSE s.pfdCause else s2

/-- Nothing that registers after PFD is recorded: staging queue, counts and status of the recorder stay as in s (13 R302). -/
def State.unrecorded (s t : State) : State :=
  (t.modFls fun f => { f with stage := s.fls.stage, cnt := s.fls.cnt }).setReg R.FLS_STAT.at (s.reg R.FLS_STAT.at)

/-- POWER_FAIL_DETECT: VAUX below 4.00 V. The balls are released, the core resets, the state is latched and committed.
The operands are the VHOLD / 4 code and how many records VHOLD lets begin (13 R299, R301, R302; 11 R251). -/
def execPowerFailDetect (vhold : BitVec 16) (fit : Nat) (s : State) : Host.Outcome State Fault Refusal :=
  .next (if s.pwr.pfd then s
  else
    let s1 := s.pfdCommit vhold.toInt fit
    let s2 := s1.modPwr fun p => { p with pfd := true, vauxGood := false, inh := true, charger := false, vholdSrc := true,
                                          supplyHeld := false, holdRdy := fallingVhold vhold.toInt }
    if s.fromWake then s2.unrecorded (s2.coreReset R.SYS_RSTCAUSE.VAUXL) else s2)

/-- Rails, and in bit 4 PGOOD_X, that fail (13 R292). -/
def State.railsFail (s : State) (mask : BitVec 5) : State :=
  s.modPwr fun p => { p with rails := p.rails &&& ~~~ (mask.setWidth 4), pgx := p.pgx && !mask.getLsbD 4 }

/-- SUPPLY_FAULT: a rail or PGOOD_X fails. After the core reset release that is a supply fault, and the write inhibit begins with its
event; in reset it only counts as failed. The operands are FMASK of PWR_LASTF and the VHOLD / 4 code (13 R292, R293, R300; log 51). -/
def execSupplyFault (mask : BitVec 5) (vhold : BitVec 16) (s : State) : Host.Outcome State Fault Refusal :=
  .next (if s.pwr.coreUp && !s.pwr.supplyHeld && mask != 0 then
    let s0 := s.inhibit vhold.toInt
    let s1 := s0.raise 0x0B05 3 (le 1 mask.toNat ++ le 2 (s.get R.PWR_VBAT.VB) ++ le 4 s.now)
    let s2 := (s1.set R.PWR_LASTF.CAUSE 2).set R.PWR_LASTF.FMASK mask.toNat
    let s3 := s2.modPwr fun p =>
      { p with supplyHeld := true, vauxEn := false, inh := true, sink := false }
    (s3.railsFail mask).refreshBalls
  else s.railsFail mask)

/-- RAIL_RECOVERY: a rail counts as good again, or, of number 4, PGOOD_X is high again (13 R291, R292). -/
def execRailRecovery (rail : Fin 5) (s : State) : Host.Outcome State Fault Refusal :=
  .next (s.modPwr fun p =>
    if rail.val = 4 then { p with pgx := true } else { p with rails := p.rails ||| (1#4 <<< rail.val) })

/-- VAUX_EN falls for sleep: PWR_LASTF, event 0x0B08 (13 R289, R302, R308). -/
def State.sleepNow (s : State) (by_ : Nat) : State :=
  let s1 := (s.set R.PWR_LASTF.CAUSE 3).modPwr fun p => { p with sleepLow := true, vauxEn := false }
  s1.raise 0x0B08 0 (le 1 by_ ++ le 1 (s.get R.PWR_CFG.SLPDLY) ++ le 4 s.now)

/-- SLEEP_DELAY_EXPIRE: no wake request for SLPDLY seconds, in LOAD or a later mode (13 R289). -/
def execSleepDelayExpire (s : State) : Host.Outcome State Fault Refusal :=
  .next (if s.pwr.coreUp && !s.pwr.supplyHeld && s.fromWake && s.sys.mode != .wake && s.pwr.vauxEn && !s.wakeReq &&
      s.get R.PWR_CFG.SLPDLY != 0 then s.sleepNow 0 else s)

/-- SLEEP: PWR_CTL.SLEEP written with 1 while no wake request is in force (13 R289). -/
def State.sleepWrite (s : State) : State :=
  if s.pwr.coreUp && !s.pwr.supplyHeld && s.pwr.vauxEn && !s.wakeReq then s.sleepNow 1 else s

def execSleep (s : State) : Host.Outcome State Fault Refusal := .next s.sleepWrite

/-- KEEP: the register-held wake request (13 R289). -/
def execKeep (on : Bool) (s : State) : Host.Outcome State Fault Refusal :=
  .next (if s.pwr.coreUp && !s.pwr.supplyHeld then s.setB R.PWR_CTL.KEEP on else s)

/-- HOLD_TEST_START: in LOAD or SELFTEST with INIT and HOLDRDY; the charger opens, the sink is applied, code 0x68 is injected
(13 R306). That the command comes says that VHOLD has reached 4.30 V; with the charger open, nothing tells whether it stays there. -/
def execHoldTestStart (s : State) : Host.Outcome State Fault Refusal :=
  .next (if (s.sys.mode = .load || s.sys.mode = .selftest) && s.bit R.ADC_CALSTAT.INIT && s.pwr.vauxGood && !s.pwr.htRun &&
      !s.bit R.PWR_STAT.HTDONE && !s.pwr.htOver && s.pwr.holdRdy != some false && !s.pwr.supplyHeld then
    (s.modPwr fun p => { p with htRun := true, holdRdy := none, charger := false, sink := true }).inject 0x68 1
  else s)

/-- HOLDLOW is set with its event (13 R306, R308). -/
def State.holdLow (s : State) : State :=
  (s.setB R.PWR_STAT.HOLDLOW true).raise 0x0B06 1 (le 1 0 ++ le 2 (s.get R.PWR_HOLD.V0) ++ le 2 (s.get R.PWR_HOLD.DROOP))

/-- HOLD_TEST_END: the second conversion, V0 and DROOP, HOLDLOW; a reference change that waited takes effect (13 R306). -/
def execHoldTestEnd (code : BitVec 16) (s : State) : Host.Outcome State Fault Refusal :=
  .next (if s.pwr.htRun && !s.pwr.supplyHeld then
    let v0 := s.getS R.PWR_HOLD.V0
    let droop := v0 - code.toInt
    let s1 := (s.inject 0x68 0).modPwr fun p => { p with htRun := false, charger := p.vauxGood, sink := false,
                                                                 holdRdy := if 816 ≤ code.toInt then some true else none }
    let s2 := (s1.setS R.PWR_HOLD.DROOP droop).setB R.PWR_STAT.HTDONE true
    let s3 := if v0 < 816 ∨ 1064 < droop then s2.holdLow else s2
    if s3.adc.refNext.isSome then s3.refChange else s3
  else s)

/-- HOLD_TEST_TIMEOUT: HOLDRDY not set within 10 ms of VAUX good; the test does not run (13 R306). -/
def execHoldTestTimeout (s : State) : Host.Outcome State Fault Refusal :=
  .next (if s.pwr.coreUp && s.pwr.holdRdy != some true && !s.pwr.htRun && !s.pwr.htOver && !s.bit R.PWR_STAT.HTDONE &&
      !s.pwr.supplyHeld then
    ((s.modPwr fun p => { p with htOver := true }).set R.PWR_HOLD.DROOP 0xFFFF).holdLow
  else s)

/-- HOLD_ISLAND_LOST: VAUX below 4.00 V and VHOLD below 2.70 V; the hold island loses the staging queue, the mirror and
READY. The FeRAM keeps its contents (13 R301; 15 R341). -/
def execHoldIslandLost (s : State) : Host.Outcome State Fault Refusal :=
  .next (if s.pwr.pfd then
    (s.modFls fun f => { f with stage := [], mirror := [], heat := [], cnt := (newestCopy f.cntA f.cntB).getD f.cnt }).setReg R.FLS_STAT.at (resetWord R.FLS_STAT.at)
  else s)

end Sys2Proof.Machine
end

