-- ==== Sys2Proof/Machine/ModeCmd.lean ====
section
/-! DEFINITION. The commands of the device mode and of the domain states (11_modes.md R249 to R259; 06_edges_and_phases.md R150). -/

namespace Sys2Proof.Machine

/-- DERATE_EXIT: 1.000 s after the last DERATE condition ended (11 R249). -/
def execDerateExit (s : State) : Host.Outcome State Fault Refusal :=
  .next (if s.coreRuns && s.sys.derateHeld && !s.derateCond then (s.modSys fun x => { x with derateHeld := false }).settle else s)

/-- ENSEMBLE_WAIT_TIMEOUT: device PRECHARGE goes on without the ensemble; event 0x0106 (11 R257, R263). -/
def execEnsembleWaitTimeout (s : State) : Host.Outcome State Fault Refusal :=
  .next (if s.coreRuns && (s.sys.mode = .precharge || s.sys.mode = .crank) && !s.sys.past && !s.startBegun && !s.sys.ensWaitOver then
    let w := (s.reg R.ENS_STAT.at).toNat
    ((s.modSys fun x => { x with ensWaitOver := true }).raise 0x0106 1 (le 1 (s.get R.ENS_STAT.STATE) ++ le 3 w)).settle
  else s)

/-- DRIVER_ENABLE: nDRVEN of a domain in PRECHARGE is driven low (06 R150). -/
def execDriverEnable (d : Fin 4) (s : State) : Host.Outcome State Fault Refusal :=
  .next (if s.coreRuns ∧ (s.dom d).dst = .precharge then (s.modDom d fun x => { x with drvOn := true }).refreshBalls else s)

/-- DRIVER_WAKE: the outer loops and the loops of the active phases start, the gates may leave their safe levels, the masking
of nFLT ends (11 R254; 06 R150; 08 R184). -/
def execDriverWake (d : Fin 4) (s : State) : Host.Outcome State Fault Refusal :=
  .next (if s.coreRuns ∧ (s.dom d).dst = .precharge ∧ ¬ (s.dom d).awake then
    ((s.modDom d fun x => { x with awake := true }).setRun d (0xF0 + 256 * s.get (R.PWM_PHASES.ACT d))).settle
  else s)

/-- PRECHARGE_TIMEOUT: rail-good has not held in time; FAULTED with cause 0b100 and event 0x0104 (11 R254, R263). -/
def execPrechargeTimeout (d : Fin 4) (s : State) : Host.Outcome State Fault Refusal :=
  .next (if s.coreRuns ∧ (s.dom d).dst = .precharge ∧ ¬ (s.dom d).railGood then
    ((s.raise 0x0104 2 (le 1 d.val ++ le 4 (bitsN 32 (s.prf d).p))).enterFaulted d 4 (s.faultReq d).2).settle
  else s)

/-- MUTE_RAMP_END: the up-ramp ends at 32 768 and the domain enters ACTIVE, or the down-ramp reaches 0 (11 R253, R255). -/
def execMuteRampEnd (d : Fin 4) (s : State) : Host.Outcome State Fault Refusal :=
  .next (
    let x := s.dom d
    if !s.coreRuns || !x.rampOn then s
    else if x.rampDown then (s.modDom d fun y => { y with gm := 0, rampOn := false }).settle
    else
      let s1 := s.modDom d fun y => { y with gm := 32768, rampOn := false }
      match x.dst with
      | .precharge | .muted => (s1.enterDst d .active).settle
      | _ => s1)

/-- NMUTE_CHANGE: nMUTE has been low, or high, for 1024 ticks (11 R255). -/
def execNmuteChange (low : Bool) (s : State) : Host.Outcome State Fault Refusal :=
  .next (if s.coreRuns then (s.modSys fun x => { x with nmuteLow := low }).settle else s)

/-- FAULTED_DWELL_END: from now on a repair mark leads to RELOAD, or the repair is refused at REPMAX (11 R259, R263). -/
def execFaultedDwellEnd (d : Fin 4) (s : State) : Host.Outcome State Fault Refusal :=
  .next (if s.coreRuns ∧ (s.dom d).dst = .faulted then (s.modDom d fun x => { x with dwellOver := true }).settle else s)

/-- REPAIR_COUNT_CLEAR: 10 s of continuous ACTIVE (11 R259). -/
def execRepairCountClear (d : Fin 4) (s : State) : Host.Outcome State Fault Refusal :=
  .next (if s.coreRuns ∧ (s.dom d).dst = .active then s.setRpcnt d 0 else s)

/-- OFF_RELEASE: 1024 ticks after the entry to OFF the balls are released to high impedance (06 R150). -/
def execOffRelease (d : Fin 4) (s : State) : Host.Outcome State Fault Refusal :=
  .next (if s.coreRuns ∧ (s.dom d).dst = .off then (s.modDom d fun x => { x with draining := false }).refreshBalls else s)

/-- A write to SYS_REQ takes effect: the requests are followed (11 R249, R250, R255, R258, R262). -/
def State.sysReq (s : State) (f : Fld) (v : Nat) : State := (s.set f v).settle

/-- SYS_REQ_HOLD (11 R250). -/
def execSysReqHold (on : Bool) (s : State) : Host.Outcome State Fault Refusal :=
  .next (if s.pwr.coreUp && !s.pwr.supplyHeld then s.sysReq R.SYS_REQ.HOLD (b2n on) else s)

/-- SYS_REQ_FIXED (11 R249). -/
def execSysReqFixed (on : Bool) (s : State) : Host.Outcome State Fault Refusal :=
  .next (if s.pwr.coreUp && !s.pwr.supplyHeld then s.sysReq R.SYS_REQ.FIXED (b2n on) else s)

/-- SYS_REQ_DERATE (11 R249). -/
def execSysReqDerate (on : Bool) (s : State) : Host.Outcome State Fault Refusal :=
  .next (if s.pwr.coreUp && !s.pwr.supplyHeld then s.sysReq R.SYS_REQ.DERATE (b2n on) else s)

/-- SYS_REQ_EMUTE (11 R256). -/
def execSysReqEmute (on : Bool) (s : State) : Host.Outcome State Fault Refusal :=
  .next (if s.pwr.coreUp && !s.pwr.supplyHeld then s.sysReq R.SYS_REQ.EMUTE (b2n on) else s)

/-- SYS_REQ_MUTE (11 R255). -/
def execSysReqMute (mask : BitVec 4) (s : State) : Host.Outcome State Fault Refusal :=
  .next (if s.pwr.coreUp && !s.pwr.supplyHeld then s.sysReq R.SYS_REQ.MUTE mask.toNat else s)

/-- SYS_REQ_FLT (11 R258). -/
def execSysReqFlt (flt repair : BitVec 4) (s : State) : Host.Outcome State Fault Refusal :=
  .next (if s.pwr.coreUp && !s.pwr.supplyHeld then
    (s.set R.SYS_REQ.FLTR repair.toNat).sysReq R.SYS_REQ.FLT flt.toNat
  else s)

end Sys2Proof.Machine
end

