-- ==== Sys2Proof/Machine/Monitors.lean ====
section
/-! DEFINITION. The commands of the window monitors, the driver-fault inputs, the latches and the self-test, and the one of
a ball whose dead time has passed (08_monitors_and_protection.md R182 to R195; 06_edges_and_phases.md R147). -/

namespace Sys2Proof.Machine

/-- Levels of a monitor's input, the earliest first; the sources follow after each (08 R182, R185, R190). -/
def State.monRun (s : State) (m : Nat) : List (Int × Bool) → State
  | [] => s
  | q :: t => (s.monInput m q.1 q.2).settle.monRun m t

/-- Samples of a driver-fault input, the earliest first; the sources follow after each (08 R183, R185, R190). -/
def State.nfltRun (s : State) (i : Nat) : List Bool → State
  | [] => s
  | b :: t => (s.filterStep (84 + i) false b).settle.nfltRun i t

/-- FILTERED_LEVEL_CHANGE: the input of a monitor takes levels, its comparators and filters follow, and the sources with them
(08 R178 to R182, R185). While the reference settles the comparators are held asserted; in a test the filtered levels keep their
values (07_feedback_converter.md R174; 08 R194). -/
def execFilteredLevelChange (m : Fin 42) (levels : List Int) (sampled : List Bool) (s : State) :
    Host.Outcome State Fault Refusal :=
  .next (if s.coreRuns && !s.bit R.ADC_REFCTL.SETTLING then s.filterBump (2 * m) (s.monRun m (levels.zip sampled)) else s)

/-- NFLT_LEVEL_CHANGE: filter samples of a driver-fault input arrive (08 R183, R185). -/
def execNfltLevelChange (i : Fin 8) (samples : List Bool) (s : State) : Host.Outcome State Fault Refusal :=
  .next (if s.coreRuns then s.filterBump (84 + i) (s.nfltRun i samples) else s)

/-- One latch bit written with 1: it clears if its condition is false; event 0x0705 (08 R190, R197). -/
def State.latchBit (s : State) (i src : Nat) (written : Bool) : State :=
  if written && s.srcLat i && !s.srcCond i then (s.setLat i false).raise 0x0705 0 (le 1 src ++ le 3 s.now) else s

/-- The latch bits of a register written (08 R190). -/
def State.latchWrite (s : State) (reg : LatchReg) (w : Word) : State :=
  match reg with
  | .mon m => (s.latchBit (2 * m + 1) m (w.getLsbD 5)).latchBit (2 * m) m (w.getLsbD 4)
  | .nfst => (List.range 8).foldl (fun t i => t.latchBit (84 + i) (0x40 + i) (w.getLsbD (16 + i))) s

/-- LATCH_CLEAR (08 R190). -/
def execLatchClear (reg : LatchReg) (word : Word) (s : State) : Host.Outcome State Fault Refusal :=
  .next (if s.coreRuns then (s.latchWrite reg word).settle else s)

/-- ASSERT_AFTER_DEADTIME: a ball that waited at its safe level takes its asserting level (06 R147). -/
def execAssertAfterDeadtime (d : Fin 4) (g : Fin 17) (s : State) : Host.Outcome State Fault Refusal :=
  .next (if s.coreRuns && (s.ball d g).hold then s.refreshBalls else s)

/-! ### Self-test -/

/-- The monitors that a test names (08 R194). -/
def testSel (msel : Nat) : List Nat := if msel = 0x3F then List.range 42 else [msel]

/-- A monitor can be tested now: its domain OFF or RELOAD, or the device in SELFTEST; the battery monitors only there (08 R194). -/
def State.testable (s : State) (m : Nat) : Bool :=
  s.sys.mode == .selftest ||
    match srcOwner (2 * m) with
    | some d => (s.dom d).dst == .off || (s.dom d).dst == .reload
    | none => false

/-- A monitor leaves its test: its comparators start (08 R181, R194). -/
def State.testLeave (s : State) (m : Nat) : State :=
  if s.bit (R.MON_ST.TST m) then (s.setB (R.MON_ST.TST m) false).monStart m else s

/-- A write to MON_TEST (08 R194, R196). -/
def State.testWrite (s : State) (w : Word) : State :=
  let md := fldOf w R.MON_TEST.MODE
  let ms := fldOf w R.MON_TEST.MSEL
  let s0 := if w.getLsbD 26 then s.setB R.MON_TEST.TREJ false else s
  if md = 0 then
    let s1 := ((s0.set R.MON_TEST.MODE 0).set R.MON_TEST.MSEL ms).set R.MON_TEST.DSEL (fldOf w R.MON_TEST.DSEL)
    ((List.range 42).foldl State.testLeave s1).modMon fun m => { m with testPend := false }
  else if (testSel ms).all s.testable then
    (((s0.set R.MON_TEST.MODE md).set R.MON_TEST.MSEL ms).set R.MON_TEST.DSEL (fldOf w R.MON_TEST.DSEL)).modMon fun m =>
      { m with testPend := true }
  else s0.setB R.MON_TEST.TREJ true

/-- MSEL and DSEL that name something; other values are an error of the host's own making (08 R196). -/
def testWordOk (w : Word) : Bool :=
  let ms := fldOf w R.MON_TEST.MSEL
  (decide (ms < 42) || ms == 0x3F) && decide (fldOf w R.MON_TEST.DSEL < 84)

/-- The word that stands in for such a write: any MSEL and DSEL (00_scope.md R7; log 4). -/
def testFix (w fw : Word) : Word :=
  let m := fldOf fw R.MON_TEST.MSEL % 43
  fldPut (fldPut w R.MON_TEST.MSEL (if m = 42 then 0x3F else m)) R.MON_TEST.DSEL (fldOf fw R.MON_TEST.DSEL % 84)

/-- A write to MON_TEST as it acts (08 R194, R196). -/
def State.testAct (s : State) (w : Word) : State := s.served (!testWordOk w) R.MON_TEST.at w (testFix w) State.testWrite

/-- MON_TEST_WRITE (08 R194). -/
def execMonTestWrite (word : Word) (s : State) : Host.Outcome State Fault Refusal :=
  .next (if s.coreRuns then (s.testAct word).settle else s)

/-- A monitor comes under test: TST, and the raw levels of the mode (08 R194). -/
def State.testEnter (s : State) (m : Nat) : State := (s.setB (R.MON_ST.TST m) true).testDrive m

/-- TEST_MODE_EFFECT: the test mode takes effect at the monitors named; the others leave theirs (08 R194). -/
def execTestModeEffect (s : State) : Host.Outcome State Fault Refusal :=
  .next (if s.coreRuns && s.mon.testPend then
    let sel := testSel (s.get R.MON_TEST.MSEL)
    let s1 := ((List.range 42).filter fun m => !sel.contains m).foldl State.testLeave s
    let s2 := sel.foldl State.testEnter s1
    (s2.modMon fun m => { m with testPend := false }).settle
  else s)

/-- The raw levels of all comparators, HI in the upper 42 bits (08 R195). -/
def State.rawLevels (s : State) : BitVec 84 :=
  (List.range 42).foldl (fun w m =>
    w ||| BitVec.ofNat 84 (b2n (s.bit (R.MON_ST.RHI m)) * 2 ^ (42 + m) + b2n (s.bit (R.MON_ST.RLO m)) * 2 ^ m)) 0

/-- The automatic test begins: the normal levels are recorded, every monitor is under test (08 R195). -/
def State.autoBegin (s : State) : State :=
  let s1 := (((s.setB R.MON_TEST.BUSY true).setB R.MON_TEST.DONE false).setB R.MON_TEST.FAIL false).modMon fun m =>
    { m with autoStep := 1, autoBase := s.rawLevels, autoDac := 0, autoRep := 0, autoBad := [] }
  (List.range 42).foldl State.testEnter s1

/-- A monitor fails a step; the first failure is kept with its readback code (08 R195, R197). -/
def State.autoFail (s : State) (m step code : Nat) : State :=
  s.modMon fun x => { x with autoBad := if x.autoBad.any (fun e => e.1 == m) then x.autoBad else tblPut x.autoBad m (step * 65536 + code) }

/-- The levels that monitor m must show in test mode k: HI and LO (08 R194). -/
def State.expectLevels (s : State) (k m : Nat) : Bool × Bool :=
  if k = 1 then (!s.mon.autoBase.getLsbD (42 + m), !s.mon.autoBase.getLsbD m)
  else if k = 2 then (true, false) else (false, true)

/-- The DAC code that a readback must show (08 R195). -/
def State.expectDac (s : State) (k : Nat) : Int :=
  ((if k % 2 = 0 then s.get (R.MON_THR.THI (k / 2)) else s.get (R.MON_THR.TLO (k / 2)) : Int) - 512) * 64

/-- The next DAC is read back through an injected conversion (08 R195). -/
def State.autoNextDac (s : State) : State :=
  let n := s.mon.autoDac + 1
  let s1 := s.modMon fun m => { m with autoDac := n, autoRep := 0 }
  if n < 84 then (s1.set R.MON_TEST.DSEL n).inject 0x6A 2 else s1

/-- The modes of the automatic test have ended: every comparator starts, and the readbacks begin (08 R181, R194, R195; log 31). -/
def State.autoReadbacks (s : State) : State :=
  let s1 := (List.range 42).foldl (fun t m => (t.setB (R.MON_ST.TST m) false).monStart m) s
  (s1.set R.MON_TEST.DSEL 0).inject 0x6A 2

/-- AUTO_SELFTEST_STEP: a mode's levels, or a readback, are compared (08 R195). The failed step is told by its number in R195:
2 for the levels of a mode, 3 for a readback, 4 for a readback that carries a flag after the last repeat (log 30). -/
def execAutoSelftestStep (obs : SelfTestObs) (s : State) : Host.Outcome State Fault Refusal :=
  .next (if s.coreRuns && s.sys.mode = .selftest && s.bit R.MON_TEST.BUSY then
    match obs with
    | .levels hi lo =>
      let k := s.mon.autoStep
      if 1 ≤ k ∧ k ≤ 3 then
        let s1 := (List.range 42).foldl (fun t m =>
          if (hi.getLsbD m, lo.getLsbD m) = s.expectLevels k m then t else t.autoFail m 2 0) s
        let s2 := s1.modMon fun m => { m with autoStep := k + 1 }
        if k = 3 then s2.autoReadbacks.settle else (List.range 42).foldl State.testDrive s2
      else s
    | .readback code ovr settle =>
      let n := s.mon.autoDac
      if s.mon.autoStep = 4 ∧ n < 84 then
        if (ovr || settle) && decide (s.mon.autoRep < 3) then
          (s.modMon fun m => { m with autoRep := m.autoRep + 1 }).inject 0x6A 2
        else
          let x := s.expectDac n
          let flagged := ovr || settle
          let ok := !flagged && decide (x - 128 ≤ code.toInt) && decide (code.toInt ≤ x + 128)
          (if ok then s else s.autoFail (n / 2) (if flagged then 4 else 3) code.toNat).autoNextDac
      else s
  else s)

/-- The verdict of the automatic test on one monitor: STF, and event 0x0703 (08 R195, R197). -/
def State.autoVerdict (s : State) (m : Nat) : State :=
  let e := tblGet (fun _ => 0) s.mon.autoBad m
  let bad := e != 0
  let s1 := (s.setB (R.MON_ST.STF m) bad).setB (R.MON_ST.TST m) false
  if bad then s1.raise 0x0703 2 (le 1 m ++ le 1 (e / 65536) ++ le 2 (e % 65536)) else s1

/-- AUTO_SELFTEST_DONE: STF and FAIL, and SELFTEST passes to PRECHARGE (08 R195; 11 R248). -/
def execAutoSelftestDone (s : State) : Host.Outcome State Fault Refusal :=
  .next (if s.coreRuns && s.sys.mode = .selftest && s.bit R.MON_TEST.BUSY && decide (84 ≤ s.mon.autoDac) then
    let s1 := (List.range 42).foldl State.autoVerdict s
    let s2 := ((s1.setB R.MON_TEST.BUSY false).setB R.MON_TEST.DONE true).setB R.MON_TEST.FAIL (!s.mon.autoBad.isEmpty)
    (s2.modMon fun m => { m with autoStep := 0, autoBad := [] }).beginPrecharge.settle
  else s)

end Sys2Proof.Machine
end

