-- ==== Sys2Proof/Machine/EdgeOps.lean ====
section
/-! DEFINITION. Shared operations of the edge fabric: duty quantisers, armed edges of audio lanes and armed widths of supply
phases (06_edges_and_phases.md R126 to R138). Times are absolute, in taps of 1/16 tick. -/

namespace Sys2Proof.Machine

/-- One step of a duty quantiser: its states and the output (06 R131). -/
def quantStep (nsord : Nat) (q : Quant) (x : Int) : Quant × Int :=
  let v := if nsord = 0 then x else if nsord = 1 then x + q.e1 else x + 2 * q.e1 - q.e2
  let y := asr (v + 32768) 16
  ({ e1 := v - y * 65536, e2 := q.e1 }, y)

/-- The first turning point of a carrier at or after a time: phase and half-period in taps (06 R127). -/
def turnAt (x phi h16 : Int) : Int := x + (phi - x) % h16

/-- The phase of the carrier of audio channel k, in taps (06 R127). -/
def State.lanePhi (s : State) (d k : Nat) : Int :=
  let h := s.audioH d
  ((s.get (R.PWM_APH.PH d k) + 16 * s.ensShift (2 * h)) % (32 * h) : Nat)

/-- The turning point at which the coming half-period of a lane starts, and whether that half-period rises (06 R127, R135).
For a running loop it is the one after the turning point of the open sample's instant. -/
def State.comingTurn (s : State) (d k : Nat) : Int × Bool :=
  let h16 : Int := 16 * s.audioH d
  let phi := s.lanePhi d k
  let l := s.loop (loopNo d k)
  let t := if s.running d k then turnAt (16 * l.tS) phi h16 + h16 else turnAt (16 * s.now + 1) phi h16
  (t, decide ((t - phi) % (2 * h16) = 0))

/-- The edge of a half-bridge in the half-period that starts at t: high time hq, advance adv (06 R130, R133, R134). -/
def halfEdge (t : Int) (rising : Bool) (h16 hq adv : Int) : Edge :=
  if rising then { at16 := t + hq - adv, rise := false } else { at16 := t + h16 - hq - adv, rise := true }

/-- The advance of an edge: P or N half-bridge, rising or falling edge, current sign (06 R133). -/
def advance (tda : Nat) (sgn : Int) (isP riseEdge : Bool) : Int :=
  if sgn = 0 then (tda / 2 : Nat)
  else if (decide (0 < sgn) == isP) == riseEdge then tda else 0

/-- The settings of an audio channel are an error of the host's own making, or the frame table gives the channel an instant that is not
the slot start at or before a turning point (06 R127, R133, R153). -/
def State.audioBad (s : State) (d k : Nat) : Bool :=
  let t := 16 * ((s.loop (loopNo d k)).tS : Int)
  decide (s.get (R.PWM_ATIM.AMIN d) < 2 * s.get (R.PWM_ATIM.TDA d)) || decide (32 * s.audioH d ≤ s.get (R.PWM_APH.PH d k)) ||
    (s.running d k && decide (t + 64 ≤ turnAt t (s.lanePhi d k) (16 * s.audioH d)))

/-- The fields that such an error leaves without effect: dead time, least pulse, carrier phase. -/
def audioFlds (d k : Nat) : List Fld := [R.PWM_ATIM.TDA d, R.PWM_ATIM.AMIN d, R.PWM_APH.PH d k]

/-- A duty and current sign form the armed set of an audio lane (06 R131 to R135). -/
def State.armAudio (s : State) (d k : Nat) (duty sgn : Int) : State :=
  let h16 : Int := 16 * s.audioH d
  let ns := s.get (R.PWM_CFG.NSORD d)
  let am : Int := ((s.get (R.PWM_ATIM.AMIN d) + 1) / 2 : Nat)
  let (qp, yp) := quantStep ns (s.quant d (8 + 2 * k)) ((32768 + duty) * h16)
  let (qn, yn) := quantStep ns (s.quant d (9 + 2 * k)) ((32768 - duty) * h16)
  let hp := min (max yp am) (h16 - am)
  let hn := min (max yn am) (h16 - am)
  let (t, rising) := s.comingTurn d k
  let tda := s.get (R.PWM_ATIM.TDA d)
  let ep := halfEdge t rising h16 hp (advance tda sgn true (!rising))
  let en := halfEdge t rising h16 hn (advance tda sgn false (!rising))
  let s1 := (s.setQuant d (8 + 2 * k) qp).setQuant d (9 + 2 * k) qn
  let s2 := if hp = yp ∧ hn = yn then s1 else s1.setB (R.PWM_STAT.MINCLP d) true
  s2.modLane (4 * d + k) fun l => { l with duty := some (duty, sgn), armed := some (ep, en) }

/-- The exact high time of a supply duty, and NEGD for a negative one (06 R131, R137 step 1). -/
def State.supplyX (s : State) (d : Nat) (duty : Int) : Int × State :=
  let hu : Int := (16 * s.supplyH d / s.widthUnit d : Nat)
  (2 * max duty 0 * hu, if duty < 0 then s.setB (R.PWM_STAT.NEGD d) true else s)

/-- A duty forms the width of a supply phase: quantiser and NEGD (06 R131, R137). -/
def State.formWidth (s : State) (d p : Nat) (duty : Int) : State × Int :=
  let (x, s1) := s.supplyX d duty
  let (q, y) := quantStep (s.get (R.PWM_CFG.NSORD d)) (s1.quant d (2 * p)) x
  (s1.setQuant d (2 * p) q, y)

/-- A duty handed on arms the width of a supply phase (06 R134, R138). -/
def State.armSupply (s : State) (d p : Nat) (duty : Int) : State :=
  let (s1, y) := s.formWidth d p duty
  s1.modPhase d p fun x => { x with duty := some duty, armed := some y, fresh := true }

/-- A duty of loop j arrives at the edge fabric (06 R134). -/
def State.armDuty (s : State) (d j : Nat) (duty sgn : Int) : State :=
  if j < 4 then s.underSettings (s.audioBad d j) (audioFlds d j) fun t => t.armAudio d j duty sgn else s.armSupply d (j - 8) duty

/-- The last duty of a lane used again (06 R135). -/
def State.armLast (s : State) (d j : Nat) : State :=
  if j < 4 then
    match (s.lane (4 * d + j)).duty with
    | some (v, g) => s.armDuty d j v g
    | none => s
  else
    match (s.phase d (j - 8)).duty with
    | some v => s.armDuty d j v 0
    | none => s

end Sys2Proof.Machine
end

