-- ==== Sys2Proof/Machine/Kernel.lean ====
section
/-! DEFINITION. The loop kernel: update, post-update and pre-sample stage as functions of a bank and a loop
(03_kareo_loop_fabric.md R56 to R67), and the plausibility monitors (04_loop_nesting_and_plausibility.md R92 to R96). -/

namespace Sys2Proof.Machine

/-- An accumulator with an initial value (03 R56). -/
def accInit (v : Int) : Acc := { v := v, sat := false }

/-- A product subtracted: the product itself is limited to 80 bits (03 R56, R59). -/
def accSubMul (a : Acc) (c : Coef) (x : Int) : Acc :=
  let m := coefMul c x
  let p := sat80 m
  let t := a.v - p
  { v := sat80 t, sat := a.sat || p ≠ m || sat80 t ≠ t }

/-- The rail reciprocal: its value and whether it was limited (03 R64). -/
def recip (fEff : Int) : Int × Bool :=
  if fEff ≤ 0 then (2147483647, true)
  else
    let q := divHU 576460752303423488 fEff.toNat
    if 2147483647 < q then (2147483647, true) else (q, false)

/-- What an update yields (03 R59). -/
structure Kern where
  e : Int
  v : Int
  q1 : Int
  q2 : Int
  u : Int
  g : Int
  d : Int
  sgn : Int
  rsat : Bool
  asat : Bool
  clamped : Bool
  deriving DecidableEq, Repr

/-- The CFG word of a bank (03 R67). -/
def cfgOf (c : Nat → Coef) : Nat := (c 89).m.toNat

/-- The feedforward sample of loop slot j by CFG.FFSRC: the rail pair for an audio loop, the battery for a phase current loop,
none for the others (03 R62, R67). -/
def ffSample (c : Nat → Coef) (j : Nat) (rail bat : Int) : Int :=
  let k := bitsAt (cfgOf c) 6 2
  if k = 1 ∧ j < 4 then rail else if k = 2 ∧ 8 ≤ j then bat else 0

/-- CFG.RNORM of a bank (03 R67). -/
def rnormOf (c : Nat → Coef) : Bool := (cfgOf c).testBit 8

/-- f floored at FMIN for the rail reciprocal (03 R64). -/
def fEff (c : Nat → Coef) (f : Int) : Int := if f < s32 (c 87).m then s32 (c 87).m else f

/-- The current sign of R65. -/
def curSign (c : Nat → Coef) (l : Loop) : Int :=
  match l.x[bitsAt (cfgOf c) 0 3]? with
  | some x => if s32 (c 88).m < x then 1 else if x < -(s32 (c 88).m) then -1 else 0
  | none => 0

/-- The update of a sample: missing or not, feedforward, and v of a degraded audio loop; the flags of the reference stage are none of
its own (03 R59, R64; 04 R98). -/
def kernUpdate (c : Nat → Coef) (l : Loop) (missing : Bool) (f : Int) (opened : Option Int) : Kern :=
  let e0 := l.y - l.yp
  let e := if missing then 0 else sat32 e0
  let a := accSum (accInit l.acc) [(c 12, l.rS), (c 13, f), (c 14, e)]
  let v := opened.getD (rnd a.v)
  let b1 := accSum (accInit (l.s11 * 2147483648)) [(c 75, v)]
  let q1 := rnd b1.v
  let b2 := accSum (accInit (l.s12 * 2147483648)) [(c 80, q1)]
  let q2 := rnd b2.v
  let lo := s32 (c 85).m
  let hi := s32 (c 86).m
  let u := if q2 < lo then lo else if hi < q2 then hi else q2
  let rn := rnormOf c
  let gq := recip (fEff c f)
  let w := u * gq.1 * 8
  let un := if rn then rnd w else u
  let d0 := asr (un + 32768) 16
  let d := clampI (-32767) 32767 d0
  { e := e, v := v, q1 := q1, q2 := q2, u := u, g := if rn then gq.1 else 0, d := d, sgn := curSign c l,
    rsat := (!missing && e != e0) || (opened.isNone && rndSat a.v) || rndSat b1.v || rndSat b2.v ||
      (rn && rndSat w) || d != d0,
    asat := a.sat || b1.sat || b2.sat, clamped := u != q2 }

/-- Row i of the new states, before the anti-windup freeze (03 R59). -/
def stateRow (c : Nat → Coef) (x : List Int) (p : Post) (i : Nat) : Acc :=
  accSum (accInit 0)
    (((List.range 6).map fun j => (c (15 + 6 * i + j), x.getD j 0)) ++
      [(c (51 + i), p.ua), (c (57 + i), p.r), (c (63 + i), p.f), (c (69 + i), p.e)])

/-- A loop with the flags its stages raised: RSAT and ACCSAT (03 R56, R57). -/
structure Staged where
  l : Loop
  rsat : Bool
  asat : Bool
  deriving DecidableEq, Repr

/-- The post-update of a sample: all new states from the old ones; a missed sample keeps its notch states (03 R59, R76). -/
def postUpdate (c : Nat → Coef) (l : Loop) (p : Post) : Staged :=
  let aw := bitsAt (cfgOf c) 9 6
  let keep := fun i => p.clamped && !p.missed && aw.testBit i
  let rows := (List.range 6).map fun i => (keep i, stateRow c l.x p i)
  let x := ((List.range 6).zip rows).map fun e => if e.2.1 then l.x.getD e.1 0 else rnd e.2.2.v
  let n11 := accSubMul (accSum (accInit (l.s21 * 2147483648)) [(c 76, p.v)]) (c 78) p.q1
  let n21 := accSubMul (accSum (accInit 0) [(c 77, p.v)]) (c 79) p.q1
  let n12 := accSubMul (accSum (accInit (l.s22 * 2147483648)) [(c 81, p.q1)]) (c 83) p.q2
  let n22 := accSubMul (accSum (accInit 0) [(c 82, p.q1)]) (c 84) p.q2
  let l1 := { l with x := x, ua := p.ua }
  let act := rows.filter fun e => !e.1
  let rs := act.any fun e => rndSat e.2.v
  let as_ := act.any fun e => e.2.sat
  if p.missed then { l := l1, rsat := rs, asat := as_ }
  else
    let ns := [n11, n21, n12, n22]
    { l := { l1 with s11 := rnd n11.v, s21 := rnd n21.v, s12 := rnd n12.v, s22 := rnd n22.v }
      rsat := rs || ns.any (fun a => rndSat a.v), asat := as_ || ns.any (fun a => a.sat) }

/-- The pre-sample stage: predicted measurement and the state-feedback sum (03 R59). -/
def preSample (c : Nat → Coef) (l : Loop) : Staged :=
  let y := accSum (accInit 0) ((List.range 6).map fun i => (c i, l.x.getD i 0))
  let k := accSum (accInit 0) ((List.range 6).map fun i => (c (6 + i), l.x.getD i 0))
  { l := { l with yp := rnd y.v, acc := k.v }, rsat := rndSat y.v, asat := y.sat || k.sat }

/-! ### Plausibility monitors -/

/-- Settings of the monitors of a loop: the words of LFC_PLBj and LFC_PLCj (04 R105). -/
structure PlSet where
  en : Bool
  hold : Nat
  lostn : Nat
  frzn : Nat
  mexc : Nat
  nwin : Nat
  fmot : Int
  eb : Int
  deriving DecidableEq, Repr

def State.plSet (s : State) (d j : Nat) : PlSet :=
  { en := s.bit (R.LFC_PLC.EN d j), hold := s.get (R.LFC_PLC.HOLD d j), lostn := s.get (R.LFC_PLC.LOSTN d j),
    frzn := s.get (R.LFC_PLC.FRZN d j), mexc := s.get (R.LFC_PLC.MEXC d j), nwin := s.get (R.LFC_PLC.NWIN d j),
    fmot := (s.get (R.LFC_PLB.FMM d j) * 2 ^ s.get (R.LFC_PLB.FMS d j) : Nat),
    eb := (s.get (R.LFC_PLB.EBM d j) * 2 ^ s.get (R.LFC_PLB.EBS d j) : Nat) }

/-- The innovation exceeds its bound (04 R93). -/
def exceeds (p : PlSet) (e : Int) : Bool := e == -2147483648 || decide (p.eb < (e.natAbs : Int))

/-- A sample that is not missing enters the innovation and freeze monitors, or is blanked: the sample that entered last stays the one
to compare with (04 R93, R94, R96). -/
def plEnter (p : PlSet) (l : Loop) (e : Int) : Loop :=
  if l.blank ≠ 0 then { l with exWin := [], frzCnt := 0 }
  else
    let frozen := l.haveLast && l.y == l.lastY && decide (p.fmot ≤ ((l.yp - l.lastYp).natAbs : Int))
    { l with exWin := (exceeds p e :: l.exWin).take p.nwin
             frzCnt := if frozen then l.frzCnt + 1 else 0
             lastY := l.y, lastYp := l.yp, haveLast := true }

/-- The monitors on one sample: the loop after it, and the cause of a trip: 0 none, 1 innovation, 2 frozen, 3 lost (04 R92 to R97). -/
def plSample (p : PlSet) (l : Loop) (missing : Bool) (e : Int) : Loop × Nat :=
  if !p.en then (l, 0)
  else if missing then
    let l1 := { l with lostCnt := l.lostCnt + 1 }
    (l1, if p.lostn ≠ 0 ∧ p.lostn ≤ l1.lostCnt then 3 else 0)
  else
    let l1 := plEnter p { l with lostCnt := 0 } e
    let frz := decide (p.frzn ≠ 0) && decide (l.blank = 0) && decide (p.frzn ≤ l1.frzCnt)
    let inn := decide (p.nwin ≠ 0) && decide (l.blank = 0) && decide (p.mexc ≤ (l1.exWin.filter id).length)
    (l1, if frz then 2 else if inn then 1 else 0)

end Sys2Proof.Machine
end

