-- ==== Sys2Proof/Machine/LoopOps.lean ====
section
/-! DEFINITION. Shared operations of the loops: set-points, jobs and banks, degradation, rail-good, load supervision, the
impedance measurement, indirect access and swaps (03_kareo_loop_fabric.md; 04_loop_nesting_and_plausibility.md; 11_modes.md R254, R255). -/

namespace Sys2Proof.Machine

/-- Saturation flags of a loop (03 R56, R57). -/
def State.satFlags (s : State) (d j : Nat) (rs as_ : Bool) : State :=
  let s1 := if rs then s.setI (R.LFC_SAT.RSAT d) j true else s
  if as_ then s1.setI (R.LFC_SAT.ACCSAT d) j true else s1

/-- The entries of a bank of a loop. -/
def State.bankOf (s : State) (d j : Nat) (b : Bool) : Nat → Coef := s.coef (loopNo d j) b

/-- A bank without an error of the host's own making (03 R66, R67). -/
def bankOk (c : Nat → Coef) : Bool :=
  decide (s32 (c 85).m ≤ s32 (c 86).m) && decide (0 ≤ s32 (c 88).m) &&
    !((cfgOf c).testBit 8 && bitsAt (cfgOf c) 6 2 == 0)

/-- The bank as the kernel works with it: of a bank in error the clamp, the zero band and the field word are free (00_scope.md R7;
log 4). -/
def State.bankEff (s : State) (d j : Nat) (b : Bool) : Nat → Coef :=
  let c := s.bankOf d j b
  if bankOk c then c
  else fun k => if [85, 86, 88, 89].contains k then { m := s.freeWord k, s := (c k).s } else c k

/-- Monitor settings without an error of the host's own making: MEXC of 0 or above NWIN is one (04 R93). -/
def plOk (p : PlSet) : Bool := !p.en || p.nwin == 0 || (p.mexc != 0 && decide (p.mexc ≤ p.nwin))

/-- The monitor settings as they act: MEXC is free where they are in error (00 R7; log 4). -/
def State.plEff (s : State) (d j : Nat) : PlSet :=
  let p := s.plSet d j
  if plOk p then p else { p with mexc := (s.freeWord (R.LFC_PLC.at d j)).toNat % 64 }

/-- What a loop works with is in error: free values stand in (00 R7; log 4). -/
def State.loopBad (s : State) (d j : Nat) : Bool :=
  !bankOk (s.bankOf d j (s.loop (loopNo d j)).bank) || !plOk (s.plSet d j)

/-! ### Errors of the ECC -/

/-- The place of an entry of a space: banks A and B, and the state space. -/
def eccPlace (sp i : Nat) : Nat := 128 * sp + i

/-- The error of an entry: 0 none, 1 a single-bit error, 2 a double-bit error (03 R70). -/
def State.lfcErr (s : State) (ln sp i : Nat) : Nat := tblGet (fun _ => 0) (s.loop ln).ecc (eccPlace sp i)

/-- The error of an entry replaced. -/
def State.setLfcErr (s : State) (ln sp i e : Nat) : State :=
  s.modLoop ln fun l => { l with ecc := tblSet (fun _ => 0) l.ecc (eccPlace sp i) e }

/-- A single-bit error found: corrected and written back, ECCCOR, event 0x0303 (03 R70, R79). -/
def State.lfcCorrected (s : State) (d j sp entry : Nat) : State :=
  ((s.setLfcErr (loopNo d j) sp entry 0).setB (R.LFC_STAT.ECCCOR d) true).raise 0x0303 0
    (le 1 (loopNo d j) ++ le 1 sp ++ le 1 entry)

/-- A double-bit error found: ECCERR, event 0x0304; in the active bank, in the state memory, or in an entry that the kernel computes
from, it faults the loop; an inactive bank becomes unusable until it is rewritten (03 R70, R78, R79; log 69). -/
def State.lfcDouble (s : State) (d j sp entry : Nat) (kern : Bool) : State :=
  let s0 := s.setLfcErr (loopNo d j) sp entry 2
  let s1 := (s0.setB (R.LFC_STAT.ECCERR d) true).raise 0x0304 2 (le 1 (loopNo d j) ++ le 1 sp ++ le 1 entry)
  if sp = 2 ∨ s.actBank d j = decide (sp = 1) ∨ kern then s1.loopFault d j 2
  else s1.modLoop (loopNo d j) fun l => { l with bankBad := l.bankBad ||| (1#2 <<< sp), bankFill := tblErase l.bankFill sp }

/-- One entry is read: the error it has is found (03 R70). -/
def State.lfcFind (s : State) (d j sp entry e : Nat) (kern : Bool) : State :=
  if e = 0 then s else if e = 1 then s.lfcCorrected d j sp entry else s.lfcDouble d j sp entry kern

/-- The kernel reads the entries that a stage uses, by place; whether one of them holds a double-bit error, at which the reading
ends (03 R70). -/
def State.kernRead (s : State) (d j : Nat) (used : Nat → Bool) : Bool × State :=
  (s.loop (loopNo d j)).ecc.foldl (fun a q =>
    if a.1 || !used q.1 then a else (q.2 != 1, a.2.lfcFind d j (q.1 / 128) (q.1 % 128) q.2 true)) (false, s)

/-- The entries of bank b and of the state space that an update reads (03 R59, R65). -/
def updReads (b : Bool) (k : Nat) : Bool :=
  (k / 128 == b2n b && [12, 13, 14, 75, 80, 85, 86, 87, 88, 89].contains (k % 128)) ||
    (k / 128 == 2 && [0, 1, 2, 3, 4, 5, 6, 8].contains (k % 128))

/-- The entries that a job reads: for the post-update part those of the bank it carries, and the pre-sample rows of bank b
(03 R59, R74). -/
def jobReads (p : Option Post) (b : Bool) (k : Nat) : Bool :=
  let i := k % 128
  (match p with
    | some q => k / 128 == b2n q.bank && decide (15 ≤ i) && decide (i < 90) && i != 75 && i != 80 && !(decide (85 ≤ i) && decide (i ≤ 88))
    | none => false) ||
    (k / 128 == b2n b && decide (i < 12)) || (k / 128 == 2 && decide (i < (if p.isSome then 10 else 6)))

/-! ### Set-points and measured values at the sample instant -/

/-- The feed period of a domain in ticks; any of the three where FPER is in error (03 R63, R84; 00 R7; log 4). -/
def State.feedT (s : State) (d : Nat) : Nat :=
  match s.get (R.LFC_FEED.FPER d) with
  | 0 => 256
  | 1 => 512
  | 2 => 1024
  | _ => 256 * 2 ^ ((s.freeWord (R.LFC_FEED.at d)).toNat % 3)

/-- The interpolated reference of an audio loop (03 R63). -/
def State.refNow (s : State) (d : Nat) (l : Loop) : Int :=
  let t := s.feedT d
  l.ra + divHU ((l.rk - l.ra) * (min (s.now - l.tk) t : Nat)) t

/-- The tone of a running measurement on channel k (04 R104). -/
def State.tone (s : State) (d : Nat) : Int :=
  asr (s.getS (R.LFC_ZAMP.V d) * sinTab ((s.dom d).zphi / 4194304) + 16384) 15

/-- A measurement runs on loop j (04 R104). -/
def State.zOn (s : State) (d j : Nat) : Bool := (s.dom d).zrun && s.get (R.LFC_ZCFG.CH d) == j

/-- The set-point of loop j at its sample instant (03 R62, R63; 04 R90, R104; 11 R255; 13_supply_events.md R296; 14_thermal.md R317).
The mute gain acts before the tone (log 17). -/
def State.setPoint (s : State) (d j : Nat) : Int :=
  if j < 4 then
    let r := asr (s.refNow d (s.loop (loopNo d j)) * s.gain d + 16384) 15
    if s.zOn d j then sat32 (r + s.tone d) else r
  else if j = 4 then (s.prf d).rVL
  else if j = 5 then s.getS (R.LFC_ILIM.ILIM d)
  else if j = 6 then (if s.sys.mode = .crank then s.getS R.PWR_BLFC.V else s.getS R.PWR_BLFN.V)
  else if j = 7 then (if s.bitI R.THM_STAT.NTHR d then s.getS (R.THM_TLT.V d) else s.getS (R.THM_TLN.V d))
  else s.winnerBefore d

/-- The inputs of IL: the phases whose code has an entry in the share (03 R61). -/
def State.ilInputs (s : State) (d : Nat) : List Nat :=
  (List.range 4).filter fun p => (s.frameEntry d (0x10 + 4 * d + p)).isSome

/-- The sample of IL: the sum of the latest samples of its inputs, and whether it is missing (03 R61, R62). -/
def State.ilSample (s : State) (d : Nat) : Int × Bool :=
  let x := s.dom d
  let ins := s.ilInputs d
  (sat32 (ins.foldl (fun a p => a + tblGet (fun _ => 0) x.isp p) 0),
    ins.any fun p => tblGet (fun _ => false) x.ispMiss p || !(x.isp.any fun e => e.1 == p))

/-- The reference stage forms g of a sample with RNORM: f below FMIN shows in RNLIM, a limited g in RSAT (03 R59, R64). -/
def State.refFlags (s : State) (d j : Nat) (c : Nat → Coef) (f : Int) : State :=
  if rnormOf c then
    let s1 := if f < s32 (c 87).m then s.setI (R.LFC_CLAMP.RNLIM d) j true else s
    if (recip (fEff c f)).2 then s1.setI (R.LFC_SAT.RSAT d) j true else s1
  else s

/-- The reference stage of the open sample of loop j, with the bank latched for it (03 R59, R64, R82). -/
def State.refStage (s : State) (d j : Nat) : State :=
  let l := s.loop (loopNo d j)
  let c := s.bankEff d j l.bank
  s.refFlags d j c (ffSample c j l.fRail l.fBat)

/-- A sample of loop j opens: r and the feedforward candidates are taken; y is still to come, but for IL. The reference stage runs
once the bank of the sample is latched, that is, once its job is released (03 R59, R62, R64, R82). -/
def State.openSample (s : State) (d j : Nat) : State :=
  let x := s.dom d
  let r := s.setPoint d j
  let s1 := s.modDom d fun y => if s.zOn d j then { y with zopen := true } else y
  let s2 := s1.modLoop (loopNo d j) fun l =>
    { l with opn := true, tS := s.now, rS := r, fRail := x.railF.getD 0, fBat := x.batF.getD 0, posS := (s.prf d).p
             yHave := j = 5
             y := if j = 5 then (s.ilSample d).1 else l.y
             yMiss := if j = 5 then (s.ilSample d).2 else l.yMiss }
  if (s.loop (loopNo d j)).jobQ.length ≤ 1 then s2.refStage d j else s2

/-! ### Jobs and banks -/

/-- The bank for the sample at an instant is latched: a pending swap whose time has come toggles ACT, whether or not the scrub has
marked the bank unusable since the request (03 R82, R83; log 72). With BLANK above 0 the counts of the blanked monitors go to 0
(04 R96). -/
def State.latchBank (s : State) (d j inst : Nat) : State :=
  let ln := loopNo d j
  let due := s.bitI (R.LFC_BANK.PEND d) j && (match (s.loop ln).swapT with
    | none => true
    | some t => decide (t ≤ inst))
  if due then
    let s1 := (s.setI (R.LFC_BANK.ACT d) j (!s.actBank d j)).setI (R.LFC_BANK.PEND d) j false
    s1.modLoop ln fun l =>
      { blanked (s.get (R.LFC_PLCTL.BLANK d)) l with bank := s1.actBank d j, swapT := none }
  else s.modLoop ln fun l => { l with bank := s.actBank d j }

/-- The job of the next sample: released at once, or once the job before it has ended (03 R74, R82). -/
def State.pushJob (s : State) (d j : Nat) (p : Post) : State :=
  let ln := loopNo d j
  let l := s.loop ln
  let inst := s.nextInstant d j l.tS
  let jb : Job := { post := some p, inst := inst, dl := inst + s.frameLen d j - 47 }
  let s1 := s.modLoop ln fun y => { y with jobQ := y.jobQ ++ [jb], opn := false, preReady := false }
  if l.jobQ.isEmpty then s1.latchBank d j inst else s1

/-- The released jobs of a domain, with their deadlines (03 R74). -/
def State.releasedJobs (s : State) (d : Nat) : List (Nat × Nat) :=
  (List.range 12).filterMap fun j => (s.loop (loopNo d j)).jobQ.head?.map fun q => (j, q.dl)

/-- The job of the earliest deadline; of equal ones the lower L (03 R74). -/
def earliest : List (Nat × Nat) → Option (Nat × Nat)
  | [] => none
  | c :: t =>
    match earliest t with
    | some b => if b.2 < c.2 then some b else some c
    | none => some c

/-- The bank of a sample has just been latched although the sample itself is over or open: its reference stage runs; a sample that is
over left its rail and battery values with the job after it (03 R64, R82). -/
def State.lateStage (s : State) (d j : Nat) : State :=
  let ln := loopNo d j
  let l := s.loop ln
  match l.jobQ with
  | q :: { post := some p, inst := i, dl := t } :: rest =>
    match p.fc with
    | some rb =>
      let c := s.bankEff d j l.bank
      let f := ffSample c j rb.1 rb.2
      (s.refFlags d j c f).modLoop ln fun x =>
        { x with jobQ := q :: { post := some { p with bank := l.bank, f := f, fc := none }, inst := i, dl := t } :: rest }
    | none => s
  | _ => if l.opn then s.refStage d j else s

/-- A job ends: post-update of the sample before, pre-sample stage of the sample it prepares, and the release of the next
job of the loop, which latches the bank of its sample (03 R59, R74, R82). A double-bit error among the entries it reads faults the
loop (03 R70). -/
def State.jobDone (s : State) (d j : Nat) : State :=
  let ln := loopNo d j
  match (s.loop ln).jobQ with
  | [] => s
  | q :: rest =>
    let rd := s.kernRead d j (jobReads q.post (s.loop ln).bank)
    if rd.1 then rd.2
    else
      let s0 := rd.2
      let l := s0.loop ln
      let st : Staged := match q.post with
        | some p => postUpdate (s0.bankEff d j p.bank) l p
        | none => { l := l, rsat := false, asat := false }
      let pr := preSample (s0.bankOf d j l.bank) st.l
      let s1 := s0.modLoop ln fun _ => { pr.l with jobQ := rest, preReady := rest.isEmpty }
      let s2 := s1.satFlags d j (st.rsat || pr.rsat) (st.asat || pr.asat)
      match rest with
      | [] => s2
      | n :: _ => (s2.latchBank d j n.inst).lateStage d j

/-! ### Impedance measurement and load supervision -/

/-- One sample of a running measurement ends: the sums, unless it is missing under R61; ERR, if it is missing or missed; phase and
count (04 R104). -/
def State.zSample (s : State) (d j : Nat) (missing bad : Bool) (y iv : Int) : State :=
  let x := s.dom d
  if s.zOn d j && x.zopen then
    let a := x.zphi / 4194304
    let s1 := s.modDom d fun z =>
      { z with zopen := false
               zphi := (z.zphi + s.get (R.LFC_ZINC.V d)) % 2 ^ 32
               zleft := z.zleft - 1
               zvs := if missing then z.zvs else z.zvs + asr y 8 * sinTab a
               zvc := if missing then z.zvc else z.zvc + asr y 8 * cosTab a
               zis := if missing then z.zis else z.zis + asr iv 8 * sinTab a
               zic := if missing then z.zic else z.zic + asr iv 8 * cosTab a }
    let s2 := if bad then s1.setB (R.LFC_ZCFG.ERR d) true else s1
    if x.zleft ≤ 1 then
      ((((s2.modDom d fun z => { z with zrun := false }).setB (R.LFC_ZCFG.BUSY d) false).setB (R.LFC_ZCFG.DONE d) true).zCapture d)
    else s2
  else s

/-- A valid block of channel k: R, BLK, and the runs of SHORT and OPEN. A bit is set, and its event raised, only where it is 0: a run
that goes on while it stands raises no further event (04 R102, R103, R106; log 73). -/
def State.ldBlock (s : State) (d k : Nat) (r : Nat) : State :=
  let ln := loopNo d k
  let blk := satN 0x7FFF (s.get (R.LFC_LDR.BLK d k) + 1)
  let s1 := ((s.set (R.LFC_LDR.R d k) r).setB (R.LFC_LDR.VALID d k) true).set (R.LFC_LDR.BLK d k) blk
  let ns := if r < s.get (R.LFC_LDTHR.RSHORT d) then (s.loop ln).ldShort + 1 else 0
  let no := if s.get (R.LFC_LDTHR.ROPEN d) < r then (s.loop ln).ldOpen + 1 else 0
  let s2 := s1.modLoop ln fun l => { l with ldShort := min ns 2, ldOpen := min no 2 }
  let ev := le 1 (4 * d + k) ++ le 2 r ++ le 2 blk
  let s3 := if 2 ≤ ns ∧ ¬ s2.bitI (R.LFC_LDSTAT.SHORT d) k then (s2.setI (R.LFC_LDSTAT.SHORT d) k true).raise 0x0307 1 ev else s2
  if 2 ≤ no ∧ ¬ s3.bitI (R.LFC_LDSTAT.OPEN d) k then (s3.setI (R.LFC_LDSTAT.OPEN d) k true).raise 0x0308 1 ev else s3

/-- The block result: R, or none where the excitation is too small (04 R102). -/
def ldResult (p q w : Int) (qmin : Nat) : Option Nat :=
  let m : Int := (qmin * 4294967296 : Nat)
  if m ≤ q ∨ m ≤ w then
    some (if q = 0 then 0xFFFF else (min (max p 0 * 256 / q) 0xFFFF).toNat)
  else none

/-- One sample of load supervision of channel k (04 R102). -/
def State.ldSample (s : State) (d k : Nat) (y iv : Int) : State :=
  if s.bitI (R.LFC_LDCFG.LDEN d) k then
    let ln := loopNo d k
    let yv := asr y 8
    let i := asr iv 8
    let l := s.loop ln
    let l1 := { l with ldp := l.ldp + yv * i, ldq := l.ldq + i * i, ldw := l.ldw + yv * yv, ldn := l.ldn + 1 }
    if l1.ldn = 2 ^ s.get (R.LFC_LDCFG.LW d) then
      let s1 := s.modLoop ln fun _ => ldClear l1
      match ldResult l1.ldp l1.ldq l1.ldw (s.get (R.LFC_LDCFG.QMIN d)) with
      | some r => s1.ldBlock d k r
      | none => (s1.setB (R.LFC_LDR.VALID d k) false).modLoop ln fun x => { x with ldShort := 0, ldOpen := 0 }
    else s.modLoop ln fun _ => l1
  else s

/-! ### Degradation -/

/-- A monitor trips: the loop is degraded; event 0x0306 (04 R97, R100, R102, R104, R106). -/
def State.trip (s : State) (d j cause : Nat) : State :=
  let ln := loopNo d j
  let s1 := (s.setI (R.LFC_PLSTAT.DEG d) j true).setI (R.LFC_PLSTAT.PLF d) j true
  let s2 := s1.set (R.LFC_PLCAUSE.CAUSE d) (setBits (s1.get (R.LFC_PLCAUSE.CAUSE d)) (2 * j) 2 cause)
  let s3 := s2.modLoop ln fun l =>
    { ldClear l with heldU := l.uLast, heldD := l.d, degTick := s.now, degCnt := 0, ramp := 0 }
  let s4 := s3.modMon fun m => { m with live := tblSet (fun _ => false) m.live (93 + 2 * ln) true }
  let s5 := s4.raise 0x0306 2 (le 1 ln ++ le 1 cause ++ le 1 (s.get (R.LFC_PLC.HOLD d j)) ++ le 2 s.now)
  if j < 4 then s5.zStopOn d j else s5

/-- RAMPSH as it acts (04 R105). -/
def State.rampSh (s : State) (d : Nat) : Nat := min (max (s.get (R.LFC_PLCTL.RAMPSH d)) 4) 12

/-- One more sample of a degraded loop: the hold count of a supply loop, the mute ramp of an audio loop (04 R99, R100). -/
def State.degStep (s : State) (d j : Nat) : State :=
  let hold := s.get (R.LFC_PLC.HOLD d j)
  let top := 2 ^ s.rampSh d
  s.modLoop (loopNo d j) fun l =>
    if j < 4 then
      if l.ramp = 0 ∧ l.tS < l.degTick + min hold 96 * 4096 then l else { l with ramp := min (l.ramp + 1) (top + 1) }
    else { l with degCnt := l.degCnt + 1 }

/-- The degraded loop has come to its end: it faults (04 R99, R100). -/
def State.degOver (s : State) (d j : Nat) : Bool :=
  let l := s.loop (loopNo d j)
  if j < 4 then decide (2 ^ s.rampSh d < l.ramp) else decide (s.get (R.LFC_PLC.HOLD d j) ≤ l.degCnt)

/-- v of a degraded audio loop (04 R98). -/
def State.openLoopV (s : State) (d : Nat) (l : Loop) : Int :=
  let sh := s.rampSh d
  asr (l.rS * ((2 ^ sh : Nat) - (min l.ramp (2 ^ sh) : Nat) : Int)) sh

/-! ### Rail-good -/

/-- A VL sample in rail units (05_rail_tracking.md R108). -/
def State.railIn (s : State) (d : Nat) (y : Int) : Int :=
  let c : Coef := { m := s.reg (R.PRF_INM.at d), s := BitVec.ofNat 5 (s.get (R.PRF_INS.V d)) }
  clampI 0 4294967295 (rndRaw (coefMul c y))

/-- Rail-good: the audio loops run, and the up-ramp begins unless a mute request is in force (11 R254, R255). -/
def State.railGoodNow (s : State) (d : Nat) : State :=
  let s1 := (s.modDom d fun x => { x with railGood := true }).setRun d 0xF
  if s1.muteReq d then s1 else s1.startRamp d false

/-- A hand-on of VL in PRECHARGE counts towards rail-good, or restarts the count (11 R254). -/
def State.railCheck (s : State) (d : Nat) (missing : Bool) (y pos : Int) : State :=
  let x := s.dom d
  if x.dst = .precharge ∧ x.awake ∧ ¬ x.railGood then
    let tol : Int := (s.get R.SYS_DCFG.PRETOL * 4 * 65536 : Nat)
    let ok := !missing && decide (((s.railIn d y - pos).natAbs : Int) ≤ tol)
    let n := if ok then x.railCnt + 1 else 0
    let s1 := s.modDom d fun z => { z with railCnt := n }
    if 4 ≤ n then s1.railGoodNow d else s1
  else s

/-! ### Update and miss -/

/-- The output of an update is handed on: to the edge fabric, or to the selector which returns ua (03 R60, R72; 04 R88, R89, R100). -/
def State.handOn (s : State) (d j : Nat) (k : Kern) : State × Int :=
  let ln := loopNo d j
  let deg := s.degraded d j
  let first := !(s.loop ln).handed
  let s1 := s.modLoop ln fun l =>
    { l with handed := true, uLast := if deg && decide (4 ≤ j) then l.uLast else k.u }
  if j < 4 then (s1.armDuty d j k.d k.sgn, k.u)
  else if j < 8 then
    let s2 := s1.selEval d
    (s2, s2.winner d)
  else if deg then
    if first then (s1, (s.loop ln).heldU) else (s1.armDuty d j (s.loop ln).heldD 0, (s.loop ln).heldU)
  else (s1.armDuty d j k.d 0, k.u)

/-- The flags and entries 11 to 14 that an update leaves (03 R59, R68). -/
def State.updateFlags (s : State) (d j : Nat) (k : Kern) : State :=
  let s1 := s.satFlags d j k.rsat k.asat
  let s2 := if k.clamped then s1.setI (R.LFC_CLAMP.CLAMP d) j true else s1
  s2.modLoop (loopNo d j) fun l => { l with e := k.e, r := l.rS, g := k.g, d := k.d }

/-- The update of the open sample from its start on, the loop not faulting in it (03 R59, R72, R77; 04 R92, R102, R104). -/
def State.finishUpdate (s : State) (d j : Nat) (lost : Bool) (k : Kern) : State :=
  let ln := loopNo d j
  let l := s.loop ln
  let li := l.x.getD (s.get (R.LFC_LDCFG.LDI d)) 0
  let f := ffSample (s.bankEff d j l.bank) j l.fRail l.fBat
  let s1 := s.updateFlags d j k
  let s2 := if j < 4 then s1.zSample d j lost lost l.y li else s1
  let s3 := if j < 4 ∧ ¬ lost ∧ ¬ s.degraded d j then s2.ldSample d j l.y li else s2
  let h := s3.handOn d j k
  let s4 := h.1.modLoop ln fun x => { x with uApp := h.2, blank := x.blank - 1 }
  let s5 := if j = 4 then s4.railCheck d lost l.y l.posS else s4
  s5.pushJob d j
    { v := k.v, q1 := k.q1, q2 := k.q2, ua := h.2, r := l.rS, f := f, e := k.e, clamped := k.clamped || s.laneOvr d j,
      missed := false, bank := l.bank }

/-- The update of the open sample of loop j, the entries it reads without a double-bit error (03 R59, R61, R77; 04 R92 to R101). While
protection controls a gate of the lane, the sample is blanked and the clamp counts as acting, which LFC_CLAMP does not show
(08_monitors_and_protection.md R192; log 78). -/
def State.updateWith (s : State) (d j : Nat) : State :=
  let ln := loopNo d j
  let s0 := s.modLoop ln fun l => if s.laneOvr d j then blanked (max l.blank 1) { l with missRun := 0 } else { l with missRun := 0 }
  let l := s0.loop ln
  let lost := !l.yHave || l.yMiss
  let deg := s.degraded d j
  let c := s.bankEff d j l.bank
  let f := ffSample c j l.fRail l.fBat
  let k0 := kernUpdate c l (lost || deg) f none
  if deg then
    let s1 := s0.degStep d j
    if s1.degOver d j then s1.loopFault d j 3
    else
      let k := if j < 4 then kernUpdate c l true f (some (s1.openLoopV d (s1.loop ln))) else k0
      s1.finishUpdate d j true k
  else
    let m := plSample (s.plEff d j) l lost k0.e
    let s1 := s0.modLoop ln fun _ => m.1
    if m.2 = 0 then s1.finishUpdate d j lost k0
    else
      let s2 := s1.trip d j m.2
      if 4 ≤ j ∧ s2.degOver d j then s2.loopFault d j 3
      else
        let k := if j < 4 then kernUpdate c l lost f (some (s2.openLoopV d (s2.loop ln))) else k0
        s2.finishUpdate d j lost k

/-- The update of the open sample of loop j: a double-bit error among the entries it reads faults the loop (03 R59, R70). -/
def State.update (s : State) (d j : Nat) : State :=
  let rd := s.kernRead d j (updReads (s.loop (loopNo d j)).bank)
  if rd.1 then rd.2 else rd.2.updateWith d j

/-- The limit of consecutive misses of a loop (03 R78). -/
def State.missLim (s : State) (d j : Nat) : Nat :=
  if j < 4 then s.get (R.LFC_MISSLIM.AUDLIM d) else s.get (R.LFC_MISSLIM.SUPLIM d)

/-- The counters and the event of a missed sample (03 R76, R77, R79). -/
def State.missCount (s : State) (d j : Nat) : State :=
  let ln := loopNo d j
  let n := (s.loop ln).missRun + 1
  let s1 := ((s.setB (R.LFC_STAT.MISS d) true).setI (R.LFC_STAT.MISSL d) j true).incSat (R.LFC_MISSCNT.TOTAL d)
  let s2 := if s1.get (R.LFC_MISSCNT.MAXRUN d) < n then s1.set (R.LFC_MISSCNT.MAXRUN d) (satN 0xFF n) else s1
  let s3 := s2.modLoop ln fun l => { l with missRun := n, missArm := true, blank := l.blank - 1 }
  s3.raise 0x0301 1 (le 1 ln ++ le 1 (satN 255 n) ++ le 3 (s3.get (R.LFC_MISSCNT.TOTAL d)))

/-- A missed sample at the lost-feedback monitor: one that is missing under R61 too counts, as R101 has such a sample trip a monitor;
whether it tripped, and the state (04 R92, R95, R97, R101; log 74). -/
def State.missLost (s : State) (d j : Nat) (lost : Bool) : Bool × State :=
  let ln := loopNo d j
  if lost && !s.degraded d j then
    let m := plSample (s.plEff d j) (s.loop ln) true 0
    let s1 := s.modLoop ln fun _ => m.1
    if m.2 = 0 then (false, s1) else (true, s1.trip d j m.2)
  else (false, s)

/-- What is left of a missed sample of a loop that does not fault in it (03 R60, R76; 04 R88, R99, R100, R102, R104). The pre-sample value
of a state is the one that the state memory holds at the miss decision (log 75). -/
def State.missRest (s : State) (d j : Nat) (lost wasDeg : Bool) : State :=
  let ln := loopNo d j
  let l := s.loop ln
  let li := l.x.getD (s.get (R.LFC_LDCFG.LDI d)) 0
  let s2 := if wasDeg then s.degStep d j else s
  let s3 := if j < 4 then s2.zSample d j lost true l.y li else s2
  let s3' := if j < 4 ∧ ¬ lost ∧ ¬ wasDeg then s3.ldSample d j l.y li else s3
  let s4 := s3'.selTrig d j
  let ua := if 4 ≤ j ∧ j < 8 then s4.winner d else if s.degraded d j && decide (8 ≤ j) then l.heldU else l.uApp
  let s5 := s4.modLoop ln fun x => { x with uApp := ua }
  let s6 := if j = 4 then s5.modDom d fun x => { x with railCnt := 0 } else s5
  s6.pushJob d j
    { v := 0, q1 := 0, q2 := 0, ua := ua, r := l.rS, f := ffSample (s.bankEff d j l.bank) j l.fRail l.fBat, e := 0,
      clamped := false, missed := true, bank := l.bank
      fc := if l.jobQ.length ≤ 1 then none else some (l.fRail, l.fBat) }

/-- The open sample of loop j misses its deadline (03 R60, R73, R76, R78; 04 R88, R92, R99 to R102, R104). -/
def State.miss (s : State) (d j : Nat) : State :=
  let ln := loopNo d j
  let lost := !(s.loop ln).yHave || (s.loop ln).yMiss
  let wasDeg := s.degraded d j
  let m := (s.missCount d j).missLost d j lost
  if s.missLim d j < (m.2.loop ln).missRun then m.2.loopFault d j 1
  else if m.1 ∧ 4 ≤ j ∧ m.2.degOver d j then m.2.loopFault d j 3
  else m.2.missRest d j lost wasDeg

/-! ### References, banks, swaps -/

/-- A write to LFC_REFk (03 R63). -/
def State.refWriteK (s : State) (d k : Nat) (w : Word) : State :=
  let ln := loopNo d k
  let s1 := s.setReg (R.LFC_REF.at d k) w
  let s2 := if (s.loop ln).rNew.isSome then s1.setB (R.LFC_STAT.REFOVW d) true else s1
  s2.modLoop ln fun l => { l with rNew := some (s32 w) }

/-- The feed instant of one channel: the next interval, or a hold (03 R63, R79). -/
def State.feedK (s : State) (d k : Nat) : State :=
  let ln := loopNo d k
  let l := s.loop ln
  match l.rNew with
  | some v => s.modLoop ln fun x => { x with ra := x.rk, rk := v, rNew := none, tk := s.now, late := false }
  | none =>
    let s1 := s.modLoop ln fun x => { x with ra := x.rk, tk := s.now, late := s.running d k }
    if s.running d k then
      let s2 := s1.setB (R.LFC_STAT.REFLATE d) true
      if l.late then s2 else s2.raise 0x0305 1 (le 1 ln ++ le 1 k ++ le 3 s.now)
    else s1

/-- A swap request for one loop. With an unusable inactive bank nothing happens, SWPDUP included, also where a swap is pending
(03 R81, R82; log 72). -/
def State.swapLoop (s : State) (d j : Nat) (t : Option Nat) : State :=
  let ln := loopNo d j
  let inact := !s.actBank d j
  if (s.loop ln).bankBad.getLsbD (b2n inact) then s
  else if !s.running d j then s.setI (R.LFC_BANK.ACT d) j inact
  else if s.bitI (R.LFC_BANK.PEND d) j then s.setB (R.LFC_STAT.SWPDUP d) true
  else (s.setI (R.LFC_BANK.PEND d) j true).modLoop ln fun l => { l with swapT := t }

/-- A write to LFC_SWAP (03 R81, R82). -/
def State.swapWrite (s : State) (d mask : Nat) (group : Bool) : State :=
  let t := if group then some (s.swapBoundary d s.now) else none
  (List.range 12).foldl (fun u j => if mask.testBit j then u.swapLoop d j t else u) s

/-- What LFC_CIDX selects: space, loop slot, entry (03 R69, R84). -/
def State.cidx (s : State) (d : Nat) : Nat × Nat × Nat :=
  (s.get (R.LFC_CIDX.SPACE d), s.get (R.LFC_CIDX.LOOP d), s.get (R.LFC_CIDX.ENTRY d))

/-- A selection that names an entry (03 R84). -/
def State.cidxOk (s : State) (d : Nat) : Bool :=
  let c := s.cidx d
  decide (c.1 < 3) && decide (c.2.1 < 12) && decide (c.2.2 < 90)

/-- After an access to LFC_CS with AINC the entry increments (03 R69). -/
def State.cidxStep (s : State) (d : Nat) : State :=
  if s.bit (R.LFC_CIDX.AINC d) then
    let e := s.get (R.LFC_CIDX.ENTRY d)
    s.set (R.LFC_CIDX.ENTRY d) (if e = 89 then 0 else e + 1)
  else s

/-- A state-space entry (03 R68). -/
def stateEntry (l : Loop) (i : Nat) : Int :=
  if i < 6 then l.x.getD i 0
  else if i = 6 then l.s11 else if i = 7 then l.s21 else if i = 8 then l.s12 else if i = 9 then l.s22
  else if i = 10 then l.ua else if i = 11 then l.e else if i = 12 then l.r else if i = 13 then l.g
  else if i = 14 then l.d else 0

/-- A state-space entry written; entries 11 and above are not writable (03 R68). -/
def setStateEntry (l : Loop) (i : Nat) (v : Int) : Loop :=
  if i < 6 then { l with x := l.x.set i v }
  else if i = 6 then { l with s11 := v } else if i = 7 then { l with s21 := v } else if i = 8 then { l with s12 := v }
  else if i = 9 then { l with s22 := v } else if i = 10 then { l with ua := v } else l

/-- An unusable bank is rewritten from entry 0 to entry 89 and is usable again (03 R70). -/
def State.bankFillStep (s : State) (ln : Nat) (b : Bool) (i : Nat) : State :=
  s.modLoop ln fun l =>
    if l.bankBad.getLsbD (b2n b) then
      let n := tblGet (fun _ => 0) l.bankFill (b2n b)
      let n' := if i = n then n + 1 else if i = 0 then 1 else 0
      if n' = 90 then { l with bankBad := l.bankBad &&& ~~~(1#2 <<< b2n b), bankFill := tblErase l.bankFill (b2n b) }
      else { l with bankFill := tblSet (fun _ => 0) l.bankFill (b2n b) n' }
    else l

/-- The write that LFC_CS commits is an error of the host's own making: the active bank of a running loop, or a bank of a loop with a
pending swap (03 R80). -/
def State.csBad (s : State) (d : Nat) : Bool :=
  let c := s.cidx d
  decide (c.1 < 2) && s.running d c.2.1 && (s.bitI (R.LFC_BANK.PEND d) c.2.1 || (s.actBank d c.2.1 == decide (c.1 = 1)))

/-- The mantissa that an entry holds: the reserved bits of CFG read 0 (R67), an exception to R66's "exactly as written" (log 76). -/
def entryWord (i : Nat) (m : Word) : Word := if i = 89 then m &&& 0x7FC7#32 else m

/-- An entry of a bank written, with whatever error it had (03 R66, R67, R70). -/
def State.putCoef (s : State) (ln : Nat) (b : Bool) (i : Nat) (c : Coef) : State :=
  ((s.setCoef ln b i { c with m := entryWord i c.m }).setLfcErr ln (b2n b) i 0).bankFillStep ln b i

/-- An entry of a space written: mantissa and shift (03 R66 to R70). -/
def State.putEntry (s : State) (d : Nat) (c : Nat × Nat × Nat) (m : Word) (sh : BitVec 5) : State :=
  let ln := loopNo d c.2.1
  if c.1 < 2 then s.putCoef ln (decide (c.1 = 1)) c.2.2 { m := m, s := sh }
  else if s.running d c.2.1 ∨ 11 ≤ c.2.2 then s
  else (s.setLfcErr ln 2 c.2.2 0).modLoop ln fun l => setStateEntry l c.2.2 (s32 m)

/-- A write to LFC_CS commits the holding register and the shift to the selected entry (03 R68, R69, R70). -/
def State.csWrite (s : State) (d : Nat) (w : Word) : State :=
  (s.putEntry d (s.cidx d) (s.dom d).cmHold (w.setWidth 5)).cidxStep d

/-- Some entry of the cluster: a free choice. -/
def State.freeCidx (s : State) (d : Nat) : Nat × Nat × Nat :=
  let v := (s.freeWord (R.LFC_CIDX.at d)).toNat
  (v % 3, v / 3 % 12, v / 36 % 90)

/-- A write to LFC_CS that is an error of the host's own making: a free word with a free shift reaches the selected entry, or any
entry where the selection names none or two masters have mixed their sequences (00 R7; 03 R69, R80, R84; log 4). -/
def State.csWriteFree (s : State) (d : Nat) (mixed : Bool) : State :=
  let c := if s.cidxOk d && !mixed then s.cidx d else s.freeCidx d
  ((s.putEntry d c (s.freeWord (R.LFC_CM.at d)) ((s.freeWord (R.LFC_CS.at d)).setWidth 5)).cidxStep d).bump

/-- A write to LFC_CM loads the holding register (03 R69). -/
def State.cmWrite (s : State) (d : Nat) (w : Word) : State := s.modDom d fun x => { x with cmHold := w }

/-- The master of an indirect sequence: it wrote LFC_CIDX, and then LFC_CM (03 R69). -/
def State.ownIdx (s : State) (d m : Nat) : State := s.modDom d fun x => { x with cOwn := some m, mOwn := none }
def State.ownMant (s : State) (d m : Nat) : State := s.modDom d fun x => { x with mOwn := some m }

/-- An access to LFC_CS or a read of LFC_CM by a master in the middle of a sequence of another one (03 R69). -/
def State.mixed (s : State) (d m : Nat) : Bool :=
  let other := fun (o : Option Nat) => match o with
    | some k => k != m
    | none => false
  other (s.dom d).cOwn || other (s.dom d).mOwn

/-- A read of the selected entry through the register port finds the error it has (03 R70). -/
def State.portFind (s : State) (d : Nat) : State :=
  let c := s.cidx d
  s.lfcFind d c.2.1 c.1 c.2.2 (s.lfcErr (loopNo d c.2.1) c.1 c.2.2) false

/-- The selected entry as LFC_CM and LFC_CS read it; the contents of an entry with a double-bit error are free (03 R69, R70; log 69). -/
def State.cRead (s : State) (d : Nat) : Word × Word :=
  let c := s.cidx d
  if s.lfcErr (loopNo d c.2.1) c.1 c.2.2 = 2 then
    (s.freeWord (R.LFC_CM.at d), s.freeWord (R.LFC_CS.at d) &&& (if c.1 < 2 then 0x1F#32 else 0#32))
  else if c.1 < 2 then
    let k := s.coef (loopNo d c.2.1) (decide (c.1 = 1)) c.2.2
    (k.m, k.s.setWidth 32)
  else (w32 (stateEntry (s.loop (loopNo d c.2.1)) c.2.2), 0)

end Sys2Proof.Machine
end

