-- ==== Sys2Proof/Machine/Edge.lean ====
section
/-! DEFINITION. The commands of the edge fabric and the phase manager (06_edges_and_phases.md R128 to R145). -/

namespace Sys2Proof.Machine

/-! ### Phase manager -/

/-- Phase manager settings that are an error of the host's own making (06 R139). -/
def State.phSetBad (s : State) (d : Nat) : Bool :=
  let m := s.get (R.PWM_PHASES.MINPH d)
  m == 0 || decide (4 < m) || decide (s.getS (R.PWM_IADD.V d) ≤ 0) || decide (s.getS (R.PWM_IADD.V d) < s.getS (R.PWM_ISHED.V d))

/-- The predicted current (06 R139). -/
def State.ipred (s : State) (d : Nat) : Nat :=
  let dem := (s.prf d).dem
  min (s.get ⟨R.PWM_IQ.at d, 31, 0⟩ + s.get ⟨R.PWM_IGM.at d, 31, 0⟩ * dem * dem / 2 ^ s.get (R.PWM_CFG.IGS d)) 0xFFFFFFFF

/-- The number of phases needed for a current, from n on while fewer than avail (06 R139). -/
def needFrom (iadd dtot avail : Nat) : Nat → Nat → Nat
  | 0, n => n
  | k + 1, n => if n < avail ∧ n * iadd < dtot then needFrom iadd dtot avail k (n + 1) else n

/-- Data bytes of the events 0x0502 and 0x0503 (06 R154). -/
def State.phaseData (s : State) (d before after : Nat) : List Byte :=
  le 1 d ++ le 1 before ++ le 1 after ++ le 2 (s.get ⟨R.PWM_IPRED.at d, 31, 0⟩ / 65536)

/-- One phase starts again or anew: a pending stop is cancelled, else its loop's states clear, it starts softly, and its
RUN bit sets when the drivers are awake (06 R140 to R142). -/
def State.phaseStart (s : State) (d p : Nat) : State :=
  if (s.phase d p).stopPend then s.modPhase d p fun x => { x with stopPend := false }
  else
    let s1 := s.modLoop (loopNo d (8 + p)) fun l => setClear l
    let s2 := (s1.modPhase d p fun x => { x with soft := true, softK := 0 }).setI (R.PWM_PHASES.SOFT d) p true
    if (s.dom d).awake then s2.setRun d (2 ^ (8 + p)) else s2
where
  /-- Entries 0 to 10 cleared (03 R68). -/
  setClear (l : Loop) : Loop := { l with x := [0, 0, 0, 0, 0, 0], s11 := 0, s21 := 0, s12 := 0, s22 := 0, ua := 0 }

/-- Phases added to the active set; event 0x0502 (06 R140, R141, R154). -/
def State.addPhases (s : State) (d : Nat) (ps : List Nat) : State :=
  let act := s.get (R.PWM_PHASES.ACT d)
  let act' := ps.foldl (fun m p => setBit m p true) act
  let s1 := (ps.foldl (fun t p => t.phaseStart d p) s).setActive d act'
  s1.raise 0x0502 0 (s1.phaseData d act act')

/-- Phases shed from the active set: they stop at their next half-cycle start; event 0x0503 (06 R140, R142, R154). -/
def State.shedPhases (s : State) (d : Nat) (ps : List Nat) : State :=
  let act := s.get (R.PWM_PHASES.ACT d)
  let act' := ps.foldl (fun m p => setBit m p false) act
  let s1 := (ps.foldl (fun t p => t.modPhase d p fun x => { x with stopPend := true }) s).setActive d act'
  s1.raise 0x0503 0 (s1.phaseData d act act')

/-- The active phases that may be shed: those whose loop is not degraded (06 R140, R144). -/
def State.sheddable (s : State) (d : Nat) (ps : List Nat) : List Nat := ps.filter fun p => !s.degraded d (8 + p)

/-- The evaluation in CRANK (06 R144). -/
def State.crankShed (s : State) (d nmin : Nat) : State :=
  let ps := s.sheddable d ((phaseRanks (s.get (R.PWM_PHASES.ACT d))).drop nmin)
  if ps = [] then s else s.shedPhases d ps

/-- The shed condition held once more (06 R140). -/
def State.countShed (s : State) (d : Nat) : State :=
  let dw := max (s.get (R.PWM_PHASES.DWELL d)) 1
  let n := (s.dom d).shedCnt + 1
  if n < dw then s.modDom d fun x => { x with shedCnt := n }
  else
    match (s.sheddable d (phaseRanks (s.get (R.PWM_PHASES.ACT d)))).getLast? with
    | some p => s.shedPhases d [p]
    | none => s.modDom d fun x => { x with shedCnt := dw }

/-- One evaluation of the phase manager (06 R139, R140, R144). -/
def State.phaseEval (s : State) (d : Nat) : State :=
  let ip := s.ipred d
  let s1 := s.setReg (R.PWM_IPRED.at d) (BitVec.ofNat 32 ip)
  let act := s.get (R.PWM_PHASES.ACT d)
  let n := popN 4 act
  let avail := s.nAvail d
  let nmin := min (s.get (R.PWM_PHASES.MINPH d)) avail
  let dtot := max ip (n * (max (s.winner d) 0).toNat)
  if s.sys.mode = .crank then s1.crankShed d nmin
  else
    let need := needFrom (s.get ⟨R.PWM_IADD.at d, 31, 0⟩) dtot avail 4 nmin
    if n < need then
      let en := s.get (R.PWM_PHASES.PHEN d)
      let fl := s.get (R.PWM_PHASES.FLTP d)
      let ps := (phaseRanks en).filter fun p => !act.testBit p && !fl.testBit p
      s1.addPhases d (ps.take (need - n))
    else if nmin < n ∧ (dtot : Int) < (n - 1 : Nat) * s.getS ⟨R.PWM_ISHED.at d, 31, 0⟩ then s1.countShed d
    else s1.modDom d fun x => { x with shedCnt := 0 }

/-- PHASE_EVALUATION, once the planner has started (06 R139, R140). -/
def execPhaseEvaluation (d : Fin 4) (s : State) : Host.Outcome State Fault Refusal :=
  .next (if s.coreRuns && dstRuns (s.dom d).dst && (s.prf d).started then
    (s.underSettings (s.phSetBad d) [R.PWM_PHASES.MINPH d, R.PWM_IADD.V d, R.PWM_ISHED.V d] fun t => t.phaseEval d).settle else s)

/-! ### Audio lanes -/

/-- The carriers of a domain run (06 R129). -/
def State.carriers (s : State) (d : Nat) : Bool := s.coreRuns && dstRuns (s.dom d).dst

/-- The level a gate is asked for by the edge fabric. -/
def State.setFab (s : State) (d g : Nat) (b : Bool) : State := s.setBall d g { s.ball d g with fab := b }

/-- Both gates of an audio lane asked for at their safe levels (06 R135, R136). -/
def State.laneSafe (s : State) (d k : Nat) : State :=
  (s.setFab d (8 + 2 * k) (s.safeLevel d (8 + 2 * k))).setFab d (9 + 2 * k) (s.safeLevel d (9 + 2 * k))

/-- The armed edges of a lane are installed; a half-bridge without an earlier edge starts at the level before its edge (06 R130, R135). -/
def State.install (s : State) (d k : Nat) (ep en : Edge) : State :=
  let l := s.lane (4 * d + k)
  let s1 := if l.pendP.isEmpty then s.setFab d (8 + 2 * k) (!ep.rise) else s
  let s2 := if l.pendN.isEmpty then s1.setFab d (9 + 2 * k) (!en.rise) else s1
  s2.modLane (4 * d + k) fun x => { x with armed := none, pendP := x.pendP ++ [ep], pendN := x.pendN ++ [en] }

/-- The edge update of channel k of domain d: a lane whose loop does not run sits at its safe levels, a faulted one as well, on which
protection acts in the tick of the fault (06 R135, R136; 08 R185, R188). -/
def State.edgeUpdate (s : State) (d k : Nat) : State :=
  let l := s.lane (4 * d + k)
  if s.running d k then
    match l.armed with
    | some e => s.install d k e.1 e.2
    | none => if l.duty.isNone && l.pendP.isEmpty && l.pendN.isEmpty then s.laneSafe d k else s
  else (s.laneSafe d k).modLane (4 * d + k) fun _ => {}

/-- EDGE_UPDATE of channel c: the armed edges are installed, or the gates sit at their safe levels (06 R135). -/
def execEdgeUpdate (c : Fin 16) (s : State) : Host.Outcome State Fault Refusal :=
  .next (if s.carriers (c.val / 4) then (s.edgeUpdate (c.val / 4) (c.val % 4)).refreshBalls else s)

/-- A set is to be formed from the last duty: the sample of a running loop missed its deadline (06 R135). -/
def State.rearms (s : State) (d j : Nat) : Bool :=
  s.carriers d && (decide (j < 4) || decide (8 ≤ j)) && s.running d j && (s.loop (loopNo d j)).missArm

/-- MISSED_EDGE_ARM: a set formed from the last duty and sign (06 R135). -/
def execMissedEdgeArm (d : Fin 4) (j : Fin 12) (s : State) : Host.Outcome State Fault Refusal :=
  .next (if s.rearms d j then (s.armLast d j).modLoop (loopNo d j) fun l => { l with missArm := false } else s)

/-- The next installed edge of an audio gate, and the lane without it. -/
def popEdge (l : Lane) (isP : Bool) : Option (Edge × Lane) :=
  if isP then
    match l.pendP with
    | [] => none
    | e :: t => some (e, { l with pendP := t })
  else
    match l.pendN with
    | [] => none
    | e :: t => some (e, { l with pendN := t })

/-- An edge of gate g reaches its time: the next edge of an audio gate, the end of the pulse of a supply gate (06 R130, R137). -/
def State.gateEdge (s : State) (d g : Nat) : State :=
  if g < 8 then
    let x := s.phase d (g / 2)
    if x.pulsing ∧ (s.ball d g).fab then (s.setFab d g false).modPhase d (g / 2) fun y => { y with pulsing := false } else s
  else
    let k := (g - 8) / 2
    match popEdge (s.lane (4 * d + k)) (g % 2 == 0) with
    | some e => (s.modLane (4 * d + k) fun _ => e.2).setFab d g e.1.rise
    | none => s

/-- GATE_EDGE (06 R130, R135, R137). -/
def execGateEdge (d : Fin 4) (g : Fin 16) (s : State) : Host.Outcome State Fault Refusal :=
  .next (if s.carriers d then (s.gateEdge d g).refreshBalls else s)

/-! ### Supply phases -/

/-- The glide step of a half-cycle: the shorter way to the target, at most GLD (06 R143). -/
def glideStep (theta target : Int) (turn gld : Nat) : Int :=
  let r := (target - theta) % (turn : Int)
  let r' := if 2 * r ≤ (turn : Int) then r else r - turn
  if r' < 0 then -(min (-r') (gld : Int)) else min r' (gld : Int)

/-- Ticks in width units of the domain (06 R137). -/
def State.inUnits (s : State) (d t : Nat) : Int := ((t * 16 / s.widthUnit d : Nat) : Int)

/-- The width of a half-cycle of length lh taps by steps 2 to 5 of R137: balance, envelope, gap, skip. -/
def State.applyWidth (s : State) (d p : Nat) (y lh : Int) : State × Int :=
  let x := s.phase d p
  let dw := s.inUnits d (s.get (R.PWM_STIM.DWMAX d))
  let w1 := clampI (x.wo - dw) (x.wo + dw) y
  let s1 := if w1 = y then s else s.setB (R.PWM_STAT.BALCLP d) true
  let w2 := if x.soft then min w1 (s.inUnits d ((x.softK + 1) * s.get (R.PWM_SPH.SSTEP d))) else w1
  let cap := (lh - 16 * (s.get (R.PWM_STIM.GAP d) : Int)) / (s.widthUnit d : Int)
  let w3 := min w2 cap
  let s2 := if w3 = w2 then s1 else s1.setB (R.PWM_STAT.WCLP d) true
  if w3 < s.inUnits d (s.get (R.PWM_STIM.SMIN d)) then (s2.setB (R.PWM_STAT.SKIP d) true, 0) else (s2, w3)

/-- The output y that a half-cycle start uses: the armed width, or the previous duty again with REUSE (06 R138). -/
def State.startWidth (s : State) (d p : Nat) (duty : Int) : State × Int :=
  let x := s.phase d p
  match x.fresh, x.armed with
  | true, some y => (s, y)
  | _, _ => ((s.formWidth d p duty).1.setB (R.PWM_STAT.REUSE d) true, (s.formWidth d p duty).2)

/-- The soft start of a phase after one more half-cycle: it ends when the envelope reaches Hs (06 R141). -/
def State.softStep (s : State) (d p : Nat) : State :=
  let x := s.phase d p
  if x.soft then
    let s1 := s.modPhase d p fun y => { y with softK := y.softK + 1 }
    if s.supplyH d ≤ (x.softK + 1) * s.get (R.PWM_SPH.SSTEP d) then
      (s1.modPhase d p fun y => { y with soft := false, softK := 0 }).setI (R.PWM_PHASES.SOFT d) p false
    else s1
  else s

/-- The pulse of a half-cycle that starts now: one output is driven for the width, the other stays low (06 R137). -/
def State.pulse (s : State) (d p : Nat) (w : Int) : State :=
  let x := s.phase d p
  let g := 2 * p + b2n x.sideB
  let s1 := s.phaseLow d p
  let s2 := if 0 < w then s1.setFab d g true else s1
  s2.modPhase d p fun y => { y with wo := w, fresh := false, pulsing := decide (0 < w), endAt := y.startAt + w * s.widthUnit d }

/-- The glide of an active phase at a half-cycle start, and the length of the half-cycle in taps (06 R143). -/
def State.glide (s : State) (d p : Nat) : State × Int :=
  let hs := s.supplyH d
  let x := s.phase d p
  let step := if s.bitI (R.PWM_PHASES.ACT d) p then glideStep x.theta x.target (16 * hs) (16 * s.get (R.PWM_SPH.GLD d)) else 0
  let away := s.bitI (R.PWM_PHASES.ACT d) p && decide (x.theta ≠ x.target)
  let s1 := s.modPhase d p fun y => { y with theta := (y.theta + step) % (16 * hs : Nat), glid := away }
  (s1.showGlide d, 16 * hs + step)

/-- The half-cycle that starts carries a pulse, or both outputs stay low (06 R135, R136, R137). -/
def State.halfPulse (s : State) (d p : Nat) (lh : Int) : State :=
  match s.running d (8 + p), (s.phase d p).duty with
  | true, some duty =>
    let a := s.startWidth d p duty
    let b := a.1.applyWidth d p a.2 lh
    (b.1.softStep d p).pulse d p b.2
  | _, _ => (s.phaseLow d p).modPhase d p fun y => { y with wo := 0, fresh := false, pulsing := false }

/-- A pending stop takes effect: RUN clears, the outputs sit at their safe levels (06 R142). -/
def State.phaseStop (s : State) (d p : Nat) : State :=
  if (s.phase d p).stopPend then
    ((s.clearRun d (2 ^ (8 + p))).modPhase d p fun y => { y with stopPend := false, soft := false, softK := 0 }).setI
      (R.PWM_PHASES.SOFT d) p false
  else s

/-- A half-cycle of phase p starts (06 R128, R137, R138, R141 to R143). -/
def State.halfCycle (s : State) (d p : Nat) : State :=
  let a := (s.phaseStop d p).glide d p
  (a.1.halfPulse d p a.2).modPhase d p fun y => { y with sideB := !y.sideB, startAt := y.startAt + a.2 }

/-- Gap, glide and least pulse that a half-cycle cannot hold: an error of the host's own making (06 R137). -/
def State.supplyBad (s : State) (d : Nat) : Bool :=
  decide (s.supplyH d < s.get (R.PWM_STIM.GAP d) + s.get (R.PWM_SPH.GLD d) + s.get (R.PWM_STIM.SMIN d))

/-- HALF_CYCLE_START (06 R137). -/
def execHalfCycleStart (d p : Fin 4) (s : State) : Host.Outcome State Fault Refusal :=
  .next (if s.carriers d then
    (s.underSettings (s.supplyBad d) [R.PWM_STIM.GAP d, R.PWM_SPH.GLD d, R.PWM_STIM.SMIN d] fun t => t.halfCycle d p).refreshBalls
    else s)

end Sys2Proof.Machine
end

