-- ==== Sys2Proof/Machine/Flowstone.lean ====
section
/-! DEFINITION. The commands of Drip and Flowstone (15_drip_and_flowstone.md R323 to R344). -/

namespace Sys2Proof.Machine

/-! ### Drip -/

/-- DRP_KICK: one word of a service registers (15 R325, R326). -/
def execDrpKick (word : Word) (s : State) : Host.Outcome State Fault Refusal :=
  .next (if s.coreRuns then (s.dripWrite word.toNat).settle else s)

/-- The count at which Drip expires: 64 TMAX + 1, or 4 194 304 in the start regime (15 R326, R327). -/
def State.dripLimit (s : State) : Nat :=
  if s.bit R.DRP_STAT.START then 4194304 else 64 * s.get R.DRP_WIN.TMAX + 1

/-- DRIP_EXPIRE: C reaches its limit without a cycle end (15 R326, R327, R331). -/
def execDripExpire (s : State) : Host.Outcome State Fault Refusal :=
  .next (if s.coreRuns && s.fls.dripOn then ((s.set R.DRP_CNT.C s.dripLimit).dripExpireNow 0).settle else s)

/-- DRIP_CLOCK_STOP: a watched clock has shown no edge for 8 AON periods; CCLK / 384 is watched while it is the clock in force (15 R323, R324, R331). -/
def execDripClockStop (which : DripClock) (s : State) : Host.Outcome State Fault Refusal :=
  .next (
    let watched := match which with
      | .rc => true
      | .cclk => s.fls.csrc
    if s.coreRuns && s.fls.dripOn && watched then (s.dripExpireNow 1).settle else s)

/-- HOLD_DRIP_CYCLE: a second of HOLD with no copy accepted ends a cycle as good (15 R327). -/
def execHoldDripCycle (s : State) : Host.Outcome State Fault Refusal :=
  .next (if s.coreRuns ∧ s.sys.mode = .hold ∧ s.get R.IMG_STAT.COPY = 3 then s.dripMilestone else s)

/-! ### Raise to commit -/

/-- TOKEN_REFILL: the millisecond count of a bucket that is not full reaches P (15 R335). -/
def execTokenRefill (code : BitVec 16) (s : State) : Host.Outcome State Fault Refusal :=
  .next (
    let k := s.bucket code.toNat
    let bp := s.bucketDP code.toNat
    if s.coreRuns ∧ k.tok < bp.1 ∧ bp.2 ≠ 0 ∧ evtExempt code.toNat = false then
      s.setBucket code.toNat { k with tok := k.tok + 1, ms := 0 }
    else s)

/-- FLOWSTONE_COMMIT: the oldest staged record is committed (15 R337 to R340). -/
def execFlowstoneCommit (media : MediaOutcome) (s : State) : Host.Outcome State Fault Refusal :=
  .next (if s.commitReady then s.commitOldest media false else s)

/-- The newest SEQ among the records of a table (15 R341). -/
def newestSeq : Tbl Slot → Option (BitVec 32)
  | [] => none
  | (_, .rcd r) :: t =>
    match newestSeq t with
    | some q => some (seqMax r.seq q)
    | none => some r.seq
  | _ :: t => newestSeq t

/-- The newest SEQ found in both areas (15 R341). -/
def State.newestFound (s : State) : Option (BitVec 32) :=
  match newestSeq s.fls.main, newestSeq s.fls.tal with
  | some a, some b => some (seqMax a b)
  | some a, none => some a
  | none, b => b

/-- The counters as the start scan takes them (15 R341). -/
def State.scanCounters (s : State) : Counters :=
  match newestCopy s.fls.cntA s.fls.cntB with
  | some c =>
    { s.fls.cnt with
      nextSeq := match s.newestFound with
        | some q => seqMax c.nextSeq (q + 1)
        | none => c.nextSeq
      clrSeq := c.clrSeq }
  | none =>
    { nextSeq := match s.newestFound with
        | some q => q + 1
        | none => 1 }

/-- A slot that is not blank fails its CRC (15 R341). -/
def State.anyBad (s : State) : Bool :=
  s.fls.main.any (fun e => e.2 == .bad) || s.fls.tal.any (fun e => e.2 == .bad) ||
    s.fls.cntA.isNone || s.fls.cntB.isNone || s.fls.mapA.isNone || s.fls.mapB.isNone

/-- The start scan of R341: BADCRC, NEXTSEQ, DEGRADED with its events, READY, and STARTS where the scan follows a release. -/
def State.scanDone (s : State) : State :=
  let c := s.scanCounters
  let map := (s.fls.mapA.orElse fun _ => s.fls.mapB).getD []
  let s1 := if s.anyBad then s.setB R.FLS_STAT.BADCRC true else s
  let s2 := s1.modFls fun f =>
    { f with cnt := c, lastSeq := c.nextSeq - 1, retired := map, scanPend := false,
             cntNext := f.cntA.isSome && newestCopy f.cntA f.cntB == f.cntA }
  let s3 := (s2.set R.FLS_STAT.RETCNT (satN 255 map.length)).setB R.FLS_STAT.DEGRADED false
  let s4 := if s.fls.mapA.isNone && s.fls.mapB.isNone then s3.degrade 2 34 c.nextSeq else s3
  let s5 := if s.fls.cntA.isNone && s.fls.cntB.isNone then s4.degrade 3 32 c.nextSeq else s4
  let s6 := s5.setB R.FLS_STAT.READY true
  if s.fls.scanStart then s6.countStart else s6

/-- FLOWSTONE_SCAN_DONE (15 R341). -/
def execFlowstoneScanDone (s : State) : Host.Outcome State Fault Refusal :=
  .next (if s.fls.scanPend && s.pwr.vauxGood then s.scanDone else s)

/-! ### Clearing -/

/-- A request to clear: accepted in SERVICE or HOLD, refused with CLRREJ elsewhere (15 R344). -/
def State.clearRequest (s : State) (tester : Bool) : State :=
  if s.sys.mode = .service ∨ s.sys.mode = .hold then
    if s.bit R.FLS_STAT.CLRPEND then s
    else (s.setB R.FLS_STAT.CLRPEND true).modFls fun f => { f with clrTester := tester }
  else s.setB R.FLS_STAT.CLRREJ true

/-- FLS_CLEAR: a write of 1 to FLS_CTL.CLEAR (15 R344). -/
def execFlsClear (tester : Bool) (s : State) : Host.Outcome State Fault Refusal :=
  .next (if s.coreRuns then s.clearRequest tester else s)

/-- Records at or before CLRSEQ leave an area (15 R344). -/
def clearSlots (clr : BitVec 32) (low : Nat) (t : Tbl Slot) : Tbl Slot :=
  t.filter fun e => match e.2 with
    | .rcd r => decide (e.1 < low) || !seqLe r.seq clr
    | _ => true

/-- The record of a clear (15 R344, R347). -/
def State.clearRec (s : State) (clr : BitVec 32) : FRec :=
  { ts := BitVec.ofNat 48 s.now, code := 0x0B61, src := BitVec.ofNat 6 (evtSource 0x0B61),
    data := data12 (le 1 (b2n s.fls.clrTester) ++ le 4 clr.toNat) }

/-- An accepted clear takes effect, and its record is committed before any staged one (15 R344). -/
def State.clearNow (s : State) : State :=
  let clr := s.fls.cnt.nextSeq - 1
  let s1 := (s.modFls fun f =>
    { f with cnt := { f.cnt with clrSeq := clr }, mirror := [], main := clearSlots clr 0 f.main, tal := clearSlots clr 64 f.tal }).writeCounters
  let s2 := if (s.evtEntry 0x0B61).any (fun e => e.dis) then s1 else s1.commitRec (s.clearRec clr) .good
  ((s2.setB R.FLS_STAT.CLRPEND false).modFls fun f => { f with clrTester := false }).clearAnswered

/-- CLEAR_TAKES_EFFECT (15 R344). -/
def execClearTakesEffect (s : State) : Host.Outcome State Fault Refusal :=
  .next (if s.bit R.FLS_STAT.CLRPEND && s.commitReady then s.clearNow else s)

/-! ### Reading -/

/-- The number of slots of an area (15 R342). -/
def areaSlots (area : Nat) : Nat :=
  if area = 0 then 7168 else if area = 1 then 1024 else if area = 2 then 64 else 0

/-- A word of FLS_CURSOR that names a slot; others are a host error (15 R342). -/
def cursorOk (w : Word) : Bool := decide (fldOf w R.FLS_CURSOR.SLOT < areaSlots (fldOf w R.FLS_CURSOR.AREA))

/-- A write to FLS_CURSOR starts a copy (15 R342). -/
def State.cursorWrite (s : State) (w : Word) : State :=
  ((s.plainWrite R.FLS_CURSOR.at w).setB R.FLS_CURSOR.RDY false).modFls fun f => { f with copyPend := true }

/-- A word with an area and a slot that exist in place of those of w, taken from a free word (15 R342; log 4). -/
def cursorFix (w fw : Word) : Word :=
  let area := fldOf fw R.FLS_CURSOR.AREA % 3
  fldPut (fldPut w R.FLS_CURSOR.AREA area) R.FLS_CURSOR.SLOT (fldOf fw R.FLS_CURSOR.SLOT % areaSlots area)

/-- FLS_CURSOR_WRITE: a word that names no slot copies a slot of the block's choice (15 R342; log 4). -/
def execFlsCursorWrite (word : Word) (s : State) : Host.Outcome State Fault Refusal :=
  .next (if s.coreRuns then
    s.served (!cursorOk word) R.FLS_CURSOR.at word (cursorFix word) State.cursorWrite
  else s)

/-- What a slot reads as: its state and its bytes; none where its bytes are not known (15 R342). -/
def slotRead (clr : Option (BitVec 32)) : Slot → Nat × Option (List Byte)
  | .blank => (1, some [])
  | .bad => (2, none)
  | .rcd r =>
    match clr with
    | some c => if seqLe r.seq c then (1, some []) else (0, some (recBytes r))
    | none => (0, some (recBytes r))

/-- What a slot of an area reads as (15 R339, R342). -/
def State.areaRead (s : State) (area slot : Nat) : Nat × Option (List Byte) :=
  let f := s.fls
  if area = 0 then
    if s.blockRetired slot then (3, some []) else slotRead (some f.cnt.clrSeq) (tblGet (fun _ => .blank) f.main slot)
  else if area = 1 then
    if slot < 32 then slotRead none (tblGet (fun _ => .blank) f.tal slot)
    else if slot = 32 then (match f.cntA with | some c => (0, some (cntBytes c)) | none => (2, none))
    else if slot = 33 then (match f.cntB with | some c => (0, some (cntBytes c)) | none => (2, none))
    else if slot = 34 then (match f.mapA with | some m => (0, some (mapBytes m)) | none => (2, none))
    else if slot = 35 then (match f.mapB with | some m => (0, some (mapBytes m)) | none => (2, none))
    else if slot < 64 then (1, some [])
    else slotRead (some f.cnt.clrSeq) (tblGet (fun _ => .blank) f.tal slot)
  else match f.mirror[slot]? with
    | some r => (0, some (recBytes r))
    | none => (1, some [])

/-- FLS_DATA takes 32 bytes (15 R342). -/
def State.loadData (s : State) (l : List Byte) : State :=
  (List.range 8).foldl (fun t i => t.set (R.FLS_DATA.V i) (leVal ((l.drop (4 * i)).take 4))) s

/-- FLS_DATA takes contents that fail their CRC, whose bytes the spec does not give: free values (15 R342; log 8). -/
def State.loadFree (s : State) : State :=
  let s1 := (List.range 8).foldl (fun t i => t.setReg (R.FLS_DATA.at i) (Config.undefinedReg s.freeCtr (R.FLS_DATA.at i))) s
  { s1 with freeCtr := s.freeCtr + 1 }

/-- The copy ends: FLS_DATA holds the record, STATE tells what it is (15 R342). -/
def State.copyDone (s : State) : State :=
  let r := s.areaRead (s.get R.FLS_CURSOR.AREA) (s.get R.FLS_CURSOR.SLOT)
  let s1 := match r.2 with
    | some l => s.loadData l
    | none => s.loadFree
  ((s1.set R.FLS_CURSOR.STATE r.1).setB R.FLS_CURSOR.RDY true).modFls fun f => { f with copyPend := false }

/-- FLS_COPY_DONE (15 R342). -/
def execFlsCopyDone (s : State) : Host.Outcome State Fault Refusal :=
  .next (if s.fls.copyPend && s.coreRuns then s.copyDone else s)

/-- A read of FLS_DATA7: with AINC the slot advances and the next copy starts (15 R342). -/
def State.data7Read (s : State) : State :=
  if s.bit R.FLS_CURSOR.AINC then
    let n := areaSlots (s.get R.FLS_CURSOR.AREA)
    let k := s.get R.FLS_CURSOR.SLOT + 1
    ((s.set R.FLS_CURSOR.SLOT (if n ≤ k then 0 else k)).setB R.FLS_CURSOR.RDY false).modFls fun f => { f with copyPend := true }
  else s

/-- FLS_DATA7_READ (15 R342). -/
def execFlsData7Read (s : State) : Host.Outcome State Fault Refusal := .next (if s.coreRuns then s.data7Read else s)

end Sys2Proof.Machine
end

