-- ==== Sys2Proof/Machine/Loops.lean ====
section
/-! DEFINITION. The commands of the loop clusters: samples, updates, misses, jobs, references, swaps, indirect access, scrub,
impedance measurement and load supervision (03_kareo_loop_fabric.md; 04_loop_nesting_and_plausibility.md). -/

namespace Sys2Proof.Machine

/-- SAMPLE_INSTANT: a running loop without an open sample opens one (03 R59, R62). -/
def execSampleInstant (d : Fin 4) (j : Fin 12) (s : State) : Host.Outcome State Fault Refusal :=
  .next (if s.coreRuns && s.running d j && !(s.loop (loopNo d j)).opn then s.openSample d j else s)

/-- The open sample of a loop can be updated (03 R60). -/
def State.canUpdate (s : State) (d j : Nat) : Bool :=
  s.coreRuns && s.running d j && (s.loop (loopNo d j)).opn && (s.loop (loopNo d j)).preReady

/-- The counter of free values advances where a loop worked with free settings (log 4). -/
def State.bumpIf (s : State) (b : Bool) : State := if b then s.bump else s

/-- LOOP_UPDATE: the open sample's update runs and hands on (03 R59, R60, R72; 04 R88 to R101). -/
def execLoopUpdate (d : Fin 4) (j : Fin 12) (s : State) : Host.Outcome State Fault Refusal :=
  .next (if s.canUpdate d j then ((s.update d j).bumpIf (s.loopBad d j)).settle else s)

/-- MISS_DECISION: a sample whose pre-sample stage is not ready at the deadline misses (03 R60, R76). -/
def execMissDecision (d : Fin 4) (j : Fin 12) (s : State) : Host.Outcome State Fault Refusal :=
  let l := s.loop (loopNo d j)
  .next (if s.coreRuns && s.running d j && l.opn && !l.preReady then (s.miss d j).settle else s)

/-- BACKGROUND_JOB: the array takes the released job of the earliest deadline (03 R74). -/
def execBackgroundJob (d : Fin 4) (s : State) : Host.Outcome State Fault Refusal :=
  .next (if s.coreRuns && (s.dom d).jobRun.isNone then
    match earliest (s.releasedJobs d) with
    | some b => s.modDom d fun x => { x with jobRun := some b.1 }
    | none => s
  else s)

/-- BACKGROUND_JOB_DONE: the job in the array ends (03 R59, R74). -/
def execBackgroundJobDone (d : Fin 4) (s : State) : Host.Outcome State Fault Refusal :=
  .next (match s.coreRuns, (s.dom d).jobRun with
    | true, some j => (((s.jobDone d j).bumpIf (s.loopBad d j)).modDom d fun x => { x with jobRun := none }).settle
    | _, _ => s)

/-- FEED_INSTANT: the four channels of the domain take their next interval (03 R63). Where LFC_FEED names no grid, which is an error of
the host's own making, the instants of the grid are free: the command comes when it comes (03 R84; log 4). -/
def execFeedInstant (d : Fin 4) (s : State) : Host.Outcome State Fault Refusal :=
  .next (if s.coreRuns then (List.range 4).foldl (fun t k => t.feedK d k) s else s)

/-- LFC_REF_WRITE (03 R63). -/
def execLfcRefWrite (d k : Fin 4) (word : Word) (s : State) : Host.Outcome State Fault Refusal :=
  .next (if s.coreRuns then s.refWriteK d k word else s)

/-- SINGLE_SWAP: a write to LFC_SWAP with GROUP = 0 (03 R81). -/
def execSingleSwap (d : Fin 4) (mask : BitVec 12) (s : State) : Host.Outcome State Fault Refusal :=
  .next (if s.coreRuns then s.swapWrite d mask.toNat false else s)

/-- GROUP_SWAP: a write to LFC_SWAP with GROUP = 1 (03 R82). -/
def execGroupSwap (d : Fin 4) (mask : BitVec 12) (s : State) : Host.Outcome State Fault Refusal :=
  .next (if s.coreRuns then s.swapWrite d mask.toNat true else s)

/-- LFC_CM_WRITE (03 R69). -/
def execLfcCmWrite (d : Fin 4) (word : Word) (s : State) : Host.Outcome State Fault Refusal :=
  .next (if s.coreRuns then s.cmWrite d word else s)

/-- A write to LFC_CS as it acts: a selection that names no entry, a write to a bank in use, and mixed sequences are errors of the
host's own making (03 R69, R80, R84). -/
def State.csAct (s : State) (d : Nat) (mixed : Bool) (w : Word) : State :=
  if !s.cidxOk d || s.csBad d || mixed then s.csWriteFree d mixed else s.csWrite d w

/-- LFC_CS_WRITE, by the master of the sequence (03 R69, R80, R84). -/
def execLfcCsWrite (d : Fin 4) (word : Word) (s : State) : Host.Outcome State Fault Refusal :=
  .next (if s.coreRuns then s.csAct d false word else s)

/-- LFC_CS_READ: the read finds an error of the entry, and the entry increments (03 R69, R70). A selection that names no entry finds
nothing: its value alone is free (03 R84; log 4). -/
def execLfcCsRead (d : Fin 4) (s : State) : Host.Outcome State Fault Refusal :=
  .next (if s.coreRuns then ((if s.cidxOk d then s.portFind d else s).cidxStep d).settle else s)

/-- The code of a space in the events of R79. -/
def spaceCode : LfcSpace → Nat
  | .bankA => 0
  | .bankB => 1
  | .state => 2

/-- What a scrub finds in an entry: a new error, beside the one that the entry has; together with one of them a single-bit error
makes a double-bit error (03 R70; log 69). -/
def eccJoin (had : Nat) (found : EccFound) : Nat :=
  match found with
  | .clean => had
  | .single => had + 1
  | .double => 2

/-- LFC_SCRUB: the scrub reads an entry (03 R70). -/
def execLfcScrub (d : Fin 4) (j : Fin 12) (space : LfcSpace) (entry : Fin 90) (found : EccFound) (s : State) :
    Host.Outcome State Fault Refusal :=
  .next (if s.coreRuns then
    (s.lfcFind d j (spaceCode space) entry (eccJoin (s.lfcErr (loopNo d j) (spaceCode space) entry) found) false).settle
  else s)

/-- The channel's last routine result is given up (16_service_and_vehicle_bus.md R366). -/
def State.zForget (s : State) (c : Nat) : State :=
  { s with dsu := { s.dsu with zrout := tblSet (fun _ => 0) s.dsu.zrout c 0, zres := tblSet (fun _ => []) s.dsu.zres c [] } }

/-- A measurement starts: BUSY, phase and sums at zero. It takes the number of its samples now: a write of ZCNT while it runs changes
the register alone (04 R104; log 73). -/
def State.zStart (s : State) (d : Nat) : State :=
  let s1 := (s.zForget (4 * d + s.get (R.LFC_ZCFG.CH d))).modDom d fun x =>
    { x with zrun := true, zopen := false, zphi := 0, zvs := 0, zvc := 0, zis := 0, zic := 0,
             zleft := s.get (R.LFC_ZCFG.ZCNT d) }
  ((s1.setB (R.LFC_ZCFG.BUSY d) true).setB (R.LFC_ZCFG.DONE d) false).setB (R.LFC_ZCFG.ERR d) false

/-- A write to LFC_ZCFG: CH and ZCNT, then START in SERVICE while no measurement runs (04 R104, R105). -/
def State.zcfgWrite (s : State) (d : Nat) (w : Word) : State :=
  let s1 := s.plainWrite (R.LFC_ZCFG.at d) w
  if fldOf w (R.LFC_ZCFG.START d) = 1 ∧ s.sys.mode = .service ∧ ¬ (s.dom d).zrun then s1.zStart d else s1

/-- The write changes CH while a measurement runs: an error of the host's own making; a write that repeats CH is none (04 R105; log 73). -/
def State.zcfgBad (s : State) (d : Nat) (w : Word) : Bool :=
  (s.dom d).zrun && fldOf w (R.LFC_ZCFG.CH d) != s.get (R.LFC_ZCFG.CH d)

/-- The word that stands in for such a write: any CH (00 R7; log 4). -/
def zcfgFix (d : Nat) (w fw : Word) : Word := fldPut w (R.LFC_ZCFG.CH d) (fldOf fw (R.LFC_ZCFG.CH d))

/-- IMPEDANCE_START: a write to LFC_ZCFG (04 R104). -/
def execImpedanceStart (d : Fin 4) (word : Word) (s : State) : Host.Outcome State Fault Refusal :=
  .next (if s.coreRuns then
    s.served (s.zcfgBad d word) (R.LFC_ZCFG.at d) word (zcfgFix d word) fun t w => t.zcfgWrite d w
  else s)

/-- A word of LFC_LDCFG that may not be written now; one that repeats LW, LDI and QMIN while an audio loop runs may (04 R105; log 73). -/
def State.ldcfgBad (s : State) (d : Nat) (w : Word) : Bool :=
  let f := fun (x : Fld) => fldOf w x
  let old := fun (x : Fld) => s.get x
  let lw := R.LFC_LDCFG.LW d
  let li := R.LFC_LDCFG.LDI d
  let qm := R.LFC_LDCFG.QMIN d
  decide (f lw < 8) || decide (5 < f li) ||
    (s.get (R.LFC_RUN.RUN d) % 16 != 0 && (f lw != old lw || f li != old li || f qm != old qm))

/-- A write to LFC_LDCFG: the accumulators of every channel clear (04 R102). -/
def State.ldcfgWrite (s : State) (d : Nat) (w : Word) : State :=
  (List.range 4).foldl (fun t k => t.modLoop (loopNo d k) ldClear) (s.plainWrite (R.LFC_LDCFG.at d) w)

/-- The word that stands in for such a write: any legal LW and LDI, any QMIN (00 R7; log 4). -/
def ldcfgFix (d : Nat) (w fw : Word) : Word :=
  let f := fun (x : Fld) => fldOf fw x
  fldPut (fldPut (fldPut w (R.LFC_LDCFG.LW d) (8 + f (R.LFC_LDCFG.LW d) % 8)) (R.LFC_LDCFG.LDI d) (f (R.LFC_LDCFG.LDI d) % 6))
    (R.LFC_LDCFG.QMIN d) (f (R.LFC_LDCFG.QMIN d))

/-- LDEN_WRITE: a write to LFC_LDCFG (04 R102). -/
def execLdenWrite (d : Fin 4) (word : Word) (s : State) : Host.Outcome State Fault Refusal :=
  .next (if s.coreRuns then
    s.served (s.ldcfgBad d word) (R.LFC_LDCFG.at d) word (ldcfgFix d word) fun t w => t.ldcfgWrite d w
  else s)

end Sys2Proof.Machine
end

