-- ==== Sys2Proof/Machine/Gallery.lean ====
section
/-! DEFINITION. Gallery and the local memories as their masters see them: grants, and the errors of the ECC (09_zuelm_engines_and_gallery.md
R199, R210 to R212). A word is 64 bits. -/

namespace Sys2Proof.Machine

/-- An address in Gallery (09 R210). -/
def inGallery (a : Nat) : Bool := decide (0x10000000 ≤ a) && decide (a < 0x10400000)

/-- The number of the 64-bit word that holds an address of Gallery. -/
def galWord (a : Nat) : Nat := (a - 0x10000000) / 8

/-- The key of the errors of the 64-bit word at an address of Gallery or of a local memory. -/
def eccKey (a : Nat) : Nat := if inGallery a then galWord a else 0x80000 + (a - 0x20000000) / 8

/-- The error of the word at an address: 0 none, 1 single-bit, 2 double-bit, 3 poisoned (09 R199, R212). -/
def State.eccAt (s : State) (a : Nat) : Nat := tblGet (fun _ => 0) s.eng.ecc (eccKey a)

/-- The error of a word replaced. -/
def State.setEcc (s : State) (a v : Nat) : State :=
  { s with eng := { s.eng with ecc := tblSet (fun _ => 0) s.eng.ecc (eccKey a) v } }

/-- The lowest requesting index at or above the pointer of a bank, else the lowest (09 R211). -/
def bankWinner (rho : Nat) (req : List Nat) : Option Nat :=
  (List.range 25).findSome? fun i => req.find? fun m => m == (rho + i) % 25

/-- A master is granted its bank: alone in its cycle it wins, and the pointer moves to one past it (09 R210, R211; log 17). -/
def State.galGrant (s : State) (a m : Nat) : State :=
  let b := a / 8 % 8
  match bankWinner (tblGet (fun _ => 0) s.eng.rhoBank b) [m] with
  | some w => if inGallery a then
      { s with eng := { s.eng with rhoBank := tblSet (fun _ => 0) s.eng.rhoBank b ((w + 1) % 25) } } else s
  | none => s

/-- A double-bit error found by a master: UNC, ENG_GERR and MST, event 0x0804 (09 R212, R227). -/
def State.galUnc (s : State) (a mst : Nat) : State :=
  let s1 := (s.setB R.ENG_GSTAT.UNC true).set R.ENG_GSTAT.MST mst
  let s2 := s1.set R.ENG_GERR.ADR (a / 8)
  s2.raise 0x0804 2 (le 1 mst ++ le 4 (a / 8 * 8))

/-- A single-bit error found and corrected: COR, CORCNT, event 0x0803 (09 R212, R227). -/
def State.galCor (s : State) (a mst : Nat) : State :=
  ((s.setB R.ENG_GSTAT.COR true).incSat R.ENG_GSTAT.CORCNT).raise 0x0803 0 (le 1 mst ++ le 4 (a / 8 * 8))

/-- What a read of a word by a master finds: a single-bit error is corrected, and in Gallery reported; a double-bit error fails
the read, and in Gallery is reported and, but for the DSU, poisons the word (09 R199, R211, R212; log 69). -/
def State.memFind (s : State) (m a : Nat) : State × Bool :=
  let s1 := s.galGrant a m
  match s.eccAt a with
  | 0 => (s1, true)
  | 1 => (if inGallery a then (s1.setEcc a 0).galCor a m else s1.setEcc a 0, true)
  | _ => (if inGallery a then (if m = 23 then s1 else s1.setEcc a 3).galUnc a m else s1, false)

/-- A 32-bit write by a master: a single-bit error is corrected before the merge; a double-bit error drops the write
(09 R199, R211, R212; log 69). -/
def State.memWr32 (s : State) (m a v : Nat) : State × Bool :=
  let s1 := s.galGrant a m
  match s.eccAt a with
  | 0 => (s1.wr32 a v, true)
  | 1 => ((s1.setEcc a 0).wr32 a v, true)
  | _ => (if inGallery a then s1.galUnc a m else s1, false)

/-- A 64-bit write replaces the word, with any error of it (09 R211, R212). -/
def State.memWr64 (s : State) (m a v : Nat) : State := ((s.galGrant a m).setEcc a 0).wr64 a v

/-- Words written by a queue as 32-bit writes, at rising addresses; a write into a word with a double-bit error is dropped
(09 R211, R212). -/
def State.galWords (s : State) (mst : Nat) : Nat → List Word → State
  | _, [] => s
  | a, w :: t => (s.memWr32 mst a w.toNat).1.galWords mst (a + 4) t

/-- A ring may be used: its base 8-byte aligned, its words within Gallery, and not empty (10_audio_inputs.md R234, R243). -/
def ringOk (base len words : Nat) : Bool :=
  base % 8 == 0 && len != 0 && decide (0x10000000 ≤ base) && decide (base + len * words * 4 ≤ 0x10400000)

/-- The base of a ring; of one that may not be used, an error of the host's own making, the words go to any place of Gallery that
holds them (00_scope.md R7; 10 R234; log 4). -/
def State.ringBase (s : State) (base : Fld) (len words : Nat) : Nat :=
  if ringOk (s.get base) len words then s.get base
  else 0x10000000 + 8 * ((s.freeWord base.addr).toNat % ((0x400000 - len * words * 4) / 8 + 1))

/-- The length of a ring; one of no frames, an error of the host's own making, stands for any (10 R243). -/
def State.ringLen (s : State) (len : Fld) : Nat :=
  if s.get len = 0 then (s.freeWord len.addr).toNat % 0xFFFF + 1 else s.get len

/-- The first word of frame w of a ring (10 R234). -/
def ringSlot (base len words w : Nat) : Nat := base + w % len * words * 4

/-- The source clock over the nominal rate: 1024 periods against their ticks, Q2.30 (10 R237). -/
def ratioOf (per dt : Nat) : Nat := if dt = 0 then 0xFFFFFFFF else min ((2 * (2 ^ 30 * 1024 * per) + dt) / (2 * dt)) 0xFFFFFFFF

end Sys2Proof.Machine
end

