-- ==== Sys2Proof/Machine/Net.lean ====
section
/-! DEFINITION. The T1 port: gPTP mapping, AVTP streams and their rings (10_audio_inputs.md R228 to R237; 02 R41). -/

namespace Sys2Proof.Machine

def State.modNet (s : State) (f : Net → Net) : State := { s with net := f s.net }
def State.strm (s : State) (n : Nat) : Strm := tblGet (fun _ => {}) s.net.strms n
def State.modStrm (s : State) (n : Nat) (f : Strm → Strm) : State :=
  s.modNet fun x => { x with strms := tblMod (fun _ => {}) x.strms n f }

/-- The port is in use. -/
def State.netOn (s : State) : Bool := s.coreRuns && s.bit R.NET_CFG.EN

/-- Stream states (10 R236). -/
def stOff : Nat := 0
def stWait : Nat := 1
def stRun : Nat := 2
def stLost : Nat := 3

def State.sst (s : State) (n : Nat) : Nat := s.get (R.NET_SST.STATE n)

/-! ### gPTP -/

/-- VALID clears: event 0x0A03, acquisition restarts, holdover begins (10 R231, R245). -/
def State.gptpLost (s : State) (cause : Nat) : State :=
  let s1 := s.modNet fun n => { n with syncs := 0 }
  if s.bit R.TB_MAP_STAT.VALID then
    ((s1.setB R.TB_MAP_STAT.VALID false).setB R.NET_STAT.HOLD true).raise 0x0A03 1 (le 1 cause ++ le 4 s.now)
  else s1

/-- asCapable as it was learned; its loss clears VALID (10 R230, R231). -/
def State.setAsCap (s : State) (b : Bool) : State :=
  let s1 := s.setB R.NET_STAT.ASCAP b
  if b then s1 else s1.gptpLost 1

/-- The mapping registers take a Sync exchange (02 R41). -/
def State.mapUpdate (s : State) (tbAt sec ns : Nat) (rate : BitVec 32) : State :=
  let w := fun (a v : Nat) (t : State) => t.setReg a (BitVec.ofNat 32 v)
  let s1 := w R.TB_MAP_TB_HI.at (tbAt / 2 ^ 32) (w R.TB_MAP_TB_LO.at tbAt s)
  let s2 := (w R.TB_MAP_SEC_LO.at sec s1).set R.TB_MAP_SEC_HI.V (sec / 2 ^ 32)
  ((w R.TB_MAP_NS.at ns s2).setReg R.TB_MAP_RATE.at rate).incWrap R.TB_MAP_STAT.GEN

/-- An accepted Sync: VALID at the eighth in a row while asCapable is true; the mapping is updated by the Sync that sets VALID and by
those that find it set, and holds its last values otherwise (02 R41; 10 R230, R231; DEDUCED, log 80). -/
def State.gptpSync (s : State) (tbAt sec ns : Nat) (rate : BitVec 32) : State :=
  let n := if s.bit R.NET_STAT.ASCAP then min (s.net.syncs + 1) 8 else 0
  let s1 := s.modNet fun x => { x with syncs := n }
  if n = 8 then ((s1.mapUpdate tbAt sec ns rate).setB R.TB_MAP_STAT.VALID true).setB R.NET_STAT.HOLD false
  else if s.bit R.TB_MAP_STAT.VALID then s1.mapUpdate tbAt sec ns rate
  else s1

/-- The MAC takes untagged frames, and tagged ones with the VID of NET_CFG where that is not 0 (10 R229, R243). -/
def State.tagOk (s : State) (e : EthHdr) : Bool :=
  match e.tag with
  | none => true
  | some v => s.get R.NET_CFG.VID != 0 && v.toNat == s.get R.NET_CFG.VID

/-- A frame that the MAC passes to gPTP (10 R229). -/
def State.gptpFrame (s : State) (e : EthHdr) : Bool :=
  s.netOn && s.tagOk e && e.etherType == 0x88F7#16 && e.dst == 0x0180C200000E#48

/-- A frame that the MAC passes to the streams (10 R229). -/
def State.avtpFrame (s : State) (e : EthHdr) : Bool := s.netOn && s.tagOk e && e.etherType == 0x22F0#16

/-- A gPTP message of the domain NET_CFG.GDOM, in a frame that the MAC passes (10 R229, R230). -/
def State.gptpOurs (s : State) (h : GptpHdr) : Bool := s.gptpFrame h.eth && h.domain.toNat == s.get R.NET_CFG.GDOM

/-- GPTP_SYNC, of the domain NET_CFG.GDOM (02 R41; 10 R229 to R231). -/
def execGptpSync (hdr : GptpHdr) (tbAt : Nat) (time : GptpTime) (rate : BitVec 32) (s : State) :
    Host.Outcome State Fault Refusal :=
  .next (if s.gptpOurs hdr then s.gptpSync tbAt time.sec time.ns rate else s)

/-- GPTP_ANNOUNCE, of the domain NET_CFG.GDOM: the grandmaster identity; a change sets GMCHG and clears VALID (10 R229 to R231,
R243). -/
def execGptpAnnounce (a : AnnounceMsg) (s : State) : Host.Outcome State Fault Refusal :=
  .next (if s.gptpOurs a.hdr then
    let s1 := s.modNet fun n => { n with gm := some a.grandmaster }
    match s.net.gm with
    | some g => if g = a.grandmaster then s else (s1.setB R.NET_STAT.GMCHG true).gptpLost 2
    | none => s1
  else s)

/-- Pdelay requests that may stay unanswered before asCapable becomes false (IEEE 802.1AS-2020; PRESUMED, log 12). -/
def allowedLost : Nat := 9

/-- PDELAY_REQ_SEND: one more request on its way; too many without an answer end asCapable (10 R230; log 12). -/
def execPdelayReqSend (s : State) : Host.Outcome State Fault Refusal :=
  .next (if s.netOn then
    let s1 := s.modNet fun n => { n with pdelaySent := min (n.pdelaySent + 1) (allowedLost + 1) }
    if s.net.pdelaySent = allowedLost ∧ s.bit R.NET_STAT.ASCAP then s1.setAsCap false else s1
  else s)

/-- PDELAY_REQ_RECEIVED: the neighbour's request, which the MAC has passed on, is answered (10 R229, R230). -/
def execPdelayReqReceived (s : State) : Host.Outcome State Fault Refusal :=
  .next (if s.netOn then s.modNet fun n => { n with pdelayAnswered := n.pdelayAnswered + 1 } else s)

/-- PDELAY_RESP_RECEIVED: the link delay; asCapable per the standard, with the threshold of 800 ns (10 R230). -/
def execPdelayRespReceived (eth : EthHdr) (found : PdelayResult) (s : State) : Host.Outcome State Fault Refusal :=
  .next (if s.gptpFrame eth then
    (s.modNet fun n => { n with delay := found.delayNs, pdelaySent := 0 }).setAsCap (found.capable && decide (found.delayNs ≤ 800))
  else s)

/-- SYNC_TIMEOUT (10 R231). -/
def execSyncTimeout (s : State) : Host.Outcome State Fault Refusal :=
  .next (if s.netOn then s.gptpLost 0 else s)

/-- PHY_LINK: the link comes up, or goes down and ends asCapable (10 R230, R231, R243). -/
def execPhyLink (up : Bool) (s : State) : Host.Outcome State Fault Refusal :=
  .next (if s.netOn then
    let s1 := s.setB R.NET_STAT.LINK up
    if up then s1 else s1.setAsCap false
  else s)

/-- ETHERNET_FRAME_REJECTED: a bad FCS counts (10 R229). -/
def execEthernetFrameRejected (why : FrameReject) (s : State) : Host.Outcome State Fault Refusal :=
  .next (if s.netOn then
    match why with
    | .badFcs => s.incSat R.NET_STAT.FCSCNT
    | .other => s
  else s)

/-! ### Streams -/

/-- The nominal frame period of a stream (10 R236). -/
def State.strmP (s : State) (n : Nat) : Nat := if s.bit (R.NET_SCFG.NSR n) then 4096 else 8192

/-- A stream enters LOST: event 0x0A01 (10 R236, R245). -/
def State.strmLost (s : State) (n : Nat) : State :=
  let s1 := (s.set (R.NET_SST.STATE n) stLost).modStrm n fun x => { x with t0 := none, drops := [] }
  s1.raise 0x0A01 1 (le 1 n ++ le 1 (s.get (R.NET_SST.UNDER n)) ++ le 1 (s.get (R.NET_SST.LATE n)) ++ le 2 (s.get (R.NET_RTS.V n)))

/-- HOLDOVER_END: every stream in WAIT or RUN enters LOST (10 R231). -/
def execHoldoverEnd (s : State) : Host.Outcome State Fault Refusal :=
  .next (if s.netOn && s.bit R.NET_STAT.HOLD then
    (List.range 4).foldl (fun t n => if t.sst n = stWait ∨ t.sst n = stRun then t.strmLost n else t) (s.setB R.NET_STAT.HOLD false)
  else s)

/-- The stream a packet belongs to (10 R232). -/
def State.strmOf (s : State) (id : BitVec 64) : Option Nat :=
  (List.range 4).find? fun n => s.bit (R.NET_SCFG.EN n) &&
    s.get (R.NET_SID_HI.V n) * 2 ^ 32 + s.get (R.NET_SID_LO.V n) == id.toNat

/-- The width of a format, and its DEPTH code (10 R232, R243). -/
def fmtWidth : AafFormat → Option (Nat × Nat)
  | .int16 => some (16, 0)
  | .int24 => some (24, 1)
  | .int32 => some (32, 2)
  | .other => none

/-- The DEPTH of a stream; 0b11, an error of the host's own making, stands for any (10 R243). -/
def State.strmDepth (s : State) (n : Nat) : Nat :=
  if s.get (R.NET_SCFG.DEPTH n) = 3 then (s.freeWord (R.NET_SCFG.at n)).toNat % 3 else s.get (R.NET_SCFG.DEPTH n)

/-- The first check of R232 that a packet fails, as event 0x0A04 codes it; for a packet of no stream, of the checks that name
no setting of a stream. -/
def State.avtpFail (s : State) (p : AvtpPacket) (n : Option Nat) : Option Nat :=
  let fits := fun (f : Nat → Bool) => match n with | some k => f k | none => true
  match fmtWidth p.format with
  | none => some (if p.subtype ≠ 2 ∨ p.version ≠ 0 then 1 else 2)
  | some (w, dc) =>
    if p.subtype ≠ 2 ∨ p.version ≠ 0 then some 1
    else if !fits (fun k => s.strmDepth k == dc) || p.bitDepth != w then some 2
    else if p.rate == .other || !fits (fun k => s.bit (R.NET_SCFG.NSR k) == (p.rate == .k96)) then some 3
    else if p.channels == 0 || decide (8 < p.channels) || !fits (fun k => p.channels == s.get (R.NET_SCFG.NCH k) + 1) then some 4
    else if p.dataLen % (p.channels * (w / 8)) ≠ 0 then some 5
    else none

/-- The mapping of R41: its tick and its gPTP time in ns, and the factor 1 + rate in units of 2^-32. -/
def State.mapTb (s : State) : Nat := s.get R.TB_MAP_TB_HI.V * 2 ^ 32 + s.get R.TB_MAP_TB_LO.V
def State.mapNs (s : State) : Int :=
  (s.get R.TB_MAP_SEC_HI.V * 2 ^ 32 + s.get R.TB_MAP_SEC_LO.V) * 1000000000 + s.get R.TB_MAP_NS.V
def State.mapRate (s : State) : Int := 4294967296 + s32 (s.reg R.TB_MAP_RATE.at)

/-- gptp_at in ns (02 R41). -/
def State.gptpAt (s : State) (tb : Int) : Int :=
  s.mapNs + divHU ((tb - s.mapTb) * 15625 * s.mapRate) (6144 * 4294967296)

/-- tb_at of a gPTP time in thirds of a nanosecond (02 R41). -/
def State.tbAt3 (s : State) (g3 : Int) : Int :=
  s.mapTb + divHU ((g3 - 3 * s.mapNs) * 6144 * 4294967296) (3 * 15625 * s.mapRate.toNat)

/-- A timestamp extended to the gPTP time nearest to a reference (10 R233). -/
def nearestPt (ts : Nat) (ref : Int) : Int :=
  let r := ((ts : Int) - ref) % 4294967296
  ref + (if 2 * r ≤ 4294967296 then r else r - 4294967296)

/-- Frame periods in thirds of a nanosecond (10 R232, R233). -/
def fsThird (r : AafRate) : Nat := if r == .k96 then 31250 else 62500

/-- The presentation time of a packet in thirds of a nanosecond (10 R232, R233): from its timestamp, or from the previous
packet; with neither it is a free value (log 8). -/
def State.presentation (s : State) (p : AvtpPacket) (n arr : Nat) : Int × State :=
  if p.tv then (3 * nearestPt p.timestamp.toNat (s.gptpAt arr), s)
  else match (s.strm n).pt with
    | some t => (t + (s.strm n).cnt * fsThird p.rate, s)
    | none => (3 * Config.firstPt s.freeCtr, { s with freeCtr := s.freeCtr + 1 })

/-- A sample as s32 (10 R234). -/
def avtpSample (f : AafFormat) (w : Word) : Word :=
  match f with
  | .int16 => w <<< 16
  | .int24 => w <<< 8
  | _ => w

/-- Frames of a stream are dropped that would have been released at some ticks; the span of the ratio that reaches past one of them
is discarded (10 R237). -/
def State.dropFrames (s : State) (n : Nat) (l : List Int) : State :=
  s.modStrm n fun x => if x.t0.isSome then { x with drops := x.drops ++ l } else x

/-- An accepted packet: a gap in its sequence counts, and with a mapping in force it enters the store; frames that come too late, or
find the store full, are not released (10 R232, R233, R235). -/
def State.avtpStore (s : State) (p : AvtpPacket) (n : Nat) (mapped : Bool) : State :=
  let (arrT, s0) := s.nowFree
  let q := s0.strm n
  let s1 := match q.seqNo with
    | some k => if k + 1 = p.seqNum then s0 else s0.incSat (R.NET_SST.SEQGAP n)
    | none => s0
  let (pt, s2) := s1.presentation p n arrT
  let s3 := s2.modStrm n fun x => { x with pt := some pt, cnt := p.frames.length, seqNo := some p.seqNum }
  let rel := p.frames.zipIdx.map fun f => (s.tbAt3 (pt + f.2 * fsThird p.rate), f.1.map (avtpSample p.format))
  if !mapped then s3
  else if 64 ≤ s.net.pkts.length then
    ((s3.dropFrames n (rel.map (·.1))).setB R.NET_STAT.OVF true).raise 0x0A05 1 (le 1 n ++ le 4 s.now)
  else
    let inTime := fun (f : Int × List Word) => decide (((arrT + s.get R.NET_CFG.LMARG * 256 : Nat) : Int) ≤ f.1)
    let ok := rel.filter inTime
    let late := decide (ok.length < rel.length)
    let s4 := if late then (s3.incSat (R.NET_SST.LATE n)).dropFrames n ((rel.filter fun f => !inTime f).map (·.1)) else s3
    if ok.isEmpty then s4
    else s4.modNet fun x => { x with pkts := x.pkts ++ [{ n := n, arr := arrT, frames := ok, late := late }] }

/-- A packet arrives (10 R232, R233). Without a mapping in force its frames have no release tick (log 12). -/
def State.avtpPacket (s : State) (p : AvtpPacket) : State :=
  let n := s.strmOf p.streamId
  match s.avtpFail p n, n with
  | some c, _ => (s.setB R.NET_STAT.FMTERR true).raise 0x0A04 0 (le 1 (n.getD 0xFF) ++ le 1 c)
  | none, none => s
  | none, some k => s.avtpStore p k (s.bit R.TB_MAP_STAT.VALID || s.bit R.NET_STAT.HOLD)

/-- AVTP_PACKET (10 R229, R232). -/
def execAvtpPacket (p : AvtpPacket) (s : State) : Host.Outcome State Fault Refusal :=
  .next (if s.avtpFrame p.eth then s.avtpPacket p else s)

/-! ### Release -/

/-- Frames of stream n at or before a tick leave the store; their packets count as late (10 R235). -/
def State.purge (s : State) (n : Nat) : State :=
  match (s.strm n).last with
  | none => s
  | some t =>
    let old := fun (p : Pkt) => p.n == n && p.frames.any fun f => decide (f.1 ≤ (t : Int))
    let gone := (s.net.pkts.filter old).flatMap fun p => (p.frames.map (·.1)).filter fun r => decide (r ≤ (t : Int))
    let cnt := (s.net.pkts.filter fun p => old p && !p.late).length
    let s1 := (List.range cnt).foldl (fun u _ => u.incSat (R.NET_SST.LATE n)) s
    let s2 := s1.dropFrames n gone
    let cut := fun (p : Pkt) =>
      if old p then { p with late := true, frames := p.frames.filter fun f => decide ((t : Int) < f.1) } else p
    s2.modNet fun x => { x with pkts := (x.pkts.map cut).filter (fun p => !p.frames.isEmpty) }

/-- The earliest frame of a list of packets that belongs to stream n; of equal ones the first. -/
def firstRel (n : Nat) : List Pkt → Option Int
  | [] => none
  | p :: t =>
    let here := if p.n = n then (p.frames.map (·.1)).min? else none
    match here, firstRel n t with
    | some a, some b => some (min a b)
    | some a, none => some a
    | none, b => b

/-- The packets without the first frame of stream n with a release tick, and the samples of that frame. -/
def takeRel (n : Nat) (r : Int) : List Pkt → List Word × List Pkt
  | [] => ([], [])
  | p :: t =>
    match p.n == n, p.frames.find? (fun f => f.1 == r) with
    | true, some f =>
      let rest := p.frames.erase f
      (f.2, if rest.isEmpty then t else { p with frames := rest } :: t)
    | _, _ => ((takeRel n r t).1, p :: (takeRel n r t).2)

/-- A frame is released at a tick: its words in the ring, WIDX, RTS (10 R234). -/
def State.writeFrame (s : State) (n : Nat) (ws : List Word) (t : Nat) : State :=
  let ch := s.get (R.NET_SCFG.NCH n) + 1
  let len := s.ringLen (R.NET_SCFG.LEN n)
  let a := ringSlot (s.ringBase (R.NET_RBASE.V n) len ch) len ch (s.get (R.NET_WIDX.V n))
  let s1 := s.bump.galWords 20 a ((ws ++ List.replicate ch 0).take ch)
  ((s1.incWrap (R.NET_WIDX.V n)).set (R.NET_RTS.V n) t).modStrm n fun x => { x with last := some t }

/-- The rate ratio after one more released frame; a span that a dropped frame lies in is discarded (10 R237). -/
def State.strmRatio (s : State) (n t : Nat) : State :=
  let x := s.strm n
  let afresh := fun (u : State) =>
    u.modStrm n fun y => { y with t0 := some t, span := 0, drops := y.drops.filter fun d => decide ((t : Int) < d) }
  match x.t0 with
  | none => afresh s
  | some t0 =>
    if x.drops.any fun d => decide ((t0 : Int) < d) && decide (d ≤ (t : Int)) then afresh s
    else if x.span + 1 < 1024 then s.modStrm n fun y => { y with span := x.span + 1 }
    else afresh (s.set (R.NET_RATIO.V n) (ratioOf (s.strmP n) (t - t0)))

/-- The next frame of a stream is released; a stream in WAIT or LOST enters RUN with event 0x0A02 (10 R234 to R237). -/
def State.release (s : State) (n : Nat) : State :=
  let s1 := s.purge n
  match firstRel n s1.net.pkts with
  | none => s1
  | some r =>
    let q := takeRel n r s1.net.pkts
    let s2 := (s1.modNet fun x => { x with pkts := q.2 }).writeFrame n q.1 r.toNat
    let s3 := s2.strmRatio n r.toNat
    if s.sst n = stRun then s3
    else (s3.set (R.NET_SST.STATE n) stRun).raise 0x0A02 0 (le 1 n ++ le 4 (s3.get (R.NET_WIDX.V n)))

/-- FRAME_RELEASE (10 R234). -/
def execFrameRelease (n : Fin 4) (s : State) : Host.Outcome State Fault Refusal :=
  .next (if s.netOn && s.sst n != stOff then s.release n else s)

/-- Zero-fill is due: in RUN or LOST, after a release, with no frame due within 1.5 P of it (10 R236). -/
def State.zeroDue (s : State) (n : Nat) : Option Nat :=
  match (s.strm n).last with
  | none => none
  | some t =>
    let near := s.net.pkts.any fun p => p.n == n &&
      p.frames.any fun f => decide ((t : Int) < f.1) && decide (2 * f.1 ≤ 2 * t + 3 * s.strmP n)
    if (s.sst n = stRun ∨ s.sst n = stLost) ∧ ¬ near then some (t + s.strmP n) else none

/-- ZERO_FILL: an all-zero frame one period after the last release (10 R236, R237). -/
def execZeroFill (n : Fin 4) (s : State) : Host.Outcome State Fault Refusal :=
  .next (match s.netOn, s.zeroDue n with
    | true, some t => ((s.writeFrame n [] t).incSat (R.NET_SST.UNDER n)).modStrm n fun x => { x with t0 := none, drops := [] }
    | _, _ => s)

/-- STREAM_LOSS (10 R236). -/
def execStreamLoss (n : Fin 4) (s : State) : Host.Outcome State Fault Refusal :=
  .next (if s.netOn && s.sst n == stRun then s.strmLost n else s)

/-- A write to NET_SCFGn that may not be made now: one that leaves a stream in use (10 R243). -/
def State.scfgBad (s : State) (n : Nat) (w : Word) : Bool :=
  s.bit (R.NET_SCFG.EN n) && decide (fldOf w (R.NET_SCFG.EN n) = 1)

/-- A write to NET_SCFGn: EN takes the stream to WAIT, its clearing to OFF (10 R236). -/
def State.scfgWrite (s : State) (n : Nat) (w : Word) : State :=
  let was := s.bit (R.NET_SCFG.EN n)
  let s1 := s.plainWrite (R.NET_SCFG.at n) w
  let en := s1.bit (R.NET_SCFG.EN n)
  if was = en then s1
  else
    ((s1.set (R.NET_SST.STATE n) (if en then stWait else stOff)).modStrm n fun _ => {}).modNet fun x =>
      { x with pkts := x.pkts.filter fun p => p.n != n }

/-- STREAM_ENABLE (10 R236). -/
def execStreamEnable (n : Fin 4) (word : Word) (s : State) : Host.Outcome State Fault Refusal :=
  .next (if s.coreRuns then
    s.served (s.scfgBad n word) (R.NET_SCFG.at n) word id fun t w => t.scfgWrite n w else s)

end Sys2Proof.Machine
end

