-- ==== Sys2Proof/Machine/WeftFrame.lean ====
section
/-! DEFINITION. The symbols of a Weft frame and its fields (02_time_base_and_clocks.md R44). -/

namespace Sys2Proof

open Sys2Proof.Machine

/-- The byte of a symbol. -/
def WeftFrame.byte (f : WeftFrame) (i : Nat) : Byte := (f.sym.getD i 0).setWidth 8

/-- The bytes of n symbols. -/
def WeftFrame.bytes (f : WeftFrame) (i n : Nat) : List Byte := (List.range n).map fun k => f.byte (i + k)

/-- HDR: N - 1. -/
def WeftFrame.nMinus1 (f : WeftFrame) : BitVec 2 := BitVec.ofNat 2 (bitsAt (f.byte 1).toNat 4 2)
/-- MTB. -/
def WeftFrame.mtb (f : WeftFrame) : BitVec 64 := BitVec.ofNat 64 (leVal (f.bytes 2 8))
/-- HOPDLY.VALID. -/
def WeftFrame.hopValid (f : WeftFrame) : Bool := (f.byte 11).msb
/-- The hop delay H in 1/16 tick. -/
def WeftFrame.hop (f : WeftFrame) : BitVec 15 := BitVec.ofNat 15 (leVal (f.bytes 10 2))
/-- CFGCHK. -/
def WeftFrame.cfgchk (f : WeftFrame) : BitVec 16 := BitVec.ofNat 16 (leVal (f.bytes 12 2))
/-- SEQ. -/
def WeftFrame.seq (f : WeftFrame) : BitVec 8 := f.byte 14
/-- The sixteen RAIL requests. -/
def WeftFrame.rail (f : WeftFrame) : List (BitVec 16) :=
  (List.range 16).map fun i => BitVec.ofNat 16 (leVal (f.bytes (16 + 2 * i) 2))
/-- The four STATUS bytes. -/
def WeftFrame.status (f : WeftFrame) : List (BitVec 8) := f.bytes 48 4
/-- The CRC of symbols 1 to 61. -/
def WeftFrame.crc (f : WeftFrame) : Nat := crc16 (f.bytes 1 61)
/-- The CRC symbols agree with it. -/
def WeftFrame.crcOk (f : WeftFrame) : Bool := f.crc == leVal (f.bytes 62 2)

/-- The frame of a body of 61 bytes, SOF, CRC and EOF put around it; a wrong CRC is the complement of the right one (02 R44, R45). -/
def weftFrameOf (body : List Byte) (good : Bool) : WeftFrame :=
  let c := crc16 body
  { sym := [0x1FB#9] ++ (body ++ le 2 (if good then c else 0xFFFF - c)).map (fun b => b.setWidth 9) ++ [0x1FD#9] }

end Sys2Proof
end

