-- ==== Sys2Proof/Machine/Profile.lean ====
section
/-! DEFINITION. The profile generators: demand, target, planner and their commands (05_rail_tracking.md R107 to R124). -/

namespace Sys2Proof.Machine

/-- The per-step integers of the planner (05 R118). -/
structure Quanta where
  vd : Int
  j : Int
  n : Int
  deriving DecidableEq, Repr

/-- The conversion of the limits for an outer frame of f ticks (05 R118). -/
def quantaOf (limV limA limJ f : Nat) : Quanta :=
  let j := limJ * 32768000 * f ^ 3 / 393216 ^ 3
  let ad := limA * 32768000 * f ^ 2 / 393216 ^ 2
  { vd := (limV * 512000 * f / 393216 : Nat), j := (j : Nat), n := (ad / j : Nat) }

/-- Limits that are an error of the host's own making (05 R118). -/
def quantaBad (q : Quanta) : Bool := q.j == 0 || q.n == 0 || decide (q.vd < q.j)

/-- The braking jerk of an upward motion (05 R119). -/
def jb (q : Quanta) (v a : Int) : Int :=
  if 0 < a then -q.j
  else
    let k := -a / q.j
    if k < q.n ∧ (k + 1) * (k + 2) / 2 * q.j ≤ v then -q.j
    else if k * (k + 1) / 2 * q.j ≤ v then 0
    else q.j

/-- The braking rule followed to rest: the stop point, unless the motion reverses or passes Vd (05 R119). The count bounds the
moves; stopPoint gives it enough. -/
def stopLoop (q : Quanta) : Nat → Int → Int → Int → Int → Option Int
  | 0, _, _, _, _ => none
  | n + 1, p, v, a, vmax =>
    if v = 0 ∧ a = 0 then (if vmax ≤ q.vd then some p else none)
    else
      let k := -a / q.j
      if a ≤ 0 ∧ v < k * (k - 1) / 2 * q.j then none
      else
        let a' := a + jb q v a
        let v' := v + a'
        stopLoop q n (p + v') v' a' (max vmax v')

/-- The stop point of a state; none where there is no usable one (05 R119). -/
def stopPoint (q : Quanta) (p v a : Int) : Option Int :=
  let k := (a / q.j).natAbs + 2
  stopLoop q (k * k + (v / q.j).natAbs + 8) p v a v

/-- A state of the planner: position, velocity, acceleration, direction (05 R120). -/
structure Plan where
  p : Int
  v : Int
  a : Int
  dir : Int
  deriving DecidableEq, Repr

/-- A jerk may be taken: it stays within N quanta and leaves a usable stop point at or short of the target (05 R120). -/
def jerkOk (q : Quanta) (p v a tt j : Int) : Bool :=
  let a1 := a + j
  let v1 := v + a1
  decide ((a1.natAbs : Int) ≤ q.n * q.j) &&
    (match stopPoint q (p + v1) v1 a1 with
      | some q1 => decide (q1 ≤ tt)
      | none => false)

/-- The jerk of an upward leg toward the target, or none when only the braking move is left (05 R120). -/
def pickJerk (q : Quanta) (p v a tt : Int) : Option Int :=
  match stopPoint q p v a with
  | some q0 => if q0 ≤ tt then [q.j, 0, -q.j].find? (jerkOk q p v a tt) else none
  | none => none

/-- A leg's move in the direction dir (05 R120): the new state, and whether it was a braking move. -/
def planMove (q : Quanta) (s : Plan) (t : Int) (dir : Int) : Plan × Bool :=
  let p := dir * s.p
  let v := dir * s.v
  let a := dir * s.a
  let pick := pickJerk q p v a (dir * t)
  let a' := a + pick.getD (jb q v a)
  let v' := v + a'
  ({ p := dir * (p + v'), v := dir * v', a := dir * a', dir := if v' = 0 ∧ a' = 0 then 0 else dir }, pick.isNone)

/-- One step of the planner toward a target; at rest within the rest band BRAKE keeps its value (05 R120). -/
def planStep (q : Quanta) (s : Plan) (t : Int) (brake : Bool) : Plan × Bool :=
  if s.dir = 0 then
    if ((t - s.p).natAbs : Int) < 2 * q.j then (s, brake)
    else planMove q s t (if s.p < t then 1 else -1)
  else planMove q s t s.dir

/-! ### Shared requests -/

/-- MTB of frame k at update instant u, the latest whose SOF left the master by u - 3072, or for a device downstream of frame
k + 1 (05 R114; 02 R44). -/
def State.railMtb (s : State) (u n : Nat) : Nat :=
  (u - 3072) / 2048 * 2048 + (if s.ensPos = 0 ∨ n ≤ s.ensPos then 0 else 2048)

/-- The request of device n, domain d, at update instant u: from the frame that carries it, or from the latest frame received
correctly where that one was not (05 R114). -/
def State.railOf (s : State) (u n d : Nat) : Nat :=
  match s.ens.frames.find? (fun f => f.mtb.toNat == s.railMtb u n) <|> s.ens.frames.head? with
  | some f => (f.rail.getD (4 * n + d) 0).toNat
  | none => 0

/-- The bits of the mask that select requests of others (05 R115). -/
def State.shrMask (s : State) (d : Nat) : Nat := setBit (s.get (R.PRF_SHR.MASK d)) (4 * s.ensPos + d) false

/-- The largest request the mask selects, in 2 mV units; none while none enters (05 R115). -/
def State.shared (s : State) (d : Nat) : Option Nat :=
  let m := s.shrMask d
  if s.get R.ENS_STAT.STATE = 2 ∧ m ≠ 0 then
    some (((List.range 16).filter fun i => m.testBit i).foldl (fun a i => max a (s.railOf s.now (i / 4) (i % 4))) 0)
  else none

/-! ### Demand and target -/

/-- The ceiling in force in 2 mV units and the code of the term that set it (05 R111). -/
def State.ceiling (s : State) (d : Nat) : Nat × Nat :=
  let fl := s.get (R.PRF_FLR.FLOOR d)
  if s.sys.mode = .crank then (fl, 3)
  else
    let ce := s.get (R.PRF_FLR.CEIL d)
    let dc := if s.sys.mode = .derate then s.get (R.PRF_DCEIL.DCEIL d) else 0x10000
    let tc := s.get (R.PRF_TCEIL.TCEIL d)
    let m := min ce (min dc tc)
    if m ≤ fl then (fl, 4) else if m = tc then (m, 2) else if m = dc then (m, 1) else (m, 0)

/-- What an update forms before the planner's step (05 R110 to R115). -/
structure Target where
  dem : Nat
  noWr : Nat
  stale : Bool
  clip : Bool
  ceil : Nat
  csrc : Nat
  tLoc : Nat
  sh : Option Nat
  sUp : Bool
  t : Nat
  deriving DecidableEq, Repr

/-- The demand, the ceiling and the target of an update; in PRECHARGE and in the wait for a power-down the target alone is FLOOR
(05 R110 to R112, R115; 11_modes.md R259). -/
def State.target (s : State) (d : Nat) : Target :=
  let x := s.dom d
  let p := s.prf d
  let fixed := s.sys.mode == .playFixed && x.dst == .active
  let tmo := s.get (R.PRF_CFG.TMO d)
  let noWr := if p.wrote then 0 else p.noWr + 1
  let stale := !fixed && tmo != 0 && decide (tmo ≤ noWr)
  let dem := if x.dst ≠ .active then 0 else if fixed || stale then 0xFFFF else s.get (R.PRF_TGT.DEM d)
  let floorOnly := x.dst == .precharge ||
    (x.dst == .muted && s.gain d == 0 && (match x.relReq with | some q => q.pdn | none => false))
  let fl := s.get (R.PRF_FLR.FLOOR d) * 65536
  let ce := s.ceiling d
  let c := ce.1 * 65536
  let xr := min (dem * s.get (R.PRF_HDR.HGAIN d) * 16 + s.get (R.PRF_HDR.HEAD d) * 65536) 0xFFFFFFFF
  let tl := min (max xr fl) c
  let sh := s.shared d
  let sq := max tl (sh.getD 0 * 65536)
  { dem := dem, noWr := noWr, stale := stale, clip := decide (c < xr), ceil := ce.1, csrc := ce.2, tLoc := tl, sh := sh,
    sUp := decide (tl < sq), t := if floorOnly then min fl c else min (max sq fl) c }

/-- The flags and events of an update's demand and target (05 R110, R111, R115, R124). -/
def State.targetFlags (s : State) (d : Nat) (g : Target) : State :=
  let was := s.bit (R.PRF_STAT.STL d)
  let s1 := s.setB (R.PRF_STAT.STL d) g.stale
  let s2 := if g.stale ∧ ¬ was then
      (s1.setB (R.PRF_STAT.STALE d) true).raise 0x0401 1 (le 1 d ++ le 1 (s.get (R.PRF_CFG.TMO d)) ++ le 3 s.now)
    else s1
  let s3 := if g.clip then (s2.setB (R.PRF_STAT.CLIP d) true).raise 0x0402 0 (le 1 d ++ le 2 g.dem ++ le 2 g.ceil) else s2
  let s4 := ((s3.set (R.PRF_STAT.CSRC d) g.csrc).setB (R.PRF_STAT.SHRUP d) g.sUp).setB (R.PRF_STAT.LINK d) g.sh.isSome
  s4.set (R.PRF_SHRV.SHRV d) (g.sh.getD 0)

/-- The planner takes limits that wait, at rest (05 R122). -/
def State.takeLimits (s : State) (d : Nat) : State :=
  if s.bit (R.PRF_STAT.LPEND d) ∧ (s.prf d).dir = 0 then
    (s.modPrf d fun p => { p with limV := s.get (R.PRF_LIMV.LIMV d), limA := s.get (R.PRF_LIMA.LIMA d),
                                  limJ := s.get (R.PRF_LIMJ.LIMJ d) }).setB (R.PRF_STAT.LPEND d) false
  else s

/-- The planner of a domain in PRECHARGE starts from the latest VL sample since its entry (05 R117). -/
def State.planStart (s : State) (d : Nat) : State :=
  match (s.prf d).started, (s.dom d).dst, (s.dom d).vlP with
  | false, .precharge, some y =>
    s.modPrf d fun p => { p with started := true, p := s.railIn d y, v := 0, a := 0, dir := 0 }
  | _, _, _ => s

/-- An unsigned 32-bit readback, saturating (05 R123). -/
def sat32u (x : Int) : Nat := min x.toNat 0xFFFFFFFF

/-- The code of PSTATE for a direction (05 R120, R123). -/
def pstateOf (dir : Int) : Nat := if dir = 0 then 1 else if 0 < dir then 2 else 3

/-- The set-point in the scaling of VL, before saturation (05 R108). -/
def State.railOut (s : State) (d : Nat) (p : Int) : Int :=
  rndRaw (coefMul { m := s.reg (R.PRF_OUTM.at d), s := BitVec.ofNat 5 (s.get (R.PRF_OUTS.V d)) } p)

/-- The results of an update (05 R108, R116, R120, R123, R124). Event 0x0403 is raised at every update whose conversion saturates, OSAT
set before or not (log 53). -/
def State.planPublish (s : State) (d : Nat) (g : Target) (q : Quanta) (n : Plan × Bool) : State :=
  let r := s.railOut d n.1.p
  let s1 := s.modPrf d fun x =>
    { x with p := n.1.p, v := n.1.v, a := n.1.a, dir := n.1.dir, dem := g.dem, tLoc := g.tLoc, noWr := g.noWr, wrote := false,
             rVL := sat32 r }
  let s2 := (s1.set (R.PRF_STAT.PSTATE d) (pstateOf n.1.dir)).setB (R.PRF_STAT.BRAKE d) n.2
  let s3 := ((s2.set (R.PRF_TGTI.V d) g.t).set (R.PRF_POS.V d) (sat32u n.1.p)).setS (R.PRF_VEL.V d) n.1.v
  let s4 := ((s3.setS (R.PRF_ACC.V d) n.1.a).set (R.PRF_QJ.V d) (sat32u q.j)).set (R.PRF_QV.V d) (sat32u q.vd)
  let s5 := s4.set (R.PRF_QN.V d) (sat32u q.n)
  if sat32 r ≠ r then (s5.setB (R.PRF_STAT.OSAT d) true).raise 0x0403 1 (le 1 d ++ le 4 (sat32u n.1.p)) else s5

/-- The quanta in force. -/
def State.quanta (s : State) (d : Nat) : Quanta :=
  quantaOf (s.prf d).limV (s.prf d).limA (s.prf d).limJ (s.outerF d)

/-- The state of the planner. -/
def State.plan (s : State) (d : Nat) : Plan :=
  { p := (s.prf d).p, v := (s.prf d).v, a := (s.prf d).a, dir := (s.prf d).dir }

/-- A step under limits in error: any position, motion and BRAKE (00_scope.md R7; log 4). -/
def State.freePlan (s : State) (d : Nat) : Plan × Bool :=
  let v := s32 (s.freeWord (R.PRF_VEL.at d))
  let a := s32 (s.freeWord (R.PRF_ACC.at d))
  ({ p := (s.freeWord (R.PRF_POS.at d)).toNat, v := v, a := a,
     dir := if v = 0 ∧ a = 0 then 0 else if v < 0 ∨ (v = 0 ∧ a < 0) then -1 else 1 }, (s.freeWord (R.PRF_STAT.at d)).msb)

/-- One update of a planner that has started: flags, step, results (05 R116, R118). -/
def State.profileStep (s : State) (d : Nat) : State :=
  let g := s.target d
  let q := s.quanta d
  let s1 := s.targetFlags d g
  if quantaBad q then s1.bump.planPublish d g q (s1.freePlan d)
  else s1.planPublish d g q (planStep q (s.plan d) g.t (s.bit (R.PRF_STAT.BRAKE d)))

/-- An update can take place: the domain runs and its share holds a VL entry (05 R116, R117). -/
def State.updates (s : State) (d : Nat) : Bool :=
  s.coreRuns && dstRuns (s.dom d).dst && (s.frameEntry d (0x20 + d)).isSome

/-- PROFILE_UPDATE (05 R116). -/
def execProfileUpdate (d : Fin 4) (s : State) : Host.Outcome State Fault Refusal :=
  .next (if s.updates d && (s.planStart d |>.prf d).started then
    ((((s.planStart d).takeLimits d).profileStep d).settle) else s)

/-- A write to PRF_TGT (05 R110; 01 R18). -/
def State.tgtWrite (s : State) (d : Nat) (w : Word) : State :=
  (s.plainWrite (R.PRF_TGT.at d) w).modPrf d fun p => { p with wrote := true }

/-- PRF_TGT_WRITE (01 R18; 05 R110). -/
def execPrfTgtWrite (d : Fin 4) (word : Word) (s : State) : Host.Outcome State Fault Refusal :=
  .next (if s.coreRuns then s.tgtWrite d word else s)

/-- The address of a limit register (05 R123). -/
def prfLimAddr (d : Nat) : PrfLimit → Nat
  | .v => R.PRF_LIMV.at d
  | .a => R.PRF_LIMA.at d
  | .j => R.PRF_LIMJ.at d

/-- A write to a limit register waits with LPEND (05 R122). -/
def State.limWrite (s : State) (d : Nat) (which : PrfLimit) (w : Word) : State :=
  (s.plainWrite (prfLimAddr d which) w).setB (R.PRF_STAT.LPEND d) true

/-- PRF_LIMIT_WRITE (05 R122). -/
def execPrfLimitWrite (d : Fin 4) (which : PrfLimit) (word : Word) (s : State) : Host.Outcome State Fault Refusal :=
  .next (if s.coreRuns then s.limWrite d which word else s)

end Sys2Proof.Machine
end

