-- ==== Sys2Proof/Machine/Tdm.lean ====
section
/-! DEFINITION. The TDM ports (10_audio_inputs.md R238 to R242). -/

namespace Sys2Proof.Machine

/-- The number of a port: 0 TDM-A, 1 TDM-B. -/
def portNo : TdmPort → Nat
  | .a => 0
  | .b => 1

def State.tdm (s : State) (i : Nat) : Tdm := tblGet (fun _ => {}) s.tdms i
def State.modTdm (s : State) (i : Nat) (f : Tdm → Tdm) : State := { s with tdms := tblMod (fun _ => {}) s.tdms i f }

/-- The registers of a port (10 R244). -/
structure TdmRegs where
  cfg : Nat
  state : Fld
  fserr : Fld
  lost : Fld
  widx : Fld
  ratio : Fld
  len : Fld
  base : Fld

def tdmRegs (i : Nat) : TdmRegs :=
  if i = 0 then
    { cfg := R.TDM_ACFG.at, state := R.TDM_STAT.ASTATE, fserr := R.TDM_STAT.AFSERR, lost := R.TDM_STAT.ALOST,
      widx := R.TDM_AWIDX.V, ratio := R.TDM_ARATIO.V, len := R.TDM_ALEN.V, base := R.TDM_ARBASE0.V }
  else
    { cfg := R.TDM_BCFG.at, state := R.TDM_STAT.BSTATE, fserr := R.TDM_STAT.BFSERR, lost := R.TDM_STAT.BLOST,
      widx := R.TDM_BWIDX.V, ratio := R.TDM_BRATIO.V, len := R.TDM_BLEN.V, base := R.TDM_BIBASE.V }

/-- The format of a port; TDM_ACFG and TDM_BCFG share their field places (10 R244). -/
def State.tdmFld (s : State) (i : Nat) (f : Fld) : Nat := fldOf (s.reg (tdmRegs i).cfg) f
def State.tdmEn (s : State) (i : Nat) : Bool := s.coreRuns && s.tdmFld i R.TDM_BCFG.EN == 1
def State.tdmWords (s : State) (i : Nat) : Nat := s.tdmFld i R.TDM_BCFG.SLOTS + 1
def State.tdmP (s : State) (i : Nat) : Nat := if s.tdmFld i R.TDM_BCFG.NSR = 1 then 4096 else 8192

/-- A width code in bits (10 R244). -/
def tdmBits (c : Nat) : Nat := 16 + 8 * min c 2

/-- The bit clocks of a frame (10 R240). -/
def State.tdmClocks (s : State) (i : Nat) : Nat := s.tdmWords i * tdmBits (s.tdmFld i R.TDM_BCFG.SW)

/-- A format of a port that is an error of the host's own making (10 R238, R241, R244). -/
def State.tdmBad (s : State) (i : Nat) : Bool :=
  let sw := s.tdmFld i R.TDM_BCFG.SW
  let wl := s.tdmFld i R.TDM_BCFG.WL
  s.tdmFld i R.TDM_BCFG.SLOTS == 0 || sw == 3 || wl == 3 || decide (sw < wl) ||
    (i == 1 && s.bit R.TDM_BCFG.MST && s.tdmClocks 1 * 16 * (s.get R.TDM_BCFG.BDIV + 1) != s.tdmP 1)

/-- The fields of a format, which such an error leaves without effect. -/
def tdmFlds (i : Nat) : List Fld :=
  [R.TDM_BCFG.SLOTS, R.TDM_BCFG.SW, R.TDM_BCFG.WL].map fun f => { f with addr := (tdmRegs i).cfg }

/-- A received word as s32, left-justified (10 R238). -/
def State.tdmWord (s : State) (i : Nat) (w : Word) : Word := w <<< (32 - tdmBits (s.tdmFld i R.TDM_BCFG.WL))

/-- A frame written to one ring (10 R239). -/
def State.tdmRing (s : State) (i : Nat) (base : Fld) (ws : List Word) : State :=
  let n := s.tdmWords i
  let len := s.ringLen (tdmRegs i).len
  s.bump.galWords 21 (ringSlot (s.ringBase base len n) len n (s.get (tdmRegs i).widx)) ((ws ++ List.replicate n 0).take n)

/-- A frame in the rings of a port: words, frame count, and the stamp of its FS where it has one (10 R239). -/
def State.tdmWrite (s : State) (i : Nat) (l0 l1 : List Word) (fs : Option Nat) : State :=
  let s1 := s.tdmRing i (tdmRegs i).base (l0.map (s.tdmWord i))
  let s2 := if i = 0 ∧ s.bit R.TDM_ACFG.D1EN then s1.tdmRing 0 R.TDM_ARBASE1.V (l1.map (s.tdmWord 0)) else s1
  let s3 := s2.incWrap (tdmRegs i).widx
  match i, fs with
  | 0, some t => s3.set R.TDM_AFTS.V t
  | _, _ => s3

/-- The rate ratio of a port after one more frame (10 R237, R240). -/
def State.tdmRatio (s : State) (i fs : Nat) : State :=
  let x := s.tdm i
  match x.t0 with
  | none => s.modTdm i fun y => { y with t0 := some fs, span := 0 }
  | some t0 =>
    if x.span + 1 < 1024 then s.modTdm i fun y => { y with span := x.span + 1 }
    else (s.set (tdmRegs i).ratio (ratioOf (s.tdmP i) (fs - t0))).modTdm i fun y => { y with t0 := some fs, span := 0 }

/-- A completed good frame: written, counted, and the state after it (10 R239, R240). -/
def State.tdmGood (s : State) (i : Nat) (l0 l1 : List Word) (fs : Nat) : State :=
  let g := min ((s.tdm i).good + 1) 16
  let s1 := ((s.tdmWrite i l0 l1 (some fs)).tdmRatio i fs).modTdm i fun x => { x with good := g }
  let st := s.get (tdmRegs i).state
  if st = stWait ∨ (st = stLost ∧ g = 16) then s1.set (tdmRegs i).state stRun else s1

/-- An FS off the frame length: FSERR, event 0x0A12, the frame is discarded (10 R240, R245). -/
def State.tdmFsErr (s : State) (i clocks : Nat) : State :=
  ((s.setB (tdmRegs i).fserr true).modTdm i fun x => { x with good := 0, t0 := none }).raise 0x0A12 0 (le 1 i ++ le 4 clocks)

/-! ### Output slots of TDM-B -/

/-- A word of the output ring; of a word that fails its read it is not stated, a free value (log 8). -/
def State.outWord (s : State) (k : Nat) : Word × State :=
  let len := s.ringLen R.TDM_BLEN.V
  let a := ringSlot (s.ringBase R.TDM_BOBASE.V len (s.tdmWords 1)) len (s.tdmWords 1) (s.get R.TDM_BRIDX.V) + 4 * k
  let r := s.memFind 21 a
  if r.2 then (BitVec.ofNat 32 (s.rd32 a), r.1) else (s.freeWord a, r.1.bump)

/-- The source of an output slot (10 R242). -/
def State.slotValue (s : State) (k : Nat) : Int × State :=
  let ch := s.get (R.TDM_BSLOT.CH k)
  match s.get (R.TDM_BSLOT.SRC k) with
  | 1 => (s32 (s.outWord k).1, (s.outWord k).2)
  | 2 => ((s.loop (loopNo (ch / 4) (ch % 4))).x.getD (s.get (R.LFC_LDCFG.LDI (ch / 4))) 0, s)
  | 3 => ((s.loop (loopNo (ch / 4) (ch % 4))).yGood, s)
  | 4 => ((s.loop (loopNo (ch % 4) 4)).yGood, s)
  | 5 => ((s.loop (loopNo (ch / 4) (8 + ch % 4))).yGood, s)
  | _ => (0, s)

/-- The bits that slot k transmits: the WL most significant of the shifted value (10 R242). -/
def State.slotBits (s : State) (k : Nat) : Word × State :=
  let v := s.slotValue k
  let w := w32 (sat32 (v.1 * (2 ^ s.get (R.TDM_BSLOT.SH k) : Nat)))
  (w >>> (32 - tdmBits (s.tdmFld 1 R.TDM_BCFG.WL)), v.2)

/-- The slots from k on latched at an FS. -/
def State.latchSlots (s : State) : Nat → Nat → List Word × State
  | 0, _ => ([], s)
  | n + 1, k =>
    let w := s.slotBits k
    let r := w.2.latchSlots n (k + 1)
    (w.1 :: r.1, r.2)

/-- An FS of TDM-B: every output slot is latched, TDM_BRIDX increments (10 R242). -/
def State.outFrame (s : State) : State :=
  let r := s.latchSlots (s.tdmWords 1) 0
  (r.2.modTdm 1 fun x => { x with out := r.1 }).incWrap R.TDM_BRIDX.V

/-! ### Commands -/

/-- The stamp of an FS: within a tick of TB_NOW. An FS whose clock is the device's own, by MCLK_OUT or TDM-B as its master, keeps its
place against the ticks, so that the crossing adds the same to every stamp (02 R32, R35; 10 R240, R241). -/
def State.fsStamp (s : State) (i : Nat) (mclk : Bool) : Nat × State :=
  if (mclk || (i == 1 && s.bit R.TDM_BCFG.MST)) && (s.tdm i).last.isSome then ((s.now + (s.tdm i).skew).toNat, s) else s.nowFree

/-- An FS arrives at a port (10 R239, R240). A port that has seen none before has no frame to complete. -/
def State.tdmFs (s : State) (i : Nat) (l0 l1 : List Word) (clocks : Nat) (mclk : Bool) : State :=
  let n := s.fsStamp i mclk
  let s1 := match (n.2.tdm i).last with
    | none => n.2
    | some fs => if clocks = s.tdmClocks i then n.2.tdmGood i l0 l1 fs else n.2.tdmFsErr i clocks
  let s2 := s1.modTdm i fun x => { x with last := some n.1, skew := (n.1 : Int) - s.now }
  if i = 1 ∧ ¬ s.bit R.TDM_BCFG.MST then s2.outFrame else s2

/-- TDM_FRAME (10 R239). -/
def execTdmFrame (port : TdmPort) (line0 line1 : List Word) (clock : TdmClock) (s : State) :
    Host.Outcome State Fault Refusal :=
  let i := portNo port
  .next (if s.tdmEn i then s.underSettings (s.tdmBad i) (tdmFlds i) fun t => t.tdmFs i line0 line1 clock.bitClocks clock.mclk else s)

/-- A port loses its FS: LOST with event 0x0A11, then one all-zero frame, which has no FS (10 R236, R239, R240, R245). -/
def State.tdmLose (s : State) (i : Nat) : State :=
  let st := s.get (tdmRegs i).state
  let s1 := if st = stRun ∨ st = stWait then
      ((s.set (tdmRegs i).state stLost).setB (tdmRegs i).lost true).raise 0x0A11 1 (le 1 i ++ le 4 (s.get (tdmRegs i).widx))
    else s
  (s1.tdmWrite i [] [] none).modTdm i fun x => { x with good := 0, t0 := none }

/-- TDM_LOSS (10 R240). Zero-fill stops at the first good frame of a recovery. -/
def execTdmLoss (port : TdmPort) (s : State) : Host.Outcome State Fault Refusal :=
  let i := portNo port
  .next (if s.tdmEn i && (s.tdm i).last.isSome then s.underSettings (s.tdmBad i) (tdmFlds i) fun t => t.tdmLose i else s)

/-- TDMB_MASTER_FRAME: TDM-B as clock master starts a frame (10 R241, R242). -/
def execTdmbMasterFrame (s : State) : Host.Outcome State Fault Refusal :=
  .next (if s.tdmEn 1 && s.bit R.TDM_BCFG.MST then s.underSettings (s.tdmBad 1) (tdmFlds 1) State.outFrame else s)

/-- A write to TDM_ACFG or TDM_BCFG that changes the format while the port is in use (10 R244). -/
def State.tdmCfgBad (s : State) (i : Nat) (w : Word) : Bool :=
  s.tdmFld i R.TDM_BCFG.EN == 1 &&
    (((s.plainWrite (tdmRegs i).cfg w).reg (tdmRegs i).cfg).toNat ^^^ (s.reg (tdmRegs i).cfg).toNat) % 2 ^ 31 != 0

/-- A write to TDM_ACFG or TDM_BCFG: EN takes the port to WAIT, its clearing to OFF (10 R236, R240). -/
def State.tdmCfgWrite (s : State) (i : Nat) (w : Word) : State :=
  let was := s.tdmFld i R.TDM_BCFG.EN
  let s1 := s.plainWrite (tdmRegs i).cfg w
  let en := s1.tdmFld i R.TDM_BCFG.EN
  if was = en then s1 else (s1.set (tdmRegs i).state (if en = 1 then stWait else stOff)).modTdm i fun _ => {}

end Sys2Proof.Machine
end

