-- ==== Sys2Proof/Machine/Bus.lean ====
section
/-! DEFINITION. The register fabric: what a read and a write of a register do, by block, and the writes that are an error of the
host's own making (00_scope.md R7 to R13; 01_signal_to_speaker.md R21, R24, R25). -/

namespace Sys2Proof.Machine

/-! ### ENG, WIN and DMA -/

/-- A write to ENG_CTLe: DOM, and RUN 0 to 1 or 1 to 0 (09 R200, R201, R219, R224). -/
def State.engCtlWrite (s : State) (e : Nat) (w : Word) : State :=
  let was := s.engRun e
  let s1 := (s.plainWrite (R.ENG_CTL.at e) w).setB (R.ENG_CTL.RUN e) was
  let on := fldOf w (R.ENG_CTL.RUN e) = 1
  if on ∧ ¬ was then s1.engStart e else if ¬ on ∧ was then s1.engStop e else s1

/-- RSTRT: a FROZEN context restarts without counting (09 R222, R224). -/
def State.rstrtCtx (s : State) (e x : Nat) : State := if s.cxState e x = cxFrozen then s.ctxRestart e x else s

/-- A write to ENG_CTX of a context (09 R224). -/
def State.engCtxWrite (s : State) (e x : Nat) (w : Word) : State :=
  let s1 := s.plainWrite (R.ENG_CTX.at e x) w
  if fldOf w (R.ENG_CTX.RSTRT e x) = 1 then s1.rstrtCtx e x else s1

/-- A descriptor of a context (09 R213, R225). -/
def State.win (s : State) (e x i : Nat) : Win := tblGet (fun _ => {}) s.eng.wins (16 * (3 * e + x) + i)

/-- A descriptor replaced. -/
def State.setWin (s : State) (e x i : Nat) (d : Win) : State :=
  s.modEng fun g => { g with wins := tblSet (fun _ => {}) g.wins (16 * (3 * e + x) + i) d }

/-- The descriptor that WIN_IDX selects (09 R225). -/
def State.winSel (s : State) : Nat × Nat × Nat := (s.get R.WIN_IDX.ENG, s.get R.WIN_IDX.CTX, s.get R.WIN_IDX.DSC)

/-- The bits of WIN_DESC that it holds (09 R225). -/
def winDescMask (w : Word) : Word := w &&& 0xFFFFF00F#32

/-- A descriptor may be written: its context is STOP or FROZEN (09 R215). -/
def State.winOpen (s : State) (e x : Nat) : Bool := s.cxState e x == cxStop || s.cxState e x == cxFrozen

/-- A write to WIN_MAP commits the held word and the written word to the selected descriptor, or is refused (09 R215, R225). -/
def State.winMapWrite (s : State) (w : Word) : State :=
  let k := s.winSel
  if s.winOpen k.1 k.2.1 then s.setWin k.1 k.2.1 k.2.2 { desc := s.eng.winHold, map := w }
  else s.setB R.WIN_STAT.WREJ true

/-- A page that is a register block (01 R24). -/
def isBlock (b : Nat) : Bool :=
  [0x40000, 0x40001, 0x40002].contains b || (decide (0x40010 ≤ b) && decide (b < 0x40040) && decide (b % 16 < 4)) ||
    (decide (0x40040 ≤ b) && decide (b ≤ 0x40120) && b % 16 == 0)

/-- A valid descriptor that R213 does not allow; at most four register blocks lie side by side (09 R213; 01 R24). -/
def winBad (d : Win) : Bool :=
  let vb := d.desc.toNat / 4096
  let gb := d.map.toNat / 4096
  let n := d.map.toNat % 4096 + 1
  d.desc.getLsbD 0 &&
    if d.desc.getLsbD 3 then vb != gb || !(decide (n ≤ 4) && (List.range n).all fun i => isBlock (vb + i))
    else !(decide (0x10000 ≤ vb) && decide (vb + n ≤ 0x10400) && decide (0x10000 ≤ gb) && decide (gb + n ≤ 0x10400))

/-- A write to DMA_CHn commits only while the engine in the register and the engine named by the write are stopped (09 R216). -/
def State.dmaChWrite (s : State) (n : Nat) (w : Word) : State :=
  if s.engRun (s.get (R.DMA_CH.ENG n)) || s.engRun (fldOf w (R.DMA_CH.ENG n)) then s.setB R.DMA_STAT.WREJ true
  else s.plainWrite (R.DMA_CH.at n) w

/-- A FROZEN or ABORTED channel returns to IDLE (09 R226). -/
def State.dmaIdle (s : State) (n : Nat) : State :=
  if s.chState n = chFrozen ∨ s.chState n = chAborted then (s.setCh n chIdle).set (R.DMA_ST.CAUSE n) 0 else s

/-- A write to DMA_RST (09 R226). -/
def State.dmaRstWrite (s : State) (w : Word) : State :=
  (List.range 32).foldl (fun t n => if w.getLsbD n then t.dmaIdle n else t) s

/-- A write in ENG; engine contexts and DMA channels never write it (09 R214, R224). -/
def State.engWr (s : State) (m o : Nat) (w : Word) : State :=
  if m < 20 then s
  else if o < 0x40 then s.engCtlWrite (o / 4) w
  else if 0x400 ≤ o ∧ o < 0xA00 ∧ (ctxPlace o).2.2 = 0 then s.engCtxWrite (ctxPlace o).1 (ctxPlace o).2.1 w
  else s.plainWrite (0x40090000 + o) w

/-- A write in WIN (09 R214, R225). -/
def State.winWr (s : State) (m o : Nat) (w : Word) : State :=
  if m < 20 then s
  else if o = 4 then s.modEng fun g => { g with winHold := winDescMask w }
  else if o = 8 then s.winMapWrite w
  else s.plainWrite (0x400A0000 + o) w

/-- A write in DMA (09 R214, R226). -/
def State.dmaWr (s : State) (m o : Nat) (w : Word) : State :=
  if m < 20 then s
  else if o < 0x200 ∧ o % 0x10 = 0 then s.dmaChWrite (o / 0x10) w
  else if o = 0x204 then s.dmaRstWrite w
  else s.plainWrite (0x400B0000 + o) w

/-! ### IMG -/

/-- A reload request for domain d: refused for an absent or unusable copy, without effect in OFF, in RELOAD and in the queue;
whether it is refused under R282, and the state (11 R259; 12 R279, R282, R284). -/
def State.reloadAsk (s : State) (src : Nat) (pdn : Bool) (d : Nat) : Bool × State :=
  let dsrc := b2n (s.bitI R.IMG_STAT.DSRC d)
  let st := (s.dom d).dst
  if st = .off ∨ st = .reload then (false, s.setB R.IMG_STAT.RREJ true)
  else if s.sys.reloadQ.contains d then (false, s)
  else if src = 3 ∨ (src ≠ 0 ∧ src - 1 ≠ dsrc ∧ s.copyUsable (src - 1) = false) then (true, s)
  else (false, s.modDom d fun x => { x with relReq := some { copy := if src = 0 ∨ src - 1 = dsrc then 0 else src, pdn := pdn } })

/-- A write to IMG_RELOAD; event 0x0208 names the domains of the request (11 R259; 12 R282, R284, R285). -/
def State.imgReload (s : State) (w : Word) : State :=
  if fldOf w R.IMG_RELOAD.GO = 0 then s
  else
    let src := fldOf w R.IMG_RELOAD.SRC
    let pdn := fldOf w R.IMG_RELOAD.PDN == 1
    let ds := (List.range 4).filter fun d => (fldOf w R.IMG_RELOAD.DMASK).testBit d
    let r := ds.foldl (fun (a : Nat × State) d =>
      let b := a.2.reloadAsk src pdn d
      (if b.1 then a.1 + 2 ^ d else a.1, b.2)) (0, s)
    if r.1 = 0 then r.2 else r.2.reloadRefused (fldOf w R.IMG_RELOAD.DMASK) src

/-! ### Writes by block -/

/-- A write in LFC of domain d by a master (03 R69, R80, R84; 04 R105). -/
def State.lfcWr (s : State) (m d o : Nat) (w : Word) : State :=
  if o = 0x18 then s.swapWrite d (w.toNat % 0x1000) w.msb
  else if 0x30 ≤ o ∧ o < 0x40 then s.refWriteK d ((o - 0x30) / 4) w
  else if o = 0x50 then (s.plainWrite (R.LFC_CIDX.at d) w).ownIdx d m
  else if o = 0x54 then (s.cmWrite d w).ownMant d m
  else if o = 0x58 then s.csAct d (s.mixed d m) w
  else if o = 0x74 then s.ldcfgWrite d w
  else if o = 0x100 then s.zcfgWrite d w
  else s.plainWrite (0x40010000 + 0x1000 * d + o) w

/-- A write in PRF of domain d (05 R123). -/
def State.prfWr (s : State) (d o : Nat) (w : Word) : State :=
  if o = 0 then s.tgtWrite d w
  else if o = 4 then s.limWrite d .v w
  else if o = 8 then s.limWrite d .a w
  else if o = 0xC then s.limWrite d .j w
  else s.plainWrite (0x40020000 + 0x1000 * d + o) w

/-- The code of a correction register (07 R177). -/
def corrAt (o : Nat) : Nat := if o < 0xA00 then (o - 0x800) / 8 else 0x40 + (o - 0xA00) / 8

/-- A write to ADC_CALCTL: rotation, and NOW (07 R167). -/
def State.calctlWrite (s : State) (w : Word) : State :=
  let s1 := s.plainWrite R.ADC_CALCTL.at w
  if fldOf w R.ADC_CALCTL.NOW = 1 ∧ s1.rotates then s1.swapAsk else s1

/-- A write to a frame-table entry replaces it, with any ECC error of it (07 R159, R175). -/
def State.frameWrite (s : State) (i : Nat) (w : Word) : State :=
  (s.plainWrite (R.ADC_FRAME.at i) w).modAdc fun a => { a with ecc := tblErase a.ecc i }

/-- A write in ADC (07 R177). -/
def State.adcWr (s : State) (o : Nat) (w : Word) : State :=
  if o = 4 then s.refWrite (w.toNat % 4)
  else if o = 0xC then s.calctlWrite w
  else if o = 0x18 then s.injAct (w.toNat % 256)
  else if 0x400 ≤ o ∧ o < 0x700 then s.frameWrite ((o - 0x400) / 4) w
  else if 0x800 ≤ o ∧ corrCode (corrAt o) then
    if o % 8 = 0 then s.modAdc fun a => { a with corrHold := w } else s.corrCommit (corrAt o) w
  else s.plainWrite (0x40040000 + o) w

/-- A write in MON (08 R196). -/
def State.monWr (s : State) (o : Nat) (w : Word) : State :=
  if 0x300 ≤ o ∧ o < 0x3A8 then s.latchWrite (.mon (Fin.ofNat _ ((o - 0x300) / 4))) w
  else if o = 0x450 then s.latchWrite .nfst w
  else if o = 0x460 then s.testAct w
  else s.plainWrite (0x40050000 + o) w

/-- A write in FLS by a master: the DSU's clearing counts as the tester's (15 R344, R345). -/
def State.flsWr (s : State) (m o : Nat) (w : Word) : State :=
  if o = 0 then s.cursorWrite w
  else if o = 0x40 then (if w.msb then s.clearRequest (m == 23) else s)
  else s.plainWrite (0x40080000 + o) w

/-- A write in NET (10 R243). -/
def State.netWr (s : State) (o : Nat) (w : Word) : State :=
  if 0x100 ≤ o ∧ o < 0x180 ∧ o % 0x20 = 0 then s.scfgWrite ((o - 0x100) / 0x20) w
  else s.plainWrite (0x400C0000 + o) w

/-- A write in TDM (10 R244). -/
def State.tdmWr (s : State) (o : Nat) (w : Word) : State :=
  if o = 0 then s.tdmCfgWrite 0 w else if o = 4 then s.tdmCfgWrite 1 w else s.plainWrite (0x400D0000 + o) w

/-- A write in PWR: KEEP, and SLEEP (13 R289, R308). -/
def State.pwrWr (s : State) (o : Nat) (w : Word) : State :=
  let s1 := s.plainWrite (0x40110000 + o) w
  if o = 0x1C ∧ fldOf w R.PWR_CTL.SLEEP = 1 then s1.sleepWrite else s1

/-- A register write by a master takes effect (00 R10, R11; 01 R21, R25). The consequences follow in State.settle. -/
def State.busWr (s : State) (m a : Nat) (w : Word) : State :=
  let b := blkOf a
  let o := offOf a
  if !inRegs a then s
  else if b == 0x40070 && o == 0 then s.dripWrite w.toNat
  else if 0x40010 ≤ b ∧ b ≤ 0x40013 then s.lfcWr m (b - 0x40010) o w
  else if 0x40020 ≤ b ∧ b ≤ 0x40023 then s.prfWr (b - 0x40020) o w
  else if b = 0x40040 then s.adcWr o w
  else if b = 0x40050 then s.monWr o w
  else if b = 0x40080 then s.flsWr m o w
  else if b = 0x40090 then s.engWr m o w
  else if b = 0x400A0 then s.winWr m o w
  else if b = 0x400B0 then s.dmaWr m o w
  else if b = 0x400C0 then s.netWr o w
  else if b = 0x400D0 then s.tdmWr o w
  else if b = 0x40100 then (if m < 20 then s else if o = 4 then s.imgReload w else s.plainWrite a w)
  else if b = 0x40110 then s.pwrWr o w
  else s.plainWrite a w

/-! ### Writes that are an error of the host's own making -/

/-- The rule that a write in LFC breaks, but for LFC_CS (04 R105). -/
def State.lfcWrBad (s : State) (d o : Nat) (w : Word) : Option Nat :=
  if o = 0x74 then (if s.ldcfgBad d w then some 105 else none)
  else if o = 0x100 then (if s.zcfgBad d w then some 105 else none)
  else if o = 0x104 ∨ o = 0x108 then (if (s.dom d).zrun then some 105 else none)
  else if 0x90 ≤ o ∧ o < 0xC0 then (if s.running d ((o - 0x90) / 4) then some 105 else none)
  else if 0xC0 ≤ o ∧ o < 0xF0 then (if s.running d ((o - 0xC0) / 4) then some 105 else none)
  else none

/-- The rule that a write in ADC breaks, but for ADC_INJ and ADC_CORRS (07 R159). -/
def State.adcWrBad (s : State) (o : Nat) : Option Nat :=
  if 0x400 ≤ o ∧ o < 0x700 then (if dstRuns (s.dom ((o - 0x400) / 192)).dst then some 159 else none)
  else none

/-- The owning domain of a filter register of MON (08 R187, R196). -/
def filtOwner (o : Nat) : Option Nat := if o < 0x400 then srcOwner (2 * ((o - 0x100) / 4)) else some ((o - 0x400) / 8)

/-- The rule that a write in MON breaks, but for MON_TEST (08 R196). -/
def State.monWrBad (s : State) (o : Nat) : Option Nat :=
  if (0x100 ≤ o ∧ o < 0x1A8) ∨ (0x400 ≤ o ∧ o < 0x420) then
    match filtOwner o with
    | some d => if dstRuns (s.dom d).dst then some 196 else none
    | none => if (List.range 4).any fun d => dstRuns (s.dom d).dst then some 196 else none
  else none

/-- The rule that a write in ENG breaks (09 R202, R224). -/
def State.engWrBad (s : State) (o : Nat) (w : Word) : Option Nat :=
  if o < 0x40 then
    (if 4 ≤ fldOf w (R.ENG_CTL.DOM (o / 4)) ∧ fldOf w (R.ENG_CTL.DOM (o / 4)) < 15 then some 224 else none)
  else if 0x400 ≤ o ∧ o < 0xA00 then
    let p := ctxPlace o
    let on := s.engRun p.1
    if p.2.2 = 0 then
      (if on ∧ (fldOf w (R.ENG_CTX.EN p.1 p.2.1) ≠ s.get (R.ENG_CTX.EN p.1 p.2.1) ∨
          fldOf w (R.ENG_CTX.FPOL p.1 p.2.1) ≠ s.get (R.ENG_CTX.FPOL p.1 p.2.1)) then some 224 else none)
    else if p.2.2 = 4 then
      (if on then some 224
       else if fldOf w (R.ENG_TRG.PER p.1 p.2.1) < fldOf w (R.ENG_TRG.PHS p.1 p.2.1) then some 202 else none)
    else if p.2.2 = 8 then (if on then some 224 else none)
    else none
  else none

/-- The rule that a write in WIN breaks (09 R213, R225). -/
def State.winWrBad (s : State) (o : Nat) (w : Word) : Option Nat :=
  if o = 0 then (if fldOf w R.WIN_IDX.CTX = 3 then some 225 else none)
  else if o = 8 ∧ s.winOpen s.winSel.1 s.winSel.2.1 then (if winBad { desc := s.eng.winHold, map := w } then some 213 else none)
  else none

/-- The rule that a write in NET breaks (10 R243). -/
def State.netWrBad (s : State) (o : Nat) (w : Word) : Option Nat :=
  if 0x100 ≤ o ∧ o < 0x180 then
    let n := (o - 0x100) / 0x20
    if o % 0x20 = 0 then (if s.scfgBad n w then some 243 else none)
    else if o % 0x20 < 0x10 ∧ s.bit (R.NET_SCFG.EN n) then some 243 else none
  else none

/-- The rule that a write in PWM of domain d breaks (06 R153). -/
def State.pwmWrBad (s : State) (d o : Nat) : Option Nat :=
  let shut := (s.dom d).dst = .off ∨ (s.dom d).dst = .reload
  if (o = 0 ∨ (0x10 ≤ o ∧ o < 0x20) ∨ o = 0x50) ∧ ¬ shut then some 153 else none

/-- The rule that a register write breaks; none for a write that the host may make, one to an unassigned offset among them
(00 R7, R9, R10; 12 R279). -/
def State.busBad (s : State) (m a : Nat) (w : Word) : Option Nat :=
  let b := blkOf a
  let o := offOf a
  if !inRegs a then none
  else if a % 4 ≠ 0 then some 9
  else if (regRow a).isNone then none
  else if m == 23 && decide (0x40010 ≤ b) && decide (b < 0x40034) && decide (b % 16 < 4) && (s.dom (b % 16)).dst == .reload then
    some 279
  else if 0x40010 ≤ b ∧ b ≤ 0x40013 then s.lfcWrBad (b - 0x40010) o w
  else if 0x40020 ≤ b ∧ b ≤ 0x40023 then (if 0x30 ≤ o ∧ o < 0x40 ∧ (s.prf (b - 0x40020)).started then some 122 else none)
  else if 0x40030 ≤ b ∧ b ≤ 0x40033 then s.pwmWrBad (b - 0x40030) o
  else if b = 0x40040 then s.adcWrBad o
  else if b = 0x40050 then s.monWrBad o
  else if b = 0x40070 then
    (if o = 4 ∧ modeRwl s.sys.mode ∧ fldOf w R.DRP_WIN.TMAX < fldOf w R.DRP_WIN.TMIN then some 326 else none)
  else if b = 0x40080 then (if o = 0 ∧ !cursorOk w then some 342 else none)
  else if m < 20 ∧ (b = 0x40090 ∨ b = 0x400A0 ∨ b = 0x400B0 ∨ b = 0x40100) then none
  else if b = 0x40090 then s.engWrBad o w
  else if b = 0x400A0 then s.winWrBad o w
  else if b = 0x400C0 then s.netWrBad o w
  else if b = 0x400D0 then
    (if (o = 0 ∧ s.tdmCfgBad 0 w) ∨ (o = 4 ∧ s.tdmCfgBad 1 w) then some 244 else none)
  else if b = 0x40110 then
    (if a = R.PWR_THR.at ∧ modeRwl s.sys.mode ∧ fldOf w R.PWR_THR.CREX ≤ fldOf w R.PWR_THR.CRTH then some 295 else none)
  else if b = 0x40120 then
    (if o = 0 ∧ modeRwl s.sys.mode ∧ fldOf w R.ENS_CFG.NDEV < fldOf w R.ENS_CFG.POS then some 52 else none)
  else none

/-! ### Reads -/

/-- A word with a field put where a condition holds, for fields that mirror other state. -/
def putB (w : Word) (f : Fld) (b : Bool) : Word := fldPut w f (b2n b)

/-- Bits gathered from a test on the four domains. -/
def bits4 (f : Nat → Bool) : Nat := (List.range 4).foldl (fun v d => v + b2n (f d) * 2 ^ d) 0

/-- Bits gathered from a test on a range. -/
def bitsUpto (n : Nat) (f : Nat → Bool) : Nat := (List.range n).foldl (fun v i => v + b2n (f i) * 2 ^ i) 0

/-- The oldest SEQ present (15 R337): of the main and spill rings, and of the mirror in DEGRADED. -/
def State.oldestSeq (s : State) : Nat :=
  let clr := s.fls.cnt.clrSeq
  let live := fun (t : Tbl Slot) => t.filterMap fun e => match e.2 with
    | .rcd r => if seqLe r.seq clr then none else some r.seq
    | _ => none
  let qs := live s.fls.main ++ live (spillOf s.fls.tal) ++ (if s.bit R.FLS_STAT.DEGRADED then s.fls.mirror.map (·.seq) else [])
  match qs with
  | [] => 0
  | q :: t => (t.foldl (fun (m : BitVec 32) x => if seqLe m x then m else x) q).toNat

/-- What SYS reads (00 R2; 11 R262). -/
def State.sysRd (s : State) (a : Nat) : Word :=
  if a = R.SYS_ID.at then (fldPut (s.reg a) R.SYS_ID.VARIANT (b2n s.fuse.keyed)) |> fun w => putB w R.SYS_ID.AUTH_EN s.fuse.keyed
  else if a = R.SYS_MODE.at then
    fldPut (fldPut (s.reg a) R.SYS_MODE.MODE (modeCode s.sys.mode)) R.SYS_MODE.DST
      ((List.range 4).foldl (fun v d => v + dstCode (s.dom d).dst * 8 ^ d) 0)
  else if a = R.SYS_DSTAT.at then fldPut (s.reg a) R.SYS_DSTAT.RQ (bits4 s.sys.reloadQ.contains)
  else s.reg a

/-- The sums of the impedance measurement by register offset (04 R104, R105). -/
def zSumAt (x : Dom) (o : Nat) : Int :=
  if o < 0x118 then x.zvs else if o < 0x120 then x.zvc else if o < 0x128 then x.zis else x.zic

/-- What LFC of domain d reads (03 R69, R84; 04 R105). -/
def State.lfcRd (s : State) (d o : Nat) : Word :=
  let w := s.reg (0x40010000 + 0x1000 * d + o)
  if o = 0 then
    putB (putB w (R.LFC_STAT.LFAULT d) (s.get (R.LFC_FAULT.LF d) != 0)) (R.LFC_STAT.SAT d) (s.reg (R.LFC_SAT.at d) != 0)
  else if o = 0x54 then (s.cRead d).1
  else if o = 0x58 then (s.cRead d).2
  else if 0x110 ≤ o ∧ o < 0x130 then BitVec.ofNat 32 (bitsN 64 (zSumAt (s.dom d) o) / (if o % 8 = 0 then 1 else 2 ^ 32))
  else w

/-- What ADC reads through latch lk, but for the removal from the queue (07 R172, R177). -/
def State.adcRd (s : State) (lk o : Nat) : Word :=
  let w := s.reg (0x40040000 + o)
  if o = 0x1C then putB (fldPut w R.ADC_INJSTAT.PEND s.injPend.length) R.ADC_INJSTAT.FULL (decide (8 ≤ s.injPend.length))
  else if o = 0x24 then fldPut w R.ADC_QSTAT.LEVEL s.adc.queue.length
  else if o = 0x28 then tblGet (fun _ => 0) s.adc.qts lk
  else w

/-- What MON_PSTAT reads (08 R196). -/
def State.pstatRd (s : State) : Word :=
  let de := s.protDe
  let as_ := s.protAs
  let w := putB (putB 0 R.MON_PSTAT.NFAULT (s.pinNFault == .low)) R.MON_PSTAT.ENSF s.protEns
  fldPut (fldPut (fldPut w R.MON_PSTAT.FREQ (bits4 fun d => decide (2 ≤ s.protReq d)))
    R.MON_PSTAT.MREQ (bits4 s.mutedReq)) R.MON_PSTAT.OVD
      (bits4 fun d => dstRuns (s.dom d).dst && (de d != 0 || as_ d != 0))

/-- What ENG reads (09 R224). -/
def State.engRd (s : State) (a o : Nat) : Word :=
  let frz := fun (x : Nat) => bitsUpto 16 fun e => s.cxState e x == cxFrozen
  if o < 0x40 then fldPut (s.reg a) (R.ENG_CTL.FRZ (o / 4)) (bitsUpto 3 fun x => s.cxState (o / 4) x == cxFrozen)
  else if o = 0x84 then BitVec.ofNat 32 (frz 1 * 0x10000 + frz 0)
  else if o = 0x88 then BitVec.ofNat 32 (frz 2)
  else s.reg a

/-- What PWR reads; HOLDRDY is free where nothing fixes the voltage on VHOLD (13 R303, R308; log 29). -/
def State.pwrRd (s : State) (a : Nat) : Word :=
  if a = R.PWR_STAT.at then
    let p := s.pwr
    let w := putB (putB (putB (s.reg a) R.PWR_STAT.VAUXOK p.vauxGood) R.PWR_STAT.INH p.inh) R.PWR_STAT.PGX p.pgx
    fldPut (putB (putB w R.PWR_STAT.WREQ s.wakeReq) R.PWR_STAT.HOLDRDY (p.holdRdy.getD ((s.freeWord a).getLsbD 0))) R.PWR_STAT.RAILOK p.rails.toNat
  else s.reg a

/-- What FLS reads (15 R342, R345). -/
def State.flsRd (s : State) (a : Nat) : Word :=
  let up := s.bit R.FLS_STAT.READY
  if a = R.FLS_STAT.at then fldPut (s.reg a) R.FLS_STAT.STGLVL s.fls.stage.length
  else if a = R.FLS_SEQ_OLD.at then (if up then BitVec.ofNat 32 s.oldestSeq else 0)
  else if a = R.FLS_SEQ_NEW.at then (if up then s.fls.lastSeq else 0)
  else s.reg a

/-- The word that a read of an address returns; lk is the number of its TB_NOW latch (00 R10, R11; 02 R37).
While a supply fault holds the core, registers are not defined: free values (13 R293; log 8). -/
def State.busVal (s : State) (lk a : Nat) : Word :=
  let b := blkOf a
  let o := offOf a
  let wo := match regRow a with
    | some r => BitVec.ofNat 32 r.wo
    | none => 0
  let v :=
    if b = 0x40000 then s.sysRd a
    else if a = R.TB_NOW_LO.at then BitVec.ofNat 32 s.now
    else if a = R.TB_NOW_HI.at then s.tbLatch lk
    else if 0x40010 ≤ b ∧ b ≤ 0x40013 then s.lfcRd (b - 0x40010) o
    else if a = R.ADC_QDATA.at then (s.qRead lk).2
    else if b = 0x40040 then s.adcRd lk o
    else if a = R.MON_PSTAT.at then s.pstatRd
    else if a = R.THM_STAT.at then putB (s.reg a) R.THM_STAT.RISE s.riseRegime
    else if b = 0x40080 then s.flsRd a
    else if b = 0x40090 then s.engRd a o
    else if a = R.WIN_DESC.at then (s.win s.winSel.1 s.winSel.2.1 s.winSel.2.2).desc
    else if a = R.WIN_MAP.at then (s.win s.winSel.1 s.winSel.2.1 s.winSel.2.2).map
    else if a = R.DMA_FRZ.at then BitVec.ofNat 32 (bitsUpto 32 fun n => s.chState n == chFrozen)
    else if a = R.NET_STAT.at then putB (s.reg a) R.NET_STAT.GVALID (s.bit R.TB_MAP_STAT.VALID)
    else if a = R.CAN_STAT.at then (if s.canInService then s.reg a else fldPut (s.reg a) R.CAN_STAT.STATE 3)
    else if a = R.DSU_STAT.at then fldPut (s.reg a) R.DSU_STAT.SACNT s.pwr.saCnt
    else if b = 0x40110 then s.pwrRd a
    else s.reg a
  if (regRow a).isNone then 0 else if s.pwr.supplyHeld then s.freeWord a else v &&& ~~~wo

/-- What a read changes: the latch of TB_NOW, the queue, the index of LFC_CS, the copy of FLS_DATA7
(02 R37; 03 R69; 07 R172; 15 R342). -/
def State.busRdEffect (s : State) (lk a : Nat) : State :=
  let b := blkOf a
  if a = R.TB_NOW_LO.at then s.tbLoRead lk
  else if a = R.ADC_QDATA.at then (s.qRead lk).1
  else if 0x40010 ≤ b ∧ b ≤ 0x40013 ∧ offOf a = 0x54 ∧ s.cidxOk (b - 0x40010) then s.portFind (b - 0x40010)
  else if 0x40010 ≤ b ∧ b ≤ 0x40013 ∧ offOf a = 0x58 then
    (if s.cidxOk (b - 0x40010) then s.portFind (b - 0x40010) else s).cidxStep (b - 0x40010)
  else if a = R.FLS_DATA.at 7 then s.data7Read
  else s

/-- A register read: the word it returns and what it changes. -/
def State.busRd (s : State) (lk a : Nat) : Word × State :=
  if inRegs a then (s.busVal lk a, s.busRdEffect lk a) else (0, s)

/-- The rule that a read by a master breaks: LFC_CM and LFC_CS with a selection that names no entry, or in the middle of a sequence of
another master (03 R69, R84). -/
def State.busRdBad (s : State) (m a : Nat) : Option Nat :=
  let b := blkOf a
  if !inRegs a then none
  else if a % 4 ≠ 0 then some 9
  else if 0x40010 ≤ b ∧ b ≤ 0x40013 ∧ (offOf a = 0x54 ∨ offOf a = 0x58) then
    (if !s.cidxOk (b - 0x40010) then some 84 else if s.mixed (b - 0x40010) m then some 69 else none)
  else none

/-- A read; one that is an error of the host's own making returns a free word (00_scope.md R7; log 4). -/
def State.busRead (s : State) (m lk a : Nat) : Word × State :=
  match s.busRdBad m a with
  | none => s.busRd lk a
  | some _ => (s.freeWord a, (s.busRd lk (a / 4 * 4)).2.bump)

/-! ### Writes in service -/

/-- A selection of a context that exists (09 R225). -/
def winIdxFix (w : Word) : Word := fldPut w R.WIN_IDX.CTX (fldOf w R.WIN_IDX.CTX % 3)

/-- A domain that an engine can serve (09 R224). -/
def domFix (e : Nat) (w fw : Word) : Word :=
  fldPut w (R.ENG_CTL.DOM e) (if fw.toNat % 5 = 4 then 15 else fw.toNat % 5)

/-- EN and FPOL of a context, of which the affected context takes any (09 R224). -/
def ctxFix (e x : Nat) (w fw : Word) : Word :=
  fldPut (fldPut w (R.ENG_CTX.EN e x) (fldOf fw (R.ENG_CTX.EN e x))) (R.ENG_CTX.FPOL e x) (fldOf fw (R.ENG_CTX.FPOL e x))

/-- The word that stands in for a write that is an error of the host's own making: a free word fw where the affected function is the
whole register; a free value of the field that is in error, where the register serves other functions too (00_scope.md R7; log 4). -/
def busFix (a : Nat) (w fw : Word) : Word :=
  let b := blkOf a
  let o := offOf a
  if a = R.WIN_IDX.at then winIdxFix fw
  else if a = R.FLS_CURSOR.at then cursorFix w fw
  else if 0x40010 ≤ b ∧ b ≤ 0x40013 ∧ o = 0x74 then ldcfgFix (b - 0x40010) w fw
  else if 0x40010 ≤ b ∧ b ≤ 0x40013 ∧ o = 0x100 then zcfgFix (b - 0x40010) w fw
  else if b = 0x40090 ∧ o < 0x40 then domFix (o / 4) w fw
  else if b = 0x40090 ∧ 0x400 ≤ o ∧ (ctxPlace o).2.2 = 0 then ctxFix (ctxPlace o).1 (ctxPlace o).2.1 w fw
  else fw

/-- A write by a master, an error of the host's own making among them (00 R7, R9). -/
def State.busWrite (s : State) (m a : Nat) (w : Word) : State :=
  match s.busBad m a w with
  | none => s.busWr m a w
  | some _ => s.bump.busWr m (a / 4 * 4) (busFix (a / 4 * 4) w (s.freeWord a))

/-- A master is served alone in its cycle: the pointer moves to one past it (01 R21). -/
def State.busGrant (s : State) (m : Nat) : State := s.modEng fun g => { g with rhoR := (m + 1) % 25 }

/-! ### REGISTER_WRITE -/

/-- The accesses of one cycle in the order of service: from the master at or above the pointer, rising, then from the lowest
(01 R21). Each queue presents at most one access. -/
def rotate (rho : Nat) (l : List RegAccess) : List RegAccess :=
  (List.range 25).filterMap fun i => l.find? fun x => x.master.val == (rho + i) % 25

/-- The counters that a write can set and that the hardware counts (00 R13). -/
def hwCounters : List Fld :=
  ((List.range 4).map fun d => R.LFC_MISSCNT.TOTAL d) ++
    [R.ADC_QSTAT.OVFCNT, R.ENG_GSTAT.CORCNT, R.PWR_CRCNT.CNT] ++
      allCtxs.map fun q => R.ENG_CTX.OVRN q.1 q.2

/-- What the hardware does to a register in the cycle of a write: it sets W1C bits, which win over the write, and counts from the
value written (00 R13). -/
def State.hwUpdate (s : State) (a : Nat) (hw : Word) : State :=
  match regRow a with
  | none => s
  | some r =>
    let s1 := if hw &&& BitVec.ofNat 32 r.w1c = 0 then s else s.setReg a (s.reg a ||| (hw &&& BitVec.ofNat 32 r.w1c))
    hwCounters.foldl (fun t f => if f.addr = a ∧ hw.getLsbD f.lo then t.incSat f else t) s1

/-- The latch key of a master that is no engine and no mover: the DSU has one, the others none of their own (02 R37). -/
def latchKey (m : Nat) : Nat := if m < 16 then 3 * m else if m = 23 then 80 else 81

/-- The oldest access of the queue of a master takes effect; the word of a read goes on its way to the context that waits for it
(09 R198, R204). -/
def State.serveQueue (s : State) (m : Nat) : State :=
  match s.regQ m with
  | [] => s
  | q :: t =>
    let s1 := s.setRegQ m t
    match q.word, q.ctx with
    | some w, _ => s1.busWrite m q.addr w
    | none, some x =>
      let r := s1.busRead m (3 * m + x) q.addr
      r.2.modCtx m x fun c => { c with rd := fillRead r.1 c.rd }
    | none, none => (s1.busRead m (latchKey m) q.addr).2

/-- One access takes effect (00 R11, R13; 01 R21). -/
def State.serveOne (s : State) (x : RegAccess) : State :=
  if x.queued then (if x.master.val < 20 then s.serveQueue x.master.val else s)
  else if x.read then (s.busRead x.master.val (latchKey x.master.val) x.addr.toNat).2
  else (s.busWrite x.master.val x.addr.toNat x.value).hwUpdate (x.addr.toNat / 4 * 4) x.hw

/-- The accesses one after another (01 R21). -/
def State.serve (s : State) : List RegAccess → State
  | [] => s
  | x :: t => (s.serveOne x).serve t

/-- The pointer after a cycle: one past the last master served (01 R21). -/
def rhoAfter (rho : Nat) (l : List RegAccess) : Nat :=
  match l.getLast? with
  | some x => (x.master.val + 1) % 25
  | none => rho

/-- REGISTER_WRITE: the accesses of one cycle (00 R11, R13; 01 R21). -/
def execRegisterWrite (accesses : List RegAccess) (s : State) : Host.Outcome State Fault Refusal :=
  .next (if s.coreRuns then
    let q := rotate s.eng.rhoR accesses
    ((s.serve q).modEng fun g => { g with rhoR := rhoAfter s.eng.rhoR q }).settle
  else s)

/-- IMG_RELOAD_REQUEST: a write to IMG_RELOAD (11 R259; 12 R282). -/
def execImgReloadRequest (word : Word) (s : State) : Host.Outcome State Fault Refusal :=
  .next (if s.coreRuns then (s.imgReload word).settle else s)

end Sys2Proof.Machine
end

