-- ==== Sys2Proof/Machine/Can.lean ====
section
/-! DEFINITION. The CAN FD port: control frames, error states, and the transport of diagnostic messages
(16_service_and_vehicle_bus.md R348 to R352, R368, R369). -/

namespace Sys2Proof.Machine

/-- The port exchanges frames: in service, enabled, not bus-off (16 R348, R349, R369). -/
def State.canOn (s : State) : Bool := s.diagOn

/-! ### Control frames -/

/-- A word of the control-frame section (16 R350). -/
def State.ctlWord (s : State) (i k : Nat) : Nat := leVal ((s.img.ctl.drop (4 + 16 * i + 4 * k)).take 4)

/-- The entries of the section (16 R350). -/
def State.ctlCount (s : State) : Nat := leVal (s.img.ctl.take 4)

/-- A frame matches an entry: masked identifier and IDE (16 R350). -/
def State.ctlMatch (s : State) (f : CanFrame) (i : Nat) : Bool :=
  let m := s.ctlWord i 1 % 2 ^ 29
  (s.ctlWord i 0).testBit 31 == f.ext && (f.id.toNat &&& m) == (s.ctlWord i 0 % 2 ^ 29 &&& m)

/-- The entry takes the frame: long enough, and FD only where allowed (16 R350). -/
def State.ctlTakes (s : State) (f : CanFrame) (i : Nat) : Bool :=
  decide (s.ctlWord i 2 % 128 ≤ f.data.length) && (!f.fd || (s.ctlWord i 2).testBit 7)

/-- The words of some bytes, padded with zeros (16 R351). -/
def padWords (n : Nat) (l : List Byte) : List Word :=
  (List.range n).map fun i => BitVec.ofNat 32 (leVal (((l.drop (4 * i)).take 4 ++ List.replicate 4 0).take 4))

/-- A mailbox as R350 allows: 8-byte aligned in Gallery (16 R350, R351). -/
def mailboxOk (a : Nat) : Bool := a % 8 == 0 && inGallery a && inGallery (a + 71)

/-- The windows of two contexts overlap a mailbox: one of them is not that of its reader (16 R351; log 83). -/
def State.mailboxShared (s : State) (a : Nat) : Bool :=
  let on := s.eng.wins.filterMap fun e =>
    let d := e.2
    let g := d.map.toNat / 4096 * 4096
    if d.desc.getLsbD 0 && !d.desc.getLsbD 3 && decide (a < g + 4096 * (d.map.toNat % 4096 + 1)) && decide (g < a + 72) then some (e.1 / 16)
    else none
  on.any fun x => on.any fun y => x != y

/-- The place of a mailbox; for one that R350 does not allow, an error of the host's own making, any place of Gallery
(00_scope.md R7; 16 R350; log 4). -/
def State.mailboxAt (s : State) (a : Nat) : Nat :=
  if mailboxOk a then a else 0x10000000 + 8 * ((s.freeWord a).toNat % ((0x400000 - 72) / 8 + 1))

/-- What a mailbox takes; free words for one that another context's window overlaps, an error of the host's own making
(00_scope.md R7; 16 R351; log 4). -/
def State.mailboxWords (s : State) (box a : Nat) (l : List Word) : List Word :=
  if s.mailboxShared box then (List.range l.length).map fun i => s.freeWord (a + 4 * i) else l

/-- A mailbox takes a frame: data, stamp, then the count; the frame end crosses from the clock of the port (16 R351; 02 R35). -/
def State.mailboxWrite (s : State) (a : Nat) (f : CanFrame) : State :=
  let n := (s.rd32 a + 1) % 2 ^ 32
  let (t, s0) := s.nowFree
  let s1 := s0.galWords 23 (a + 8) (s0.mailboxWords a (a + 8) (padWords 16 f.data))
  let s2 := s1.galWords 23 (a + 4) (s1.mailboxWords a (a + 4) [BitVec.ofNat 32 t])
  s2.galWords 23 a (s2.mailboxWords a a [BitVec.ofNat 32 n])

/-- A control frame goes to the lowest entry that matches it, or nowhere; one that finds the queue full is dropped, and RXOVF tells
(16 R350, R351; 02 R34). -/
def State.controlFrame (s : State) (f : CanFrame) (full : Bool) : State :=
  match (List.range s.ctlCount).find? (s.ctlMatch f) with
  | some i =>
    if !s.ctlTakes f i then s
    else if full then s.setB R.CAN_STAT.RXOVF true
    else (s.bump.mailboxWrite (s.mailboxAt (s.ctlWord i 3)) f).setI R.CAN_TMO.V i false
  | none => s

/-- CONTROL_FRAME_RECEIVED; a remote frame is ignored (16 R348, R350, R351). -/
def execControlFrameReceived (a : CanArrival) (s : State) : Host.Outcome State Fault Refusal :=
  .next (if s.canOn && !a.frame.remote && (!a.frame.fd || s.bit R.CAN_CFG.FDEN) then (s.controlFrame a.frame a.full).settle else s)

/-- An entry times out: its bit of CAN_TMO, event 0x0B81 (16 R351, R371). -/
def State.controlTimeout (s : State) (i : Nat) : State :=
  if i < s.ctlCount ∧ s.ctlWord i 2 / 65536 ≠ 0 ∧ s.bitI R.CAN_TMO.V i = false then
    (s.setI R.CAN_TMO.V i true).raise 0x0B81 1 (le 1 i ++ le 4 (s.ctlWord i 0))
  else s

/-- CONTROL_FRAME_TIMEOUT (16 R351). -/
def execControlFrameTimeout (i : Fin 32) (s : State) : Host.Outcome State Fault Refusal :=
  .next (if s.canInService && s.bit R.CAN_CFG.EN then s.controlTimeout i else s)

/-! ### Error states -/

/-- The error counters as the port counted them (16 R369). -/
def State.canCounts (s : State) (tec recv : BitVec 8) : State := (s.set R.CAN_STAT.TEC tec.toNat).set R.CAN_STAT.REC recv.toNat

/-- A multi-frame message in either direction is abandoned (16 R368). -/
def State.tpAbandon (s : State) : State := s.modDsu fun x => { x with rx := none, tx := none }

/-- BUS_OFF (16 R348, R368, R369, R371). -/
def execBusOff (tec recv : BitVec 8) (s : State) : Host.Outcome State Fault Refusal :=
  .next (if s.canOn then
    ((((s.canCounts tec recv).set R.CAN_STAT.STATE 2).setB R.CAN_STAT.BOFF true).raise 0x0B80 1
      (le 1 tec.toNat ++ le 1 recv.toNat ++ le 4 s.now)).tpAbandon
  else s)

/-- ERROR_PASSIVE (16 R348, R369, R371). -/
def execErrorPassive (tec recv : BitVec 8) (s : State) : Host.Outcome State Fault Refusal :=
  .next (if s.canOn && s.get R.CAN_STAT.STATE == 0 then
    (((s.canCounts tec recv).set R.CAN_STAT.STATE 1).setB R.CAN_STAT.EPASS true).raise 0x0B82 0
      (le 1 tec.toNat ++ le 1 recv.toNat)
  else s)

/-- ERROR_ACTIVE: an error-passive port returns to error active (16 R348, R369). -/
def execErrorActive (tec recv : BitVec 8) (s : State) : Host.Outcome State Fault Refusal :=
  .next (if s.canOn && s.get R.CAN_STAT.STATE == 1 then (s.canCounts tec recv).set R.CAN_STAT.STATE 0 else s)

/-- BUS_OFF_RECOVERY: error active again, both counters at 0 (16 R348, R369; log 15). -/
def execBusOffRecovery (s : State) : Host.Outcome State Fault Refusal :=
  .next (if s.canInService && s.bit R.CAN_CFG.EN && s.get R.CAN_STAT.STATE == 2 then
    (s.canCounts 0 0).set R.CAN_STAT.STATE 0 else s)

/-! ### Transport -/

/-- Flow control: clear to send with BS and STmin (16 R352, R369). -/
def State.flowBytes (s : State) : List Byte :=
  [0x30, BitVec.ofNat 8 (s.get R.CAN_TPCFG.BS), BitVec.ofNat 8 (s.get R.CAN_TPCFG.STMIN)]

/-- Flow control goes out, in the frame format of the message it answers (16 R352, R369). -/
def State.sendFlow (s : State) (fd : Bool) : State :=
  s.modDsu fun x => { x with fc := s.flowBytes, out := [s.frameOf fd s.flowBytes] }

/-- A First Frame starts a reception, or restarts one; too long, or no longer than its own data, and it is ignored, as is one in an
FD frame, known by its data, where FD frames are not in use (16 R352, R369; log 15). -/
def State.rxFirst (s : State) (len : Nat) (data : List Byte) : State :=
  let fd := decide (6 < data.length)
  if len ≤ data.length ∨ 4095 < len ∨ (fd && !s.bit R.CAN_CFG.FDEN) then s
  else (s.modDsu fun x => { x with rx := some { len := len, buf := data, sn := 1, left := s.get R.CAN_TPCFG.BS, fd := fd } }).sendFlow fd

/-- A consecutive frame: in sequence it goes on, out of sequence it ends the reception; with the last one the message is whole,
and its service's command follows (16 R352; log 15). -/
def State.rxNext (s : State) (sn : BitVec 4) (data : List Byte) : State :=
  match s.dsu.rx with
  | none => s
  | some r =>
    if sn.toNat ≠ r.sn ∨ r.len ≤ r.buf.length + data.length then s.modDsu fun x => { x with rx := none }
    else
      let stop := r.left == 1
      let t := s.modDsu fun x =>
        { x with rx := some { r with buf := r.buf ++ data, sn := (r.sn + 1) % 16, left := if stop then s.get R.CAN_TPCFG.BS else r.left - 1 } }
      if stop then t.sendFlow r.fd else t

/-- FIRST_FRAME: a segment of a multi-frame request, ignored while a response is pending (16 R352, R353). -/
def execFirstFrame (p : TpFrame) (s : State) : Host.Outcome State Fault Refusal :=
  .next (if s.reqOn then
    match p with
    | .first len data => s.rxFirst len data
    | .consecutive sn data => s.rxNext sn data
  else s)

/-- Up to bs consecutive frames of a message go out, all of them for bs = 0 (16 R352). -/
def State.sendNext (s : State) (bs : Nat) (m : TpTx) : State :=
  let rest := if bs = 0 then [] else m.rest.drop (bs * cfData m.fd)
  s.modDsu fun x =>
    { x with tx := if rest.isEmpty then none else some { m with rest := rest, sn := (m.sn + bs) % 16 },
             out := (cfBytes m.fd (if bs = 0 then m.rest.length else bs) m.sn m.rest).map (s.frameOf m.fd) }

/-- FLOW_CONTROL_FRAME: the next block of the response goes out (16 R352). -/
def execFlowControlFrame (bs stmin : BitVec 8) (s : State) : Host.Outcome State Fault Refusal :=
  let _ := stmin
  .next (if s.diagOn then
    match s.dsu.tx with
    | some m => s.sendNext bs.toNat m
    | none => s
  else s)

/-- TRANSPORT_TIMEOUT: the message is abandoned without response (16 R352). -/
def execTransportTimeout (which : TpTimer) (s : State) : Host.Outcome State Fault Refusal :=
  .next (match which with
    | .nBs => s.modDsu fun x => { x with tx := none }
    | .nCr => s.modDsu fun x => { x with rx := none })

end Sys2Proof.Machine
end

