-- ==== Sys2Proof/Machine/Flags.lean ====
section
/-! DEFINITION. The flags of an engine context and the conditions of SKIP (09_zuelm_engines_and_gallery.md R206, R207). -/

namespace Sys2Proof.Machine

/-- Z and N of a result (09 R207). -/
def Ctx.flagsZN (c : Ctx) (r : Word) : Ctx := { c with z := r == 0, n := r.msb }

/-- SAT is sticky (09 R206, R207). -/
def Ctx.flagSat (c : Ctx) (b : Bool) : Ctx := { c with sat := c.sat || b }

/-- The sum of two words leaves the s32 range: V of ADD (09 R207). -/
def addV (a b : Word) : Bool := decide (s32 a + s32 b ≠ sat32 (s32 a + s32 b))

/-- The difference of two words leaves the s32 range: V of SUB (09 R207). -/
def subV (a b : Word) : Bool := decide (s32 a - s32 b ≠ sat32 (s32 a - s32 b))

/-- The unsigned carry out of a sum: C of ADD (09 R207). -/
def addC (a b : Word) : Bool := decide (2 ^ 32 ≤ a.toNat + b.toNat)

/-- The unsigned borrow of a difference: C of SUB and CMP (09 R207). -/
def subC (a b : Word) : Bool := decide (a.toNat < b.toNat)

/-- ADD: wraps, or saturates where asked for (09 R206). -/
def addRes (sat : Bool) (a b : Word) : Word := if sat then w32 (sat32 (s32 a + s32 b)) else a + b

/-- SUB: wraps, or saturates where asked for (09 R206). -/
def subRes (sat : Bool) (a b : Word) : Word := if sat then w32 (sat32 (s32 a - s32 b)) else a - b

/-- The flags after ADD (09 R206, R207). -/
def Ctx.flagsAdd (c : Ctx) (sat : Bool) (a b : Word) : Ctx :=
  { (c.flagsZN (addRes sat a b)).flagSat (sat && addV a b) with c := addC a b, v := addV a b }

/-- The flags after SUB (09 R206, R207). -/
def Ctx.flagsSub (c : Ctx) (sat : Bool) (a b : Word) : Ctx :=
  { (c.flagsZN (subRes sat a b)).flagSat (sat && subV a b) with c := subC a b, v := subV a b }

/-- The flags after CMP: V is left (09 R207). -/
def Ctx.flagsCmp (c : Ctx) (a b : Word) : Ctx := { c.flagsZN (a - b) with c := subC a b }

/-- The conditions of SKIP (09 R207). -/
def Ctx.cond (c : Ctx) (k : Nat) : Bool :=
  match k with
  | 0 => true
  | 1 => c.z
  | 2 => !c.z
  | 3 => c.n
  | 4 => !c.n
  | 5 => c.sat
  | 6 => !c.sat
  | 7 => c.u.getLsbD 0
  | 8 => c.u.getLsbD 1
  | 9 => c.u.getLsbD 2
  | 10 => c.u.getLsbD 3
  | 11 => c.dbsy
  | 12 => c.derr
  | 13 => c.c
  | 14 => !c.c
  | _ => false

/-- The flags as FLG numbers them: bit 0 SAT, 1 to 4 U0 to U3, 5 DBSY, 6 DERR (09 R208). -/
def Ctx.flgWord (c : Ctx) : Nat := b2n c.sat + 2 * c.u.toNat + 32 * b2n c.dbsy + 64 * b2n c.derr

/-- The flags from their numbering in FLG; bit 7 is no flag (09 R208). -/
def Ctx.flgPut (c : Ctx) (v : Nat) : Ctx :=
  { c with sat := v.testBit 0, u := BitVec.ofNat 4 (v / 2), dbsy := v.testBit 5, derr := v.testBit 6 }

end Sys2Proof.Machine
end

