-- ==== Sys2Proof/Machine/Operands.lean ====
section
/-! DEFINITION. Instruction words, registers and operands of the engines: fetch, how an instruction retires, the window check,
and the accesses of contexts and channels (09_zuelm_engines_and_gallery.md R199 to R214). -/

namespace Sys2Proof.Machine

/-! ### Instruction words -/

/-- The fields of an instruction word (09 R205). -/
structure Iw where
  op : Nat
  a : Nat
  b : Nat
  c : Nat
  n : Nat
  imm : Nat
  deriving DecidableEq, Repr

/-- The fields of a 64-bit word (09 R205). -/
def iwOf (w : Nat) : Iw :=
  { op := bitsAt w 58 6, a := bitsAt w 54 4, b := bitsAt w 50 4, c := bitsAt w 46 4, n := bitsAt w 32 14, imm := bitsAt w 0 32 }

/-- The 64-bit word of some fields (09 R205). -/
def Iw.word (f : Iw) : Nat := f.op * 2 ^ 58 + f.a * 2 ^ 54 + f.b * 2 ^ 50 + f.c * 2 ^ 46 + f.n * 2 ^ 32 + f.imm

/-- The opcodes of the instruction set (09 R208). -/
def opKnown (op : Nat) : Bool :=
  decide (op ≤ 0x17) || (decide (0x20 ≤ op) && decide (op ≤ 0x2B)) || (decide (0x30 ≤ op) && decide (op ≤ 0x36))

/-- The place of an engine's local memory (01_signal_to_speaker.md R24). -/
def localBase (e : Nat) : Nat := 0x20000000 + e * 0x20000

/-- The instruction word at an index of an engine's program memory (09 R198). -/
def State.instrAt (s : State) (e pc : Nat) : Iw := iwOf (s.rd64 (localBase e + 8 * pc))

/-! ### The context that issues -/

/-- A higher context of the engine is READY (09 R203). -/
def State.preempted (s : State) (e x : Nat) : Bool := (List.range x).any fun y => s.cxState e y == cxReady

/-- The context of an engine that issues its next instruction (09 R203). -/
def State.issuing (s : State) (e : Nat) : Option Nat :=
  if !s.eclkRuns then none
  else match s.running? e with
    | some x => if s.cxState e x = cxRun ∧ s.preempted e x = false then some x else none
    | none => none

/-- A register of a context. -/
def Ctx.reg (c : Ctx) (i : Nat) : Word := tblGet (fun _ => 0) c.g (i % 16)

/-- A register replaced. -/
def Ctx.setReg (c : Ctx) (i : Nat) (w : Word) : Ctx := { c with g := tblSet (fun _ => 0) c.g (i % 16) w }

/-- An accumulator of a context. -/
def Ctx.accu (c : Ctx) (i : Nat) : Int := tblGet (fun _ => 0) c.acc (i % 4)

/-- An accumulator replaced. -/
def Ctx.setAccu (c : Ctx) (i : Nat) (v : Int) : Ctx := { c with acc := tblSet (fun _ => 0) c.acc (i % 4) v }

/-- The registers that an instruction reads or writes (09 R208). -/
def Iw.regs (f : Iw) : List Nat :=
  let imm := f.n % 2 = 1
  if f.op = 0x04 ∨ f.op = 0x07 ∨ f.op = 0x08 ∨ f.op = 0x17 then [f.a]
  else if f.op = 0x09 ∨ f.op = 0x0F ∨ f.op = 0x11 ∨ f.op = 0x12 ∨ f.op = 0x29 then [f.a, f.b]
  else if 0x0A ≤ f.op ∧ f.op ≤ 0x0E then (if imm then [f.a, f.b] else [f.a, f.b, f.c])
  else if f.op = 0x10 then (if imm then [f.b] else [f.b, f.c])
  else if f.op = 0x13 ∨ f.op = 0x14 ∨ f.op = 0x2B ∨ f.op = 0x30 then [f.b]
  else if f.op = 0x15 ∨ f.op = 0x22 ∨ f.op = 0x33 then [f.b, f.c]
  else if f.op = 0x16 then [f.b, (f.b + 1) % 16, f.c, (f.c + 1) % 16]
  else if f.op = 0x23 then [f.a, f.c]
  else if f.op = 0x2A then [f.a]
  else if f.op = 0x36 then [f.a, (f.a + 1) % 16]
  else if 0x20 ≤ f.op ∧ f.op ≤ 0x28 then [f.a, f.b, f.c]
  else []

/-- An instruction waits for a register read in flight (09 R204). -/
def Ctx.waitsRead (c : Ctx) (f : Iw) : Bool := c.rd.any fun r => f.regs.contains r.1

/-! ### Retiring -/

/-- The index after the one at p when its instruction ends in order: at the end of a loop body the passes left decide
(09 R208). -/
def loopNext (p next : Nat) : List LoopLvl → Nat × List LoopLvl
  | [] => (next % 8192, [])
  | l :: t =>
    if p = l.last then
      (if 1 < l.left then (l.first, { l with left := l.left - 1 } :: t) else loopNext p next t)
    else (next % 8192, l :: t)

/-- The context goes on after the instruction at p (09 R208). -/
def Ctx.after (c : Ctx) (p : Nat) : Ctx :=
  let r := loopNext p (p + 1) c.loops
  { c with pc := r.1, loops := r.2 }

/-- The context goes on after its instruction. -/
def Ctx.retire (c : Ctx) : Ctx := c.after c.pc

/-- The loop bodies of an engine's program: first and last index, of every LOOP word in its program memory (09 R208; log 70).
The opcode lies in the highest byte of a word, and is not 0, so that every such word is listed. -/
def State.bodies (s : State) (e : Nat) : List (Nat × Nat) :=
  s.mem.filterMap fun m =>
    let a := m.1 - localBase e
    if localBase e ≤ m.1 ∧ a < 0x10000 ∧ a % 8 = 7 ∧ m.2.toNat / 4 = 4 then
      let last := (s.instrAt e (a / 8)).imm % 8192
      if a / 8 < last then some (a / 8 + 1, last) else none
    else none

/-- A jump, call or skip to an index leaves a loop body that the context is in, or enters a body from outside it: an error of the
host's own making (09 R208). -/
def State.jumpBad (s : State) (e x t : Nat) : Bool :=
  let c := s.ctx e x
  (c.loops.any fun l => decide (t < l.first) || decide (l.last < t)) ||
    (s.bodies e).any fun b => decide (b.1 ≤ t) && decide (t ≤ b.2) && !(decide (b.1 ≤ c.pc) && decide (c.pc ≤ b.2))

/-- A context after such an error: at any index, with any number of its loops left (00_scope.md R7; log 4). -/
def State.wild (s : State) (e x : Nat) : State :=
  let w := (s.freeWord e).toNat
  s.bump.modCtx e x fun c => { c with pc := w % 8192, loops := c.loops.drop (w / 8192 % 4) }

/-- What an instruction comes to: it is done, or it violates, with cause and address. -/
inductive EOut
  | done (s : State)
  | viol (s : State) (cause addr : Nat)

/-- What an instruction comes to, as an outcome: a violation freezes the context, without further effect (09 R222). -/
def EOut.finish (e x : Nat) : EOut → Host.Outcome State Fault Refusal
  | .done s => .next s
  | .viol s cause addr => .next (s.violate e x cause addr).settle

/-- An instruction of engine e: it executes where the context that issues stands at a word with its opcode; a word with a double-bit
error is a violation (09 R199, R203 to R205). -/
def State.engine (s : State) (e op : Nat) (work : Nat → Iw → EOut) : Host.Outcome State Fault Refusal :=
  match s.issuing e with
  | none => .next s
  | some x =>
    let pc := (s.ctx e x).pc
    let f := s.instrAt e pc
    if f.op ≠ op ∨ (s.ctx e x).waitsRead f then .next s
    else if 2 ≤ s.eccAt (localBase e + 8 * pc) then (EOut.viol s 8 (8 * pc)).finish e x
    else (work x f).finish e x

/-- An instruction that changes its context alone. -/
def State.engineCtx (s : State) (e op : Nat) (work : Iw → Ctx → Ctx) : Host.Outcome State Fault Refusal :=
  s.engine e op fun x f => .done (s.modCtx e x fun c => (work f c).retire)

/-- The second operand of ADD and its like: the immediate or g[C] (09 R208). -/
def Ctx.operand (c : Ctx) (f : Iw) : Word := if f.n % 2 = 1 then BitVec.ofNat 32 f.imm else c.reg f.c

/-- The address g[B] + IMM (09 R205). -/
def Ctx.addrOf (c : Ctx) (f : Iw) : Nat := (c.reg f.b + BitVec.ofNat 32 f.imm).toNat

/-! ### The window check -/

/-- Where an access goes: an address of the tester's map, or a violation. -/
inductive Place
  | at_ (a : Nat)
  | viol (cause : Nat)
  deriving DecidableEq, Repr

/-- A descriptor covers an engine address (09 R213). -/
def Win.covers (d : Win) (a : Nat) : Bool :=
  let vb := d.desc.toNat / 4096 * 4096
  d.desc.getLsbD 0 && decide (vb ≤ a) && decide (a < vb + (d.map.toNat % 4096 + 1) * 4096)

/-- The address that a descriptor translates an engine address to (09 R213). -/
def Win.target (d : Win) (a : Nat) : Nat := d.map.toNat / 4096 * 4096 + (a - d.desc.toNat / 4096 * 4096)

/-- The rights and the kind of a descriptor: REG, W and R. -/
def Win.rights (d : Win) : Nat := d.desc.toNat / 2 % 8

/-- The blocks that contexts and channels never write: ENG, WIN, DMA and IMG (09 R214). -/
def protBlock (a : Nat) : Bool := blkOf a == 0x40090 || blkOf a == 0x400A0 || blkOf a == 0x400B0 || blkOf a == 0x40100

/-- The descriptors of a context that cover an address, the lowest index first (09 R214). -/
def State.winsAt (s : State) (e x a : Nat) : List Win :=
  ((List.range 16).map fun i => s.win e x i).filter fun d => d.covers a

/-- Valid descriptors that cover an address and differ in translation or rights: an error of the host's own making (09 R214). -/
def State.overlapBad (s : State) (e x a : Nat) : Bool :=
  match s.winsAt e x a with
  | [] => false
  | d :: t => t.any fun o => o.rights != d.rights || o.target a != d.target a

/-- The descriptor that decides: the lowest, or after such an error any of them (09 R214; 00 R7; log 4). -/
def State.winPick (s : State) (e x a : Nat) : Option Win :=
  match s.winsAt e x a with
  | [] => none
  | d :: t => if s.overlapBad e x a then (d :: t)[(s.freeWord a).toNat % (t.length + 1)]? else some d

/-- The counter of free values after such a choice. -/
def State.overlapUse (s : State) (e x a : Nat) : State := if s.overlapBad e x a then s.bump else s

/-- The check of an access through the windows of a context (09 R214; 01 R25, R26). -/
def State.winCheck (s : State) (e x a : Nat) (write : Bool) : Place :=
  match s.winPick e x a with
  | none => .viol 1
  | some d =>
    if write && protBlock (d.target a) then .viol 3
    else if (write && !d.desc.getLsbD 2) || (!write && !d.desc.getLsbD 1) then .viol 2
    else .at_ (d.target a)

/-- The check of an access by a context or a channel bound to it: local memory, where program memory is not written, or a window
(09 R199, R214, R221). -/
def State.place (s : State) (e x a : Nat) (write : Bool) : Place :=
  if a < 0x20000 then (if write && decide (a < 0x10000) then .viol 0xC else .at_ (localBase e + a)) else s.winCheck e x a write

/-! ### Data memory, as block instructions see it -/

/-- A word of data memory at an engine address. -/
def State.dm (s : State) (e a : Nat) : Int := signedN 32 (s.rd32 (localBase e + a))

/-- A word of data memory written. -/
def State.setDm (s : State) (e a : Nat) (v : Int) : State := s.wr32 (localBase e + a) (bitsN 32 v)

/-- A word of data memory as an unsigned value. -/
def State.dmU (s : State) (e a : Nat) : Nat := s.rd32 (localBase e + a)

/-- What keeps n words from an address out of data memory: a cause and the address; none where they lie in it
(09 R209, R221). -/
def areaBad (a n : Nat) : Option (Nat × Nat) :=
  if n = 0 then none
  else if a % 4 ≠ 0 then some (7, a)
  else if a < 0x10000 ∨ 0x20000 ≤ a then some (6, a)
  else if 0x20000 < a + 4 * n then some (6, 0x20000)
  else none

/-- The first of some areas that data memory does not hold. -/
def areasBad : List (Nat × Nat) → Option (Nat × Nat)
  | [] => none
  | (a, n) :: t => match areaBad a n with
    | some r => some r
    | none => areasBad t

/-- Free words put into n words of data memory, as far as it reaches. -/
def State.freeArea (s : State) (e a n : Nat) : State :=
  (List.range (min n ((0x20000 - a) / 4))).foldl (fun t i => t.bump.setDm e (a + 4 * i) (s32 (t.freeWord (localBase e + a + 4 * i)))) s

/-- A word of some areas has a double-bit error: its engine address (09 R199). -/
def State.areasEcc (s : State) (e : Nat) (l : List (Nat × Nat)) : Option Nat :=
  if s.eng.ecc.isEmpty then none
  else (l.flatMap fun p => (List.range p.2).map fun i => p.1 + 4 * i).find? fun a => decide (2 ≤ s.eccAt (localBase e + a))

/-- A block instruction as some steps: the areas it uses, the number of steps, what each does, and what ends it (09 R203, R208,
R209). -/
structure EBlock where
  areas : List (Nat × Nat)
  steps : Nat
  step : Nat → State → State
  fin : State → State

/-- Steps from one number on. -/
def EBlock.run (b : EBlock) (i n : Nat) (s : State) : State := (List.range n).foldl (fun t k => b.step (i + k) t) s

/-- The rest of a block instruction from its held progress: its areas are checked, its work follows, and it retires (09 R203,
R209). -/
def State.block (s : State) (e x : Nat) (b : EBlock) : EOut :=
  match areasBad b.areas, s.areasEcc e b.areas with
  | some r, _ => .viol s r.1 r.2
  | none, some a => .viol s 8 a
  | none, none =>
    let p := (s.ctx e x).prog
    .done ((b.fin (b.run p (b.steps - p) s)).modCtx e x fun c => { c.retire with prog := 0, part := 0 })

/-- A block instruction stops after some more of its steps, with its progress held; one that would violate has none (09 R203). -/
def State.blockPart (s : State) (e x n : Nat) (b : EBlock) : State :=
  if (areasBad b.areas).isSome || (s.areasEcc e b.areas).isSome then s
  else
    let p := (s.ctx e x).prog
    let k := min n (b.steps - 1 - p)
    (b.run p k s).modCtx e x fun c => { c with prog := p + k }

/-- SAT of a context set where a step saturated. -/
def State.satIf (s : State) (e x : Nat) (b : Bool) : State := if b then s.modCtx e x fun c => { c with sat := true } else s

/-- The partial accumulator of a context replaced. -/
def State.setPart (s : State) (e x : Nat) (v : Int) : State := s.modCtx e x fun c => { c with part := v }

end Sys2Proof.Machine
end

