-- ==== Sys2Proof/Machine/DmaOps.lean ====
section
/-! DEFINITION. DMA transfers: issue, bursts, completion, violations of a channel (09_zuelm_engines_and_gallery.md R216 to R220). -/

namespace Sys2Proof.Machine

def State.dma (s : State) (n : Nat) : Dma := tblGet (fun _ => {}) s.eng.dmas n
def State.setDma (s : State) (n : Nat) (d : Dma) : State := s.modEng fun g => { g with dmas := tblSet (fun _ => {}) g.dmas n d }

/-- The context that waits for a channel goes on: DERR for a failed transfer, cleared for a completed one (09 R207, R208, R218). -/
def State.dmaWake (s : State) (n : Nat) (failed : Bool) : State :=
  let e := s.get (R.DMA_CH.ENG n)
  let x := s.get (R.DMA_ST.BCTX n)
  if s.cxState e x = cxWaiting ∧ (s.ctx e x).wait = some (.dma n) then
    (s.modCtx e x fun c => { c with wait := none, derr := failed }).setCx e x cxReady
  else s

/-- The DMA-done activation of a channel (09 R202, R218). -/
def State.dmaDone (s : State) (n : Nat) : State :=
  allCtxs.foldl (fun t q =>
    if t.get (R.ENG_TRG.SRC q.1 q.2) = 3 ∧ t.get (R.ENG_TRG.CH q.1 q.2) = n then t.activate q.1 q.2 else t) s

/-- A transfer completes (09 R218). -/
def State.dmaComplete (s : State) (n : Nat) : State := ((s.setCh n chIdle).dmaDone n).dmaWake n false

/-- A channel violates: FROZEN with its cause, event 0x0802; the waiting context returns with DERR (09 R220, R227). -/
def State.dmaViolate (s : State) (n cause : Nat) : State :=
  let s1 := ((s.setCh n chFrozen).set (R.DMA_ST.CAUSE n) cause).raise 0x0802 2
    (le 1 n ++ le 1 cause ++ le 2 (s.get (R.DMA_ST.DONE n)) ++ le 4 (s.get (R.DMA_SRC.V n)))
  s1.dmaWake n true

/-! ### Issue -/

/-- A context may use a channel (09 R216). -/
def State.dmaOwned (s : State) (e x n : Nat) : Bool := s.get (R.DMA_CH.ENG n) == e && s.bitI (R.DMA_CH.CTXM n) x

/-- The transfer of a descriptor starts: bound, BUSY, nothing moved; a count of 0 completes at once (09 R216, R217). -/
def State.dmaIssue (s : State) (x n src dst cnt : Nat) (sstr dstr : Int) : State :=
  let s1 := (((s.setCh n chBusy).set (R.DMA_ST.BCTX n) x).set (R.DMA_ST.CAUSE n) 0).set (R.DMA_ST.DONE n) 0
  let s2 := ((s1.set (R.DMA_SRC.V n) src).set (R.DMA_DST.V n) dst).setDma n { cnt := cnt, sstr := sstr, dstr := dstr }
  if cnt = 0 then s2.dmaComplete n else s2

/-- DMAI reads its descriptor: the fault that it meets, or the transfer (09 R199, R217). -/
def State.dmaDesc (s : State) (e x n a : Nat) : EOut :=
  if a % 8 ≠ 0 then .viol s 7 a
  else if a < 0x10000 ∨ 0x20000 < a + 16 then .viol s 6 a
  else if 2 ≤ s.eccAt (localBase e + a) then .viol s 8 a
  else if 2 ≤ s.eccAt (localBase e + a + 8) then .viol s 8 (a + 8)
  else
    let w := fun i => s.dmU e (a + 4 * i)
    let ss := signedN 16 (w 3)
    let ds := signedN 16 (w 3 / 65536)
    if w 0 % 4 ≠ 0 ∨ w 1 % 4 ≠ 0 ∨ ss % 4 ≠ 0 ∨ ds % 4 ≠ 0 then .viol s 7 a
    else .done ((s.modCtx e x fun c => { c.retire with dbsy := false }).dmaIssue x n (w 0) (w 1) (w 2 % 65536) ss ds)

/-! ### Bursts -/

/-- An address of an element as the transfer goes on: modulo 2^32. -/
def stride (a : Nat) (d : Int) : Nat := (((a : Int) + d) % 4294967296).toNat

/-- Two addresses lie in one page of 4 KiB (09 R218). -/
def samePage (a b : Nat) : Bool := a / 4096 == b / 4096

/-- The addresses of the elements of a burst (09 R218). -/
def burstList : Nat → Nat → Nat → Int → Int → List (Nat × Nat)
  | 0, _, _, _, _ => []
  | k + 1, a, b, sa, da => (a, b) :: burstList k (stride a sa) (stride b da) sa da

/-- The elements of the next burst: the first always, the others while they stay in the pages of the first (09 R218). -/
def burstOf (left a b : Nat) (sa da : Int) : List (Nat × Nat) :=
  (burstList (min left 8) a b sa da).takeWhile fun p => samePage a p.1 && samePage b p.2

/-- What moving an element comes to; an element at a register waits where the queue of its mover has no room. -/
inductive DOut
  | moved (s : State)
  | viol (s : State) (cause : Nat)
  | waits (s : State)

/-- Both sides of an element are checked before it moves (09 R214, R217, R220). -/
def State.dmaPlaces (s : State) (e x a b : Nat) : Nat × Nat × Option Nat :=
  match s.place e x a false, s.place e x b true with
  | .viol c, _ => (0, 0, some c)
  | .at_ _, .viol c => (0, 0, some c)
  | .at_ p, .at_ q => (p, q, none)

/-- The word of an element at its source; a register is read once the queue of the mover is empty (09 R198, R212, R218; 02 R34). -/
def State.dmaRead (s : State) (m n p : Nat) : State × Option Word :=
  if inRegs p then
    let v := s.busRead m (48 + n) p
    (v.2.busGrant m, some v.1)
  else
    let r := s.memFind m p
    (r.1, if r.2 then some (BitVec.ofNat 32 (s.rd32 p)) else none)

/-- The word of an element at its destination; both halves of a word in one burst are one access; a register write enters the queue
of the mover (09 R210, R212, R218; 02 R34). -/
def State.dmaWrite (s : State) (m q : Nat) (w : Word) (both : Bool) : DOut :=
  if inRegs q then (if s.regRoom m 1 then .moved (s.pushQ m { addr := q, word := some w }) else .waits s)
  else if both && inGallery q then .moved (((s.galGrant q m).setEcc q 0).wr32 q w.toNat)
  else
    let r := s.memWr32 m q w.toNat
    if r.2 then .moved r.1 else .viol r.1 8

/-- One element moves (09 R217, R218, R220). -/
def State.dmaElem (s : State) (m n e x a b : Nat) (both : Bool) : DOut :=
  let s1 := (s.overlapUse e x a).overlapUse e x b
  match s.dmaPlaces e x a b with
  | (_, _, some c) => .viol s1 c
  | (p, q, none) =>
    if (inRegs p && !(s.regQ m).isEmpty) || (inRegs q && !s.regRoom m 1) then .waits s
    else match s1.dmaRead m n p with
      | (t, some w) => t.dmaWrite m q w both
      | (t, none) => .viol t 8

/-- An element has moved: DONE and the next addresses (09 R218, R220). -/
def State.dmaNext (s : State) (n : Nat) : State :=
  let d := s.dma n
  let s1 := s.set (R.DMA_ST.DONE n) (s.get (R.DMA_ST.DONE n) + 1)
  (s1.set (R.DMA_SRC.V n) (stride (s.get (R.DMA_SRC.V n)) d.sstr)).set (R.DMA_DST.V n) (stride (s.get (R.DMA_DST.V n)) d.dstr)

/-- The elements of a burst one after another (09 R218, R220). -/
def State.dmaElems (s : State) (m n e x : Nat) (dsts : List Nat) : List (Nat × Nat) → DOut
  | [] => .moved s
  | (a, b) :: t =>
    match s.dmaElem m n e x a b (dsts.contains (if b % 8 = 0 then b + 4 else b - 4)) with
    | .moved u => State.dmaElems (u.dmaNext n) m n e x dsts t
    | r => r

/-- BUSY channels of a mover from the one after the last served, round (09 R218). -/
def State.moverChans (s : State) (m : Nat) : List Nat :=
  let last := tblGet (fun _ => 7) s.eng.movers m
  ((List.range 8).map fun i => 8 * m + (last + 1 + i) % 8).filter fun n => s.chState n == chBusy

/-- The channel a mover serves next: bound to the highest context, the first of equal ones (09 R218). -/
def State.moverPick (s : State) (m : Nat) : Option Nat :=
  let l := s.moverChans m
  (List.range 3).findSome? fun x => l.find? fun n => s.get (R.DMA_ST.BCTX n) == x

/-- The burst of a channel by a mover (09 R218, R220). -/
def State.dmaBurst (s : State) (m n : Nat) : DOut :=
  let d := s.dma n
  let e := s.get (R.DMA_CH.ENG n)
  let x := s.get (R.DMA_ST.BCTX n)
  let l := burstOf (d.cnt - s.get (R.DMA_ST.DONE n)) (s.get (R.DMA_SRC.V n)) (s.get (R.DMA_DST.V n)) d.sstr d.dstr
  let s1 := s.modEng fun g => { g with movers := tblSet (fun _ => 7) g.movers m (n % 8) }
  match s1.dmaElems (16 + m) n e x (l.map (·.2)) l with
  | .moved t => .moved (if d.cnt ≤ t.get (R.DMA_ST.DONE n) then t.dmaComplete n else t)
  | .waits t => .moved t
  | .viol t c => .viol t c

/-- DMA_BURST: the mover serves one burst of one BUSY channel (09 R218 to R220). -/
def execDmaBurst (mover : Fin 4) (s : State) : Host.Outcome State Fault Refusal :=
  if !s.eclkRuns then .next s
  else match s.moverPick mover with
    | none => .next s
    | some n => match s.dmaBurst mover n with
      | .moved t | .waits t => .next t.settle
      | .viol t c => .next (t.dmaViolate n c).settle

end Sys2Proof.Machine
end

