-- ==== Sys2Proof/Machine/Download.lean ====
section
/-! DEFINITION. Installing an update: RequestDownload, TransferData and RequestTransferExit, and the end of a flash operation
(12_image_and_start.md R279 to R281; 16_service_and_vehicle_bus.md R367). -/

namespace Sys2Proof.Machine

/-- REQUEST_DOWNLOAD: a request during a reload waits for its end, unless it is refused at once (12 R279, R280; 16 R367). -/
def State.requestDownload (s : State) (r : DlReq) : State :=
  if s.inReload && s.dlRefusal r != 0x33 && r.dfi == 0 && r.fmt == 0x44 then
    s.dlHold r.kind 0x34 (.request r)
  else s.dlAnswer r

def execRequestDownload (q : ReqKind) (dfi fmt : BitVec 8) (addr size : Word) (s : State) : Host.Outcome State Fault Refusal :=
  .next (s.service q 0x34 11 sesProg false fun t =>
    (t.requestDownload { kind := q, dfi := dfi, fmt := fmt, addr := addr, size := size }).settle)

/-- TRANSFER_DATA (12 R280; 16 R367). -/
def execTransferData (q : ReqKind) (counter : BitVec 8) (data : List Byte) (s : State) : Host.Outcome State Fault Refusal :=
  .next (s.service q 0x36 (2 + data.length) sesProg true fun t => t.transferData q counter data)

/-- REQUEST_TRANSFER_EXIT (12 R281; 16 R367). -/
def execRequestTransferExit (q : ReqKind) (s : State) : Host.Outcome State Fault Refusal :=
  .next (s.service q 0x37 1 sesProg true fun t => t.transferExit q)

/-- FLASH_PROGRAM_ERASE_DONE: the operation of the flash in progress ends (12 R279). -/
def execFlashProgramEraseDone (s : State) : Host.Outcome State Fault Refusal :=
  .next (if s.coreRuns && !s.img.fSusp then s.modImg fun x => { x with fBusy := false } else s)

end Sys2Proof.Machine
end

