-- ==== Sys2Proof/Machine/IsaBlock.lean ====
section
/-! DEFINITION. Block instructions of the engines (09_zuelm_engines_and_gallery.md R208, R209). Samples are taken and written one
after another, so that operands may overlap. -/

namespace Sys2Proof.Machine

/-- The magnitude of an s32; that of −2^31 is 2^31 − 1 (09 R209). -/
def abs32 (x : Int) : Int := if x < 0 then sat32 (-x) else x

/-- An s32 as C keeps it: modulo 2^32. -/
def wrap32 (x : Int) : Int := signedN 32 (bitsN 32 x)

/-- A value and whether it saturated. -/
structure SatV where
  v : Int
  sat : Bool
  deriving DecidableEq, Repr

/-- Saturation to s32, noted. -/
def satV (x : Int) : SatV := { v := sat32 x, sat := sat32 x != x }

/-! ### BIQ -/

/-- One stage for one sample: its output and its two states (09 R209). -/
def biqStage (b0 b1 b2 a1 a2 z1 z2 x : Int) : SatV × SatV × SatV :=
  let y := satV (asr (b0 * x + z1 * 2 ^ 30 + 2 ^ 29) 30)
  (y, satV (asr (b1 * x - a1 * y.v + z2 * 2 ^ 30 + 2 ^ 29) 30), satV (asr (b2 * x - a2 * y.v + 2 ^ 29) 30))

/-- The stages of a cascade for one sample, from the stage at an address on (09 R209). -/
def State.biqRun (e : Nat) : Nat → Nat → Int → State → State × Int × Bool
  | 0, _, x, s => (s, x, false)
  | n + 1, a, x, s =>
    let k := fun i => s.dm e (a + 4 * i)
    let r := biqStage (k 0) (k 1) (k 2) (k 3) (k 4) (k 5) (k 6) x
    let t := State.biqRun e n (a + 28) r.1.v ((s.setDm e (a + 20) r.2.1.v).setDm e (a + 24) r.2.2.v)
    (t.1, t.2.1, r.1.sat || r.2.1.sat || r.2.2.sat || t.2.2)

/-- BIQ, one stage of one sample a step; the output of a stage is the partial accumulator of the next (09 R200, R208, R209). -/
def State.biqBlock (s : State) (e x : Nat) (f : Iw) : EBlock :=
  let c := s.ctx e x
  let (dst, src, cs) := ((c.reg f.a).toNat, (c.reg f.b).toNat, (c.reg f.c).toNat)
  let st := f.imm % 16 + 1
  { areas := [(dst, f.n), (src, f.n), (cs, 7 * st)]
    steps := f.n * st
    step := fun i t =>
      let a := cs + 28 * (i % st)
      let v := if i % st = 0 then t.dm e (src + 4 * (i / st)) else (t.ctx e x).part
      let k := fun j => t.dm e (a + 4 * j)
      let r := biqStage (k 0) (k 1) (k 2) (k 3) (k 4) (k 5) (k 6) v
      let t1 := ((t.setDm e (a + 20) r.2.1.v).setDm e (a + 24) r.2.2.v).satIf e x (r.1.sat || r.2.1.sat || r.2.2.sat)
      if i % st + 1 = st then t1.setDm e (dst + 4 * (i / st)) r.1.v else t1.setPart e x r.1.v
    fin := id }

/-- BIQ (09 R208, R209). -/
def execBiq (e : Fin 16) (s : State) : Host.Outcome State Fault Refusal :=
  s.engine e 0x20 fun x f => s.block e x (s.biqBlock e x f)

/-! ### FIR -/

/-- The sum of some products, saturated at the s64 limits after each (09 R206). -/
def macSum (l : List Int) : SatV :=
  l.foldl (fun a p => { v := sat64 (a.v + p), sat := a.sat || sat64 (a.v + p) != a.v + p }) { v := 0, sat := false }

/-- A sum rounded half up from Q31 and saturated (09 R206, R208). -/
def rnd31 (a : Int) : SatV := satV (asr (a + 2 ^ 30) 31)

/-- FIR, one tap of one sample a step; the sum so far is the partial accumulator (09 R200, R208, R209). -/
def State.firBlock (s : State) (e x : Nat) (f : Iw) : EBlock :=
  let c := s.ctx e x
  let (dst, src, h) := ((c.reg f.a).toNat, (c.reg f.b).toNat, (c.reg f.c).toNat)
  let taps := f.imm % 4096
  let past := taps - 1
  let per := max taps 1
  { areas := [(dst, f.n), (src - 4 * past, if f.n = 0 then 0 else f.n + past), (h, taps)]
    steps := f.n * per
    step := fun i t =>
      let k := i % per
      let old := if k = 0 then 0 else (t.ctx e x).part
      let sum := old + (if taps = 0 then 0 else t.dm e (h + 4 * k) * t.dm e (src + 4 * (i / per) - 4 * k))
      let t1 := t.satIf e x (sat64 sum != sum)
      if k + 1 = per then
        let y := rnd31 (sat64 sum)
        (t1.satIf e x y.sat).setDm e (dst + 4 * (i / per)) y.v
      else t1.setPart e x (sat64 sum)
    fin := id }

/-- FIR: a history that would lie below address 0 lies outside data memory (09 R208, R209). -/
def execFir (e : Fin 16) (s : State) : Host.Outcome State Fault Refusal :=
  s.engine e 0x21 fun x f =>
    let src := ((s.ctx e x).reg f.b).toNat
    if src < 4 * (f.imm % 4096 - 1) ∧ f.n ≠ 0 then .viol s 6 src else s.block e x (s.firBlock e x f)

/-! ### Delay lines -/

/-- A delay line: base, length in samples, write index, from the header at an address (09 R209). -/
def State.lineAt (s : State) (e a : Nat) : Nat × Nat × Nat := (s.dmU e a, s.dmU e (a + 4), s.dmU e (a + 8))

/-- The write index after n samples; of a line without samples the spec states none: a free value (09 R208; log 8). -/
def State.lineAdvance (s : State) (e a n len w : Nat) : State :=
  if len = 0 ∧ n ≠ 0 then
    let t := s.setDm e (a + 8) (Config.undefinedReg s.freeCtr (localBase e + a + 8)).toNat
    { t with freeCtr := t.freeCtr + 1 }
  else s.setDm e (a + 8) (if n = 0 then w else (w + n) % len : Nat)

/-- DLW, one sample a step (09 R208, R209). -/
def State.dlwBlock (s : State) (e x : Nat) (f : Iw) : EBlock :=
  let c := s.ctx e x
  let (src, hd) := ((c.reg f.b).toNat, (c.reg f.c).toNat)
  let (base, len, w) := s.lineAt e hd
  { areas := [(hd, 3), (src, f.n), (base, len)]
    steps := if len = 0 then 0 else f.n
    step := fun i t => t.setDm e (base + 4 * ((w + i) % len)) (t.dm e (src + 4 * i))
    fin := fun t => t.lineAdvance e hd f.n len w }

/-- DLW (09 R208, R209). -/
def execDlw (e : Fin 16) (s : State) : Host.Outcome State Fault Refusal :=
  s.engine e 0x22 fun x f => s.block e x (s.dlwBlock e x f)

/-- DLR, one sample a step; a delay beyond the line is an error of the host's own making, and the samples are free (09 R208, R209;
00_scope.md R7; log 4). -/
def State.dlrBlock (s : State) (e x : Nat) (f : Iw) : EBlock :=
  let c := s.ctx e x
  let (dst, hd) := ((c.reg f.a).toNat, (c.reg f.c).toNat)
  let (base, len, w) := s.lineAt e hd
  { areas := [(hd, 3), (dst, f.n), (base, len)]
    steps := f.n
    step := fun n t =>
      if len < f.imm + f.n then t.freeArea e (dst + 4 * n) 1
      else t.setDm e (dst + 4 * n) (t.dm e (base + 4 * (((w : Int) - f.imm - f.n + n) % len).toNat))
    fin := id }

/-- DLR (09 R208, R209). -/
def execDlr (e : Fin 16) (s : State) : Host.Outcome State Fault Refusal :=
  s.engine e 0x23 fun x f => s.block e x (s.dlrBlock e x f)

/-! ### GAIN, MIX, LIM -/

/-- The term of GAIN (09 R208). -/
def gainTerm (x g : Int) (sh : Nat) : SatV := rnd31 (x * g * 2 ^ sh)

/-- GAIN, one sample a step (09 R208). -/
def State.gainBlock (s : State) (e x : Nat) (f : Iw) : EBlock :=
  let c := s.ctx e x
  let (dst, src) := ((c.reg f.a).toNat, (c.reg f.b).toNat)
  { areas := [(dst, f.n), (src, f.n)]
    steps := f.n
    step := fun i t =>
      let y := gainTerm (t.dm e (src + 4 * i)) (s32 (c.reg f.c)) (f.imm % 8)
      (t.satIf e x y.sat).setDm e (dst + 4 * i) y.v
    fin := id }

/-- GAIN (09 R208). -/
def execGain (e : Fin 16) (s : State) : Host.Outcome State Fault Refusal :=
  s.engine e 0x24 fun x f => s.block e x (s.gainBlock e x f)

/-- MIX, one sample a step: the term of GAIN is added to what the destination holds (09 R208). -/
def State.mixBlock (s : State) (e x : Nat) (f : Iw) : EBlock :=
  let c := s.ctx e x
  let (dst, src) := ((c.reg f.a).toNat, (c.reg f.b).toNat)
  { areas := [(dst, f.n), (src, f.n)]
    steps := f.n
    step := fun i t =>
      let y := gainTerm (t.dm e (src + 4 * i)) (s32 (c.reg f.c)) (f.imm % 8)
      let z := satV (t.dm e (dst + 4 * i) + y.v)
      (t.satIf e x (y.sat || z.sat)).setDm e (dst + 4 * i) z.v
    fin := id }

/-- MIX (09 R208). -/
def execMix (e : Fin 16) (s : State) : Host.Outcome State Fault Refusal :=
  s.engine e 0x25 fun x f => s.block e x (s.mixBlock e x f)

/-- One sample of the limiter: the gain after it and its output (09 R209). -/
def limStep (thr att rel gs x : Int) : Int × SatV × Bool :=
  let m := rnd31 (abs32 x * gs)
  let g := if thr < m.v then wrap32 (gs - wrap32 (asr (gs * att + 2 ^ 30) 31))
    else wrap32 (gs + wrap32 (asr ((2147483647 - gs) * rel + 2 ^ 30) 31))
  let y := rnd31 (x * g)
  (g, { v := clampI (-thr) thr y.v, sat := y.sat }, m.sat)

/-- LIM, one sample a step: its state holds the threshold, both rates and the gain (09 R208, R209). -/
def State.limBlock (s : State) (e x : Nat) (f : Iw) : EBlock :=
  let c := s.ctx e x
  let (dst, src, cs) := ((c.reg f.a).toNat, (c.reg f.b).toNat, (c.reg f.c).toNat)
  { areas := [(dst, f.n), (src, f.n), (cs, 4)]
    steps := f.n
    step := fun i t =>
      let r := limStep (t.dm e cs) (t.dm e (cs + 4)) (t.dm e (cs + 8)) (t.dm e (cs + 12)) (t.dm e (src + 4 * i))
      ((t.satIf e x (r.2.1.sat || r.2.2)).setDm e (cs + 12) r.1).setDm e (dst + 4 * i) r.2.1.v
    fin := id }

/-- LIM (09 R208, R209). -/
def execLim (e : Fin 16) (s : State) : Host.Outcome State Fault Refusal :=
  s.engine e 0x26 fun x f => s.block e x (s.limBlock e x f)

/-! ### PKA -/

/-- The monotone line, oldest first: values that fall, each with the samples since it was pushed (09 R209). -/
abbrev Peaks := List (Int × Nat)

/-- A sample is pushed: every age grows, pairs older than W samples and those not above the sample go; the line never holds more than
W pairs (09 R209). -/
def pkaPush (w : Nat) (l : Peaks) (v : Int) : Peaks :=
  let r := ((l.map fun p => (p.1, p.2 + 1)).filter fun p => decide (p.2 < w) && decide (v < p.1)) ++ [(v, 0)]
  r.drop (r.length - w)

/-- The line as its state area holds it: W, the number of pairs, the pairs (09 R209; log 19). -/
def State.pkaLine (s : State) (e cs w : Nat) : Peaks :=
  (List.range (min (s.dmU e (cs + 4)) w)).map fun i => (s.dm e (cs + 8 + 8 * i), s.dmU e (cs + 12 + 8 * i))

/-- The line written back. -/
def State.setPka (s : State) (e cs : Nat) (l : Peaks) : State :=
  ((List.range l.length).zip l).foldl (fun t p =>
    (t.setDm e (cs + 8 + 8 * p.1) p.2.1).setDm e (cs + 12 + 8 * p.1) p.2.2) (s.setDm e (cs + 4) l.length)

/-- The greatest value of the line. -/
def pkaMax (l : Peaks) : Int := l.foldl (fun m p => max m p.1) 0

/-- The length with which a state was built: that of its last PKA, while its line is not empty (09 R209). -/
def State.pkaBuilt (s : State) (e cs : Nat) : Nat := tblGet (fun _ => 0) s.eng.pkaW (0x20000 * e + cs)

/-- A state whose W exceeds 1024, or differs from the one it was built with: an error of the host's own making (09 R209). -/
def State.pkaBad (s : State) (e cs : Nat) : Bool :=
  let w := s.dmU e cs
  decide (1024 < w) || (s.dmU e (cs + 4) != 0 && s.pkaBuilt e cs != 0 && s.pkaBuilt e cs != w)

/-- The result of PKA in its register (09 R208, R209). -/
def State.pkaResult (s : State) (e x : Nat) (f : Iw) (r : Int) : State :=
  s.modCtx e x fun c => c.setReg f.a (w32 (if f.imm / 65536 % 2 = 1 then max (s32 (c.reg f.a)) r else r))

/-- PKA, one sample a step; after such an error its state and its result are free (09 R208, R209; 00_scope.md R7; log 4). -/
def State.pkaBlock (s : State) (e x : Nat) (f : Iw) : EBlock :=
  let c := s.ctx e x
  let (src, cs) := ((c.reg f.b).toNat, (c.reg f.c).toNat)
  let w := s.dmU e cs
  if s.pkaBad e cs then
    { areas := [(cs, 2), (src, f.n)]
      steps := 0
      step := fun _ t => t
      fin := fun t => ((t.freeArea e (cs + 4) 2049).modCtx e x fun c => c.setReg f.a (t.freeWord x)).bump }
  else
    { areas := [(cs, 2), (src, f.n), (cs, 2 + 2 * w)]
      steps := f.n
      step := fun i t => t.setPka e cs (pkaPush w (t.pkaLine e cs w) (abs32 (t.dm e (src + 4 * i))))
      fin := fun t => (t.pkaResult e x f (pkaMax (t.pkaLine e cs w))).modEng fun g =>
        { g with pkaW := tblSet (fun _ => 0) g.pkaW (0x20000 * e + cs) w } }

/-- PKA: the peak of the last W samples, alone or with what the register holds (09 R208, R209). -/
def execPka (e : Fin 16) (s : State) : Host.Outcome State Fault Refusal :=
  s.engine e 0x27 fun x f => s.block e x (s.pkaBlock e x f)

/-! ### INTP, CPY, CLR, SQA -/

/-- A point of the interpolation (09 R209). -/
def intpPoint (xp x : Int) (k i : Nat) : Int := wrap32 (xp + asr ((x - xp) * i + (2 ^ k / 2 : Nat)) k)

/-- INTP by L = 2^k, one output a step; a k above 4 is an error of the host's own making: L is then any of the five, and the
samples and the state are free (09 R208, R209; 00_scope.md R7; log 4). -/
def State.intpBlock (s : State) (e x : Nat) (f : Iw) : EBlock :=
  let c := s.ctx e x
  let (dst, src, cs) := ((c.reg f.a).toNat, (c.reg f.b).toNat, (c.reg f.c).toNat)
  let bad := decide (4 < f.imm % 8)
  let k := if bad then (s.freeWord cs).toNat % 5 else f.imm % 8
  { areas := [(dst, f.n * 2 ^ k), (src, f.n), (cs, 1)]
    steps := f.n * 2 ^ k
    step := fun i t =>
      let v := t.dm e (src + 4 * (i / 2 ^ k))
      if bad then (t.freeArea e (dst + 4 * i) 1).freeArea e cs 1
      else
        let t1 := t.setDm e (dst + 4 * i) (intpPoint (t.dm e cs) v k (i % 2 ^ k))
        if i % 2 ^ k + 1 = 2 ^ k then t1.setDm e cs v else t1
    fin := fun t => if bad then t.bump else t }

/-- INTP (09 R208, R209). -/
def execIntp (e : Fin 16) (s : State) : Host.Outcome State Fault Refusal :=
  s.engine e 0x28 fun x f => s.block e x (s.intpBlock e x f)

/-- A sample as CPY converts it (09 R208). -/
def cpyVal (mode : Nat) (w : Nat) : SatV :=
  if mode = 0 then { v := signedN 32 w, sat := false }
  else if mode = 1 then { v := signedN 16 w * 65536, sat := false }
  else if mode = 2 then { v := signedN 24 w * 256, sat := false }
  else
    let r := asr (signedN 32 w + 32768) 16
    { v := sat16 r, sat := sat16 r != r }

/-- CPY, one sample a step (09 R208). -/
def State.cpyBlock (s : State) (e x : Nat) (f : Iw) : EBlock :=
  let c := s.ctx e x
  let (dst, src) := ((c.reg f.a).toNat, (c.reg f.b).toNat)
  { areas := [(dst, f.n), (src, f.n)]
    steps := f.n
    step := fun i t =>
      let y := cpyVal (f.imm % 4) (t.dmU e (src + 4 * i))
      (t.satIf e x y.sat).setDm e (dst + 4 * i) y.v
    fin := id }

/-- CPY (09 R208). -/
def execCpy (e : Fin 16) (s : State) : Host.Outcome State Fault Refusal :=
  s.engine e 0x29 fun x f => s.block e x (s.cpyBlock e x f)

/-- CLR, one sample a step (09 R208). -/
def State.clrBlock (s : State) (e x : Nat) (f : Iw) : EBlock :=
  let dst := ((s.ctx e x).reg f.a).toNat
  { areas := [(dst, f.n)], steps := f.n, step := fun i t => t.setDm e (dst + 4 * i) 0, fin := id }

/-- CLR (09 R208). -/
def execClr (e : Fin 16) (s : State) : Host.Outcome State Fault Refusal :=
  s.engine e 0x2A fun x f => s.block e x (s.clrBlock e x f)

/-- The square of a sample, shifted down, into an accumulator (09 R206, R208). -/
def Ctx.sqa (c : Ctx) (i : Nat) (v : Int) : Ctx :=
  let q := c.accu i + asr (v * v) 31
  { c.setAccu i (sat64 q) with sat := c.sat || sat64 q != q }

/-- SQA, one sample a step (09 R206, R208). -/
def State.sqaBlock (s : State) (e x : Nat) (f : Iw) : EBlock :=
  let src := ((s.ctx e x).reg f.b).toNat
  { areas := [(src, f.n)], steps := f.n, step := fun i t => t.modCtx e x fun c => c.sqa f.a (t.dm e (src + 4 * i)), fin := id }

/-- SQA (09 R206, R208). -/
def execSqa (e : Fin 16) (s : State) : Host.Outcome State Fault Refusal :=
  s.engine e 0x2B fun x f => s.block e x (s.sqaBlock e x f)

/-- The block instruction at which a context stands, as its steps (09 R203, R208). -/
def State.blockAt (s : State) (e x : Nat) : Option EBlock :=
  let f := s.instrAt e (s.ctx e x).pc
  match f.op with
  | 0x20 => some (s.biqBlock e x f)
  | 0x21 => some (s.firBlock e x f)
  | 0x22 => some (s.dlwBlock e x f)
  | 0x23 => some (s.dlrBlock e x f)
  | 0x24 => some (s.gainBlock e x f)
  | 0x25 => some (s.mixBlock e x f)
  | 0x26 => some (s.limBlock e x f)
  | 0x27 => some (s.pkaBlock e x f)
  | 0x28 => some (s.intpBlock e x f)
  | 0x29 => some (s.cpyBlock e x f)
  | 0x2A => some (s.clrBlock e x f)
  | 0x2B => some (s.sqaBlock e x f)
  | _ => none

/-- The outgoing context of a switch gets through some more steps of its block instruction, and holds its progress (09 R203). -/
def State.stopBlock (s : State) (e x n : Nat) : State :=
  if n = 0 ∨ (s.ctx e x).waitsRead (s.instrAt e (s.ctx e x).pc) then s
  else match s.blockAt e x with
    | some b => s.blockPart e x n b
    | none => s

end Sys2Proof.Machine
end

