-- ==== Sys2Proof/Machine/Engine.lean ====
section
/-! DEFINITION. The engines' scheduling, restarts, descriptors and channels, and the scrubber of Gallery
(09_zuelm_engines_and_gallery.md R200 to R204, R212, R215, R216, R222 to R226). -/

namespace Sys2Proof.Machine

/-- ENG_RUN_SET: RUN 0 to 1 (09 R200, R201). -/
def execEngRunSet (e : Fin 16) (s : State) : Host.Outcome State Fault Refusal :=
  .next (if s.coreRuns && !s.engRun e then s.engStart e else s)

/-- ENG_RUN_CLEAR: RUN 1 to 0 (09 R201, R219). -/
def execEngRunClear (e : Fin 16) (s : State) : Host.Outcome State Fault Refusal :=
  .next (if s.coreRuns && s.engRun e then (s.engStop e).settle else s)

/-- RSTRT: a FROZEN context restarts without counting (09 R222, R224). -/
def execRstrt (e : Fin 16) (x : Fin 3) (s : State) : Host.Outcome State Fault Refusal :=
  .next (if s.coreRuns then (s.rstrtCtx e x).settle else s)

/-- A context restarts by policy: RSTCNT, event 0x0806 (09 R222, R227). -/
def State.policyRestart (s : State) (e x : Nat) : State :=
  let cause := s.get (R.ENG_VIO.CAUSE e x)
  let s1 := (s.ctxRestart e x).incSat (R.ENG_CTX.RSTCNT e x)
  s1.raise 0x0806 1 (le 1 e ++ le 1 x ++ le 1 (s1.get (R.ENG_CTX.RSTCNT e x)) ++ le 1 cause)

/-- POLICY_RESTART: under RESTART, until RSTCNT is 4 (09 R222). -/
def execPolicyRestart (e : Fin 16) (x : Fin 3) (s : State) : Host.Outcome State Fault Refusal :=
  .next (if s.coreRuns && s.cxState e x == cxFrozen && s.fpolOf e x == 1 then (s.policyRestart e x).settle else s)

/-- TB_ACTIVATION: the period of a context falls due (09 R202). -/
def execTbActivation (e : Fin 16) (x : Fin 3) (s : State) : Host.Outcome State Fault Refusal :=
  .next (if s.coreRuns && s.get (R.ENG_TRG.SRC e x) == 1 then s.activate e x else s)

/-- The context that an engine runs next: the highest that is READY or RUN (09 R203). -/
def State.nextCtx (s : State) (e : Nat) : Option Nat :=
  (List.range 3).find? fun x => s.cxState e x == cxReady || s.cxState e x == cxRun

/-- The number of frozen contexts. -/
def State.frozenCount (s : State) : Nat := (allCtxs.filter fun q => s.cxState q.1 q.2 == cxFrozen).length

/-- A switch to the context that runs next: the outgoing one is READY again. A bank with a parity error freezes its context with cause
SHADOW, and a new switch is decided (09 R201, R203, R204). The count bounds the switches. -/
def State.switchN : Nat → State → Nat → State
  | 0, s, _ => s
  | k + 1, s, e =>
    match s.nextCtx e with
    | none => s
    | some x =>
      if s.running? e = some x then s
      else
        let s1 := match s.running? e with
          | some y => if s.cxState e y = cxRun then s.setCx e y cxReady else s
          | none => s
        if (s1.ctx e x).parBad then State.switchN k ((s1.setRunning e none).violate e x 9 0) e
        else (s1.setCx e x cxRun).setRunning e (some x)

/-- A switch, decided while the outgoing context gets through some more steps of a block instruction (09 R203). -/
def State.switch (s : State) (e n : Nat) : State :=
  match s.running? e with
  | some y => if s.cxState e y = cxRun ∧ s.preempted e y then State.switchN 4 (s.stopBlock e y n) e else State.switchN 4 s e
  | none => State.switchN 4 s e

/-- CONTEXT_SWITCH (09 R203, R204; 02 R30). -/
def execContextSwitch (w : EngSwitch) (s : State) : Host.Outcome State Fault Refusal :=
  .next (if s.eclkRuns && s.engRun w.e then
    let t := s.switch w.e w.steps
    if t.frozenCount = s.frozenCount then t else t.settle
  else s)

/-- REGISTER_READ_RETURN: the oldest read in flight reaches its register, once its word has left the queue (09 R204). -/
def execRegisterReadReturn (e : Fin 16) (x : Fin 3) (s : State) : Host.Outcome State Fault Refusal :=
  .next (if s.coreRuns then
    match (s.ctx e x).rd with
    | (r, some w) :: t => s.modCtx e x fun c => { c.setReg r w with rd := t }
    | _ => s
  else s)

/-- WAITT_RESUME: a context in WAITT goes on (09 R201, R208). -/
def execWaittResume (e : Fin 16) (x : Fin 3) (s : State) : Host.Outcome State Fault Refusal :=
  .next (match s.coreRuns, s.cxState e x == cxWaiting, (s.ctx e x).wait with
    | true, true, some (.tb _) => (s.modCtx e x fun c => { c with wait := none }).setCx e x cxReady
    | _, _, _ => s)

/-- A double-bit error found by the scrubber poisons the word (09 R212). -/
def State.scrubDouble (s : State) (a : Nat) : State := (s.setEcc a 3).galUnc a 24

/-- GALLERY_SCRUB: one word, with what the scrub finds or what lay in it; a poisoned word reports a double-bit error again
(09 R211, R212). -/
def execGalleryScrub (word : Fin 524288) (found : EccFound) (s : State) : Host.Outcome State Fault Refusal :=
  let a := 0x10000000 + 8 * word.val
  .next (if !s.eclkRuns then s
    else
      let s1 := s.galGrant a 24
      if 2 ≤ s.eccAt a ∨ found = .double then s1.scrubDouble a
      else if s.eccAt a = 1 ∨ found = .single then (s1.setEcc a 0).galCor a 24
      else s1)

/-- WIN_MAP_WRITE: the write of R215; a descriptor that R213 does not allow takes a free word (09 R213, R215, R225; log 4). -/
def execWinMapWrite (word : Word) (s : State) : Host.Outcome State Fault Refusal :=
  .next (if s.coreRuns then s.busWrite 23 R.WIN_MAP.at word else s)

/-- DMA_CH_WRITE (09 R216). -/
def execDmaChWrite (n : Fin 32) (word : Word) (s : State) : Host.Outcome State Fault Refusal :=
  .next (if s.coreRuns then s.dmaChWrite n word else s)

/-- DMA_RST (09 R226). -/
def execDmaRst (mask : Word) (s : State) : Host.Outcome State Fault Refusal :=
  .next (if s.coreRuns then (s.dmaRstWrite mask).settle else s)

end Sys2Proof.Machine
end

