-- ==== Sys2Proof/Machine/IsaCore.lean ====
section
/-! DEFINITION. Instructions of the engines: control flow, registers, arithmetic, loads and stores
(09_zuelm_engines_and_gallery.md R202, R206 to R208, R214). -/

namespace Sys2Proof.Machine

/-! ### Control flow -/

/-- NOP (09 R208). -/
def execNop (e : Fin 16) (s : State) : Host.Outcome State Fault Refusal := s.engineCtx e 0x00 fun _ c => c

/-- JMP; into or out of a loop body it is an error of the host's own making (09 R208). -/
def execJmp (e : Fin 16) (s : State) : Host.Outcome State Fault Refusal :=
  s.engine e 0x01 fun x f =>
    let t := f.imm % 8192
    .done (if s.jumpBad e x t then s.wild e x else s.modCtx e x fun c => { c with pc := t })

/-- CALL: a full return stack is a violation (09 R208, R221). -/
def execCall (e : Fin 16) (s : State) : Host.Outcome State Fault Refusal :=
  s.engine e 0x02 fun x f =>
    let t := f.imm % 8192
    let c := s.ctx e x
    if 8 ≤ c.rets.length then .viol s 5 0
    else
      let s1 := s.modCtx e x fun c => { c with pc := t, rets := (c.pc + 1) % 8192 :: c.rets }
      .done (if s.jumpBad e x t then s1.wild e x else s1)

/-- RET: an empty return stack is a violation (09 R208, R221). -/
def execRet (e : Fin 16) (s : State) : Host.Outcome State Fault Refusal :=
  s.engine e 0x03 fun x _ =>
    match (s.ctx e x).rets with
    | [] => .viol s 5 0
    | p :: t => .done (s.modCtx e x fun c => if p = 0 then { c with pc := 0, rets := t } else ({ c with rets := t } : Ctx).after (p - 1))

/-- LOOP: a count of 0 skips the body; a third level is a violation; an end before pc is an error of the host's own making
(09 R208, R221). -/
def execLoop (e : Fin 16) (s : State) : Host.Outcome State Fault Refusal :=
  s.engine e 0x04 fun x f =>
    let t := f.imm % 8192
    let c := s.ctx e x
    let n := (c.reg f.a).toNat
    if t < c.pc then .done (s.wild e x)
    else if n = 0 ∨ t = c.pc then .done (s.modCtx e x fun c => c.after t)
    else if 2 ≤ c.loops.length then .viol s 5 0
    else .done (s.modCtx e x fun c => { c with pc := (c.pc + 1) % 8192, loops := { first := c.pc + 1, last := t, left := n } :: c.loops })

/-- A skip of k instructions passes the end of a loop body that the context is in, or enters a body (09 R208). -/
def State.skipBad (s : State) (e x k : Nat) : Bool :=
  let c := s.ctx e x
  let t := c.pc + k + 1
  (c.loops.any fun l => decide (l.last < c.pc + k)) ||
    (s.bodies e).any fun b => decide (b.1 ≤ t) && decide (t ≤ b.2) && !(decide (b.1 ≤ c.pc) && decide (c.pc ≤ b.2))

/-- SKIP: the next k instructions are passed over where the condition holds; into or out of a loop body it is an error of the host's
own making (09 R207, R208). -/
def execSkip (e : Fin 16) (s : State) : Host.Outcome State Fault Refusal :=
  s.engine e 0x05 fun x f =>
    let c := s.ctx e x
    let k := f.n / 16 % 4 + 1
    if !c.cond (f.n % 16) then .done (s.modCtx e x Ctx.retire)
    else .done (if s.skipBad e x k then s.wild e x else s.modCtx e x fun c => c.after (c.pc + k))

/-- WAIT: READY again with an activation pending, or in the background; else IDLE (09 R202). -/
def State.waitNow (s : State) (e x : Nat) : State :=
  let back := x == 2 && s.get (R.ENG_TRG.SRC e x) == 0
  let again := (s.ctx e x).pend || back
  let s1 := (s.modCtx e x fun c => { c.retire with pend := false }).setRunning e none
  s1.setCx e x (if again then cxReady else cxIdle)

def execWait (e : Fin 16) (s : State) : Host.Outcome State Fault Refusal :=
  s.engine e 0x06 fun x _ => .done (s.waitNow e x)

/-- A moment in TB has come: TB[31:0] is at or past it (09 R208). -/
def tbReached (now : Nat) (t : Word) : Bool := !(BitVec.ofNat 32 now - t).msb

/-- WAITT: goes on where TB, as TBR reads it, has come to g[A]; else WAITING (09 R208; 02 R35). -/
def execWaitt (e : Fin 16) (s : State) : Host.Outcome State Fault Refusal :=
  s.engine e 0x07 fun x f =>
    let r := s.nowFree
    let t := (s.ctx e x).reg f.a
    if tbReached r.1 t then .done (r.2.modCtx e x Ctx.retire)
    else .done (((r.2.modCtx e x fun c => { c.retire with wait := some (.tb t) }).setRunning e none).setCx e x cxWaiting)

/-! ### Registers and arithmetic -/

/-- LDI (09 R208). -/
def execLdi (e : Fin 16) (s : State) : Host.Outcome State Fault Refusal :=
  s.engineCtx e 0x08 fun f c => c.setReg f.a (BitVec.ofNat 32 f.imm)

/-- MOV (09 R208). -/
def execMov (e : Fin 16) (s : State) : Host.Outcome State Fault Refusal :=
  s.engineCtx e 0x09 fun f c => c.setReg f.a (c.reg f.b)

/-- N[1] asks for saturation (09 R206). -/
def Iw.sat (f : Iw) : Bool := f.n / 2 % 2 == 1

/-- ADD (09 R206 to R208). -/
def execAdd (e : Fin 16) (s : State) : Host.Outcome State Fault Refusal :=
  s.engineCtx e 0x0A fun f c =>
    (c.flagsAdd f.sat (c.reg f.b) (c.operand f)).setReg f.a (addRes f.sat (c.reg f.b) (c.operand f))

/-- SUB (09 R206 to R208). -/
def execSub (e : Fin 16) (s : State) : Host.Outcome State Fault Refusal :=
  s.engineCtx e 0x0B fun f c =>
    (c.flagsSub f.sat (c.reg f.b) (c.operand f)).setReg f.a (subRes f.sat (c.reg f.b) (c.operand f))

/-- A result with its Z and N (09 R207). -/
def Ctx.logic (c : Ctx) (a : Nat) (r : Word) : Ctx := (c.flagsZN r).setReg a r

/-- AND (09 R208). -/
def execAnd (e : Fin 16) (s : State) : Host.Outcome State Fault Refusal :=
  s.engineCtx e 0x0C fun f c => c.logic f.a (c.reg f.b &&& c.operand f)

/-- OR (09 R208). -/
def execOr (e : Fin 16) (s : State) : Host.Outcome State Fault Refusal :=
  s.engineCtx e 0x0D fun f c => c.logic f.a (c.reg f.b ||| c.operand f)

/-- XOR (09 R208). -/
def execXor (e : Fin 16) (s : State) : Host.Outcome State Fault Refusal :=
  s.engineCtx e 0x0E fun f c => c.logic f.a (c.reg f.b ^^^ c.operand f)

/-- The shift of SHF: IMM as s6, left if positive; right arithmetic, or logical with N[0] (09 R208). -/
def shfRes (logical : Bool) (imm : Nat) (w : Word) : Word :=
  let k := signedN 6 imm
  if 0 ≤ k then w <<< k.toNat
  else if logical then w >>> (-k).toNat
  else w.sshiftRight (-k).toNat

/-- SHF (09 R208). -/
def execShf (e : Fin 16) (s : State) : Host.Outcome State Fault Refusal :=
  s.engineCtx e 0x0F fun f c => c.logic f.a (shfRes (f.n % 2 == 1) f.imm (c.reg f.b))

/-- CMP (09 R207, R208). -/
def execCmp (e : Fin 16) (s : State) : Host.Outcome State Fault Refusal :=
  s.engineCtx e 0x10 fun f c => c.flagsCmp (c.reg f.b) (c.operand f)

/-! ### Accumulators -/

/-- N[0] asks for the negative product. -/
def Iw.sign (f : Iw) : Int := if f.n % 2 = 1 then -1 else 1

/-- MPY (09 R208). -/
def execMpy (e : Fin 16) (s : State) : Host.Outcome State Fault Refusal :=
  s.engineCtx e 0x15 fun f c => c.setAccu f.a (f.sign * (s32 (c.reg f.b) * s32 (c.reg f.c)))

/-- An accumulator sum, saturated at the s64 limits (09 R206). -/
def Ctx.accAddTo (c : Ctx) (i : Nat) (v : Int) : Ctx :=
  let t := c.accu i + v
  (c.setAccu i (sat64 t)).flagSat (sat64 t != t)

/-- The accumulator beside A in MAC2: its index with bit 0 inverted (09 R208). -/
def pairAcc (a : Nat) : Nat := if a % 2 = 0 then a + 1 else a - 1

/-- MAC2 (09 R206, R208). -/
def execMac2 (e : Fin 16) (s : State) : Host.Outcome State Fault Refusal :=
  s.engineCtx e 0x16 fun f c =>
    (c.accAddTo f.a (f.sign * (s32 (c.reg f.b) * s32 (c.reg f.c)))).accAddTo (pairAcc f.a)
      (f.sign * (s32 (c.reg (f.b + 1)) * s32 (c.reg (f.c + 1))))

/-- The value of RND before it saturates: rounded half up, as it stands for s = 0 (09 R206, R208). -/
def rndShift (v : Int) (k : Nat) : Int := if k = 0 then v else asr (v + (2 ^ (k - 1) : Nat)) k

/-- RND (09 R208). -/
def execRnd (e : Fin 16) (s : State) : Host.Outcome State Fault Refusal :=
  s.engineCtx e 0x17 fun f c =>
    let v := rndShift (c.accu f.b) (f.imm % 64)
    (c.setReg f.a (w32 (sat32 v))).flagSat (sat32 v != v)

/-! ### Loads and stores -/

/-- A register load enters the register queue, or waits for an entry (09 R198, R204). -/
def State.ldReg (s : State) (e x r a : Nat) : EOut :=
  .done (if s.regRoom e 1 then
    (s.pushQ e { addr := a, word := none, ctx := some x }).modCtx e x fun c => { c.retire with rd := c.rd ++ [(r, none)] }
  else s)

/-- LD: alignment, the window check, then the word; a double-bit error is a violation (09 R199, R204, R208, R212, R214, R221). -/
def State.ldNow (s : State) (e x : Nat) (f : Iw) : EOut :=
  let a := (s.ctx e x).addrOf f
  let s1 := s.overlapUse e x a
  if a % 4 ≠ 0 then .viol s 7 a
  else match s.place e x a false with
    | .viol q => .viol s1 q a
    | .at_ p =>
      if inRegs p then s1.ldReg e x f.a p
      else
        let r := s1.memFind e p
        if r.2 then .done (r.1.modCtx e x fun c => (c.setReg f.a (BitVec.ofNat 32 (s.rd32 p))).retire) else .viol r.1 8 a

def execLd (e : Fin 16) (s : State) : Host.Outcome State Fault Refusal := s.engine e 0x11 fun x f => s.ldNow e x f

/-- A register store enters the register queue, or waits for an entry (09 R198, R204). -/
def State.stReg (s : State) (e x a : Nat) (w : Word) : EOut :=
  .done (if s.regRoom e 1 then (s.pushQ e { addr := a, word := some w }).modCtx e x Ctx.retire else s)

/-- ST: alignment, the window check, then the word; a double-bit error is a violation (09 R199, R204, R208, R212, R214, R221). -/
def State.stNow (s : State) (e x : Nat) (f : Iw) : EOut :=
  let a := (s.ctx e x).addrOf f
  let w := (s.ctx e x).reg f.a
  let s1 := s.overlapUse e x a
  if a % 4 ≠ 0 then .viol s 7 a
  else match s.place e x a true with
    | .viol q => .viol s1 q a
    | .at_ p =>
      if inRegs p then s1.stReg e x p w
      else
        let r := s1.memWr32 e p w.toNat
        if r.2 then .done (r.1.modCtx e x Ctx.retire) else .viol r.1 8 a

def execSt (e : Fin 16) (s : State) : Host.Outcome State Fault Refusal := s.engine e 0x12 fun x f => s.stNow e x f

/-- LDA of a register block, which is accessed as 32-bit words alone: an error of the host's own making, and the accumulator takes a
free value (00 R7, R9; log 4). -/
def State.ldaReg (s : State) (e x i a : Nat) : EOut :=
  .done (s.bump.modCtx e x fun c =>
    (c.setAccu i (signedN 64 ((s.freeWord a).toNat + 2 ^ 32 * (s.freeWord (a + 4)).toNat))).retire)

/-- LDA: 64 bits, 8-byte aligned (09 R199, R208, R212, R214; 00 R9). -/
def State.ldaNow (s : State) (e x : Nat) (f : Iw) : EOut :=
  let a := (s.ctx e x).addrOf f
  let s1 := s.overlapUse e x a
  if a % 8 ≠ 0 then .viol s 7 a
  else match s.place e x a false with
    | .viol q => .viol s1 q a
    | .at_ p =>
      if inRegs p then s1.ldaReg e x f.a p
      else
        let r := s1.memFind e p
        if r.2 then .done (r.1.modCtx e x fun c => (c.setAccu f.a (signedN 64 (s.rd64 p))).retire) else .viol r.1 8 a

def execLda (e : Fin 16) (s : State) : Host.Outcome State Fault Refusal := s.engine e 0x13 fun x f => s.ldaNow e x f

/-- STA to a register block: an error of the host's own making, and two registers take free words (00 R7, R9; log 4). -/
def State.staReg (s : State) (e x a : Nat) : EOut :=
  .done (if s.regRoom e 2 then
    (((s.pushQ e { addr := a, word := some (s.freeWord a) }).pushQ e { addr := a + 4, word := some (s.freeWord (a + 4)) }).modCtx e x
      Ctx.retire).bump
  else s)

/-- STA: 64 bits, 8-byte aligned; the write replaces a word with an error (09 R208, R212, R214; 00 R9). -/
def State.staNow (s : State) (e x : Nat) (f : Iw) : EOut :=
  let a := (s.ctx e x).addrOf f
  let s1 := s.overlapUse e x a
  if a % 8 ≠ 0 then .viol s 7 a
  else match s.place e x a true with
    | .viol q => .viol s1 q a
    | .at_ p =>
      if inRegs p then s1.staReg e x p
      else .done ((s1.memWr64 e p (bitsN 64 ((s.ctx e x).accu f.a))).modCtx e x Ctx.retire)

def execSta (e : Fin 16) (s : State) : Host.Outcome State Fault Refusal := s.engine e 0x14 fun x f => s.staNow e x f

end Sys2Proof.Machine
end

