-- ==== Sys2Proof/Machine/IsaSys.lean ====
section
/-! DEFINITION. System instructions of the engines (09_zuelm_engines_and_gallery.md R202, R207, R208, R216, R217, R221). -/

namespace Sys2Proof.Machine

/-- A violation to which no address belongs: what ENG_VADR takes is a free value (09 R222; log 8). -/
def State.violFree (s : State) (cause : Nat) : EOut :=
  .viol { s with freeCtr := s.freeCtr + 1 } cause (Config.undefinedReg s.freeCtr cause).toNat

/-- DMAI: ownership, then what the channel's state allows, then the descriptor (09 R207, R216, R217). -/
def execDmai (e : Fin 16) (s : State) : Host.Outcome State Fault Refusal :=
  s.engine e 0x30 fun x f =>
    let n := f.n % 32
    let st := s.chState n
    if !s.dmaOwned e x n then s.violFree 0xA
    else if st = chBusy then .done (s.modCtx e x fun c => { c.retire with dbsy := true })
    else if (st = chFrozen ∨ st = chAborted) ∧ f.n / 32 % 2 = 0 then .done (s.modCtx e x fun c => { c.retire with derr := true })
    else s.dmaDesc e x n ((s.ctx e x).reg f.b).toNat

/-- DERR as DMAW leaves it on a channel that it does not wait for (09 R207). -/
def State.dmawErr (s : State) (x n : Nat) (old : Bool) : Bool :=
  let st := s.chState n
  if st = chFrozen ∨ st = chAborted then true
  else if st = chIdle ∧ s.get (R.DMA_ST.BCTX n) = x ∧ s.get (R.DMA_ST.DONE n) = (s.dma n).cnt then false
  else old

/-- DMAW: WAITING while the channel is BUSY and bound to the context (09 R207, R208, R216). -/
def execDmaw (e : Fin 16) (s : State) : Host.Outcome State Fault Refusal :=
  s.engine e 0x31 fun x f =>
    let n := f.n % 32
    if !s.dmaOwned e x n then s.violFree 0xA
    else if s.chState n = chBusy ∧ s.get (R.DMA_ST.BCTX n) = x then
      .done (((s.modCtx e x fun c => { c.retire with wait := some (.dma n) }).setRunning e none).setCx e x cxWaiting)
    else .done (s.modCtx e x fun c => { c.retire with derr := s.dmawErr x n c.derr })

/-- CHK: a check-in of a task (09 R208; 15_drip_and_flowstone.md R328). -/
def execChk (e : Fin 16) (s : State) : Host.Outcome State Fault Refusal :=
  s.engine e 0x32 fun x f => .done ((s.modCtx e x Ctx.retire).dripCheckIn (f.imm % 16))

/-- EVT: a code out of range is a violation (09 R208, R221; 15 R333). -/
def execEvt (e : Fin 16) (s : State) : Host.Outcome State Fault Refusal :=
  s.engine e 0x33 fun x f =>
    let code := f.imm % 65536
    let c := s.ctx e x
    if code < 0x0900 ∨ 0x09FF < code then s.violFree 0xB
    else .done ((s.modCtx e x Ctx.retire).raise code (f.n % 4)
      (le 1 e ++ le 1 x ++ le 4 (c.reg f.b).toNat ++ le 4 (c.reg f.c).toNat))

/-- A doorbell: it activates a context whose source is the doorbell (09 R202, R208). -/
def State.doorbell (s : State) (e x : Nat) : State :=
  if x < 3 ∧ s.get (R.ENG_TRG.SRC e x) = 2 then s.activate e x else s

/-- SIG (09 R202, R208). -/
def execSig (e : Fin 16) (s : State) : Host.Outcome State Fault Refusal :=
  s.engine e 0x34 fun x f => .done ((s.modCtx e x Ctx.retire).doorbell (f.imm % 16) (f.imm / 16 % 4))

/-- FLG: bits cleared, then set (09 R207, R208). -/
def execFlg (e : Fin 16) (s : State) : Host.Outcome State Fault Refusal :=
  s.engineCtx e 0x35 fun f c => c.flgPut ((c.flgWord - (c.flgWord &&& f.imm % 256)) ||| f.n % 256)

/-- TBR: both words of one value of the ECLK copy of TB_NOW (09 R208; 02_time_base_and_clocks.md R35). -/
def execTbr (e : Fin 16) (s : State) : Host.Outcome State Fault Refusal :=
  s.engine e 0x36 fun x f =>
    let r := s.nowFree
    .done (r.2.modCtx e x fun c =>
      ((c.setReg f.a (BitVec.ofNat 32 r.1)).setReg (f.a + 1) (BitVec.ofNat 32 (r.1 / 2 ^ 32))).retire)

/-- ILLEGAL_OPCODE: an opcode that R208 does not list is a violation, as is a word with a double-bit error (09 R199, R208, R221,
R222). -/
def execIllegalOpcode (e : Fin 16) (s : State) : Host.Outcome State Fault Refusal :=
  match s.issuing e with
  | none => .next s
  | some x =>
    let pc := (s.ctx e x).pc
    if opKnown (s.instrAt e pc).op then .next s
    else if 2 ≤ s.eccAt (localBase e + 8 * pc) then .next (s.violate e x 8 (8 * pc)).settle
    else .next (s.violate e x 4 0).settle

end Sys2Proof.Machine
end

