-- ==== Sys2Proof/Machine/Image.lean ====
section
/-! DEFINITION. How the loader writes a section of an image to its targets (12_image_and_start.md R268, R272, R273). -/

namespace Sys2Proof.Machine

/-! ### Writing a section -/

/-- What reading and writing a section comes to: the state, and the failing check (0 none). -/
structure SecRes where
  st : State
  code : Nat

/-- A register or program that a record of the copy wrote is noted (12 R273). -/
def State.touch (s : State) (a : Nat) : State := { s with img := { s.img with touched := a :: s.img.touched } }

/-- The word that the loader writes: RUN of an engine is its own, and DOM of one that has a program (12 R268). -/
def State.loaderWord (s : State) (l : List Sec) (a v : Nat) : Word :=
  let w := BitVec.ofNat 32 v
  if blkOf a = 0x40090 ∧ offOf a < 0x40 then
    let e := offOf a / 4
    let w1 := fldPut w (R.ENG_CTL.RUN e) (s.get (R.ENG_CTL.RUN e))
    if (progOwner l e).isSome then fldPut w1 (R.ENG_CTL.DOM e) (s.get (R.ENG_CTL.DOM e)) else w1
  else w

/-- A register record is written as master 22, and the register is noted (12 R268, R273, R279; 01 R21). -/
def State.loaderWrite (s : State) (l : List Sec) (a v : Nat) : State :=
  ((s.busWrite 22 a (s.loaderWord l a v)).busGrant 22).touch a

/-- Register records one after another until one fails check 0x0A (12 R273). -/
def applyRecs (l : List Sec) (x : Sec) : List (Nat × Nat) → State → SecRes
  | [], s => { st := s, code := 0 }
  | (a, v) :: t, s => if recTarget l x a v then applyRecs l x t (s.loaderWrite l a v) else { st := s, code := 0xA }

/-- The words of a program, from index 0 on; those of an engine that runs, an error of the host's own making, leave free words
(09 R199; 12 R268; log 4). -/
def State.progWords (s : State) (run : Bool) (a : Nat) : Nat → List Byte → State
  | 0, _ => s
  | n + 1, data =>
    let v := if run then (s.freeWord a).toNat + 2 ^ 32 * (s.freeWord (a + 4)).toNat else leVal (data.take 8)
    ((if run then s.bump else s).memWr64 22 a v).progWords run (a + 8) n (data.drop 8)

/-- A program: its words, and DOM (12 R268). -/
def State.applyProg (s : State) (x : Sec) (data : List Byte) : State :=
  ((s.progWords (s.engRun x.sub) (0x20000000 + x.sub * 0x20000) (data.length / 8) data).set (R.ENG_CTL.DOM x.sub) x.owner).touch
    (R.ENG_CTL.at x.sub)

/-- Data records (12 R268). -/
def State.applyData (s : State) (e : Nat) (data : List Byte) : State :=
  ((dataRecs data.length data).getD []).foldl (fun t r => t.galWords 22 (0x20000000 + e * 0x20000 + r.1)
    ((List.range (r.2.length / 4)).map fun i => BitVec.ofNat 32 (fieldAt r.2 (4 * i) 4))) s

/-- Coefficient banks: twelve loops, two banks, ninety entries (12 R268). -/
def State.applyCoefs (s : State) (d : Nat) (data : List Byte) : State :=
  (List.range 2160).foldl (fun t k =>
    let b := decide (k / 90 % 2 = 1)
    let c : Coef := { m := BitVec.ofNat 32 (fieldAt data (8 * k) 4), s := BitVec.ofNat 5 (fieldAt data (8 * k + 4) 1) }
    t.putCoef (loopNo d (k / 180)) b (k % 90) c) s

/-- The ACT mask at the end of a coefficient section (12 R268). -/
def actMask (data : List Byte) : Nat := fieldAt data 17280 4 % 0x1000

/-- ACT from a mask, PEND 0 (12 R277). -/
def State.setAct (s : State) (d mask : Nat) : State := (s.set (R.LFC_BANK.ACT d) mask).set (R.LFC_BANK.PEND d) 0

/-- The descriptors of a window section (12 R268). -/
def winsOf (data : List Byte) : List (Nat × Win) :=
  (List.range 48).map fun i =>
    (i, { desc := winDescMask (BitVec.ofNat 32 (fieldAt data (8 * i) 4)), map := BitVec.ofNat 32 (fieldAt data (8 * i + 4) 4) })

/-- A descriptor from the loader: it commits while its context is STOP or FROZEN, else WREJ; one that R213 does not allow, an error
of the host's own making, leaves a free one (09 R213, R215, R225; log 4). -/
def State.loaderWin (s : State) (e x i : Nat) (d : Win) : State :=
  if !s.winOpen e x then s.setB R.WIN_STAT.WREJ true
  else if winBad d then s.bump.setWin e x i { desc := winDescMask (s.freeWord R.WIN_DESC.at), map := s.freeWord R.WIN_MAP.at }
  else s.setWin e x i d

/-- A window table (12 R268; 09 R215). -/
def State.applyWins (s : State) (e : Nat) (data : List Byte) : State :=
  (winsOf data).foldl (fun t w => t.loaderWin e (w.1 / 16) (w.1 % 16) w.2) s

/-- A share of the frame table (12 R268). -/
def State.applyFrames (s : State) (d : Nat) (data : List Byte) : State :=
  (List.range 48).foldl (fun t i => t.frameWrite (48 * d + i) (BitVec.ofNat 32 (fieldAt data (4 * i) 4))) s

/-- An entry of an event table (15 R335). -/
def evtOf (w : Nat) : EvtEntry := { code := w % 65536, dis := decide (2 ^ 31 ≤ w), p := w / 2 ^ 24 % 128, b := w / 65536 % 256 }

/-- The entries of an event table (15 R335). -/
def evtsOf (data : List Byte) : List EvtEntry := (List.range (fieldAt data 0 4)).map fun i => evtOf (fieldAt data (4 + 4 * i) 4)

/-- Codes strictly rising and in range; others are a host error (15 R335). -/
def evtsOk (l : Nat) : List EvtEntry → Bool
  | [] => true
  | e :: t => decide (l < e.code) && decide (e.code ≤ 0xBFF) && evtsOk e.code t

/-- An event table; one with codes out of order or range, an error of the host's own making, limits events in a free way
(15 R335; log 4). -/
def State.applyEvts (s : State) (l : List EvtEntry) : State :=
  if evtsOk 0xFF l then s.modFls fun f => { f with evt := l }
  else s.bump.modFls fun f => { f with evt := (List.range l.length).map fun i => evtOf (s.freeWord i).toNat }

/-- A section that passed checks 0x09 and 0x0A is written to its targets; the records of a register list one by one.
In a reload, the ACT mask waits for its end (12 R268, R273, R277). -/
def State.applySec (s : State) (l : List Sec) (x : Sec) (data : List Byte) (reload : Bool) : SecRes :=
  let ok : State → SecRes := fun t => { st := t, code := 0 }
  if x.typ = 1 ∨ x.typ = 2 ∨ x.typ = 8 then applyRecs l x (pairsOf data) s
  else if x.typ = 3 then ok (s.applyProg x data)
  else if x.typ = 4 then ok (s.applyData x.sub data)
  else if x.typ = 5 then
    let t := s.applyCoefs x.owner data
    ok (if reload then { t with img := { t.img with actNext := 0x1000 + actMask data } } else t.setAct x.owner (actMask data))
  else if x.typ = 6 then ok (s.applyWins x.sub data)
  else if x.typ = 7 then ok (s.applyFrames x.owner data)
  else if x.typ = 9 then ok (s.applyEvts (evtsOf data))
  else if x.typ = 0xA then ok { s with img := { s.img with ids := data } }
  else ok { s with img := { s.img with ctl := data } }

/-- A section is read, written and checked: its records are written as they arrive, before its CRC and its tag are known
(12 R272, R273). -/
def State.readSec (s : State) (l : List Sec) (x : Sec) (data : List Byte) (reload : Bool) : SecRes :=
  if !formOk x data then { st := s, code := 9 }
  else if !targetOk x data then { st := s, code := 0xA }
  else
    let r := s.applySec l x data reload
    if r.code ≠ 0 then r else { r with code := s.endCheck x data }

/-- The comparison of R152: the codes of the last WAKE with the expected ones (06 R152, R154). -/
def State.safeCompare (s : State) (d : Nat) : State :=
  let code := fun (g : Nat) => bitsAt (s.get (R.PWM_SCHK.CODE d)) (2 * g) 2
  let want := fun (g : Nat) => if g < 8 then 0 else b2n (s.bitI (R.PWM_SAFE.SAFE d) (g - 8))
  let mism := bitsUpto 16 fun g => code g != want g
  let dmis := s.get (R.PWM_SCHKD.DCODE d) != 1
  let s1 := ((s.setB (R.PWM_SCHKD.CMP d) true).set (R.PWM_SCHKD.MISM d) mism).setB (R.PWM_SCHKD.DMIS d) dmis
  let any := mism != 0 || dmis
  let s2 := s1.setB (R.PWM_STAT.SAFEMIS d) any
  if any then s2.raise 0x0501 2 (le 1 d ++ le 2 mism ++ le 1 (b2n dmis)) else s2

end Sys2Proof.Machine
end

