-- ==== Sys2Proof/Machine/Loader.lean ====
section
/-! DEFINITION. The commands of LOAD: discovery, headers, tables, sections, the clearing of a failed candidate, and the
completion of LOAD (12_image_and_start.md R265, R273 to R275). -/

namespace Sys2Proof.Machine

/-- The loader works: the device is in LOAD and its core runs. -/
def State.loading (s : State) (p : LdrPhase) : Bool := s.coreRuns && s.sys.mode == .load && s.img.phase == p

/-- What SFDP gives is kept; QERR without its signature (12 R265, R284; 15 R327). -/
def State.discover (s : State) (p : FlashParams) : State :=
  let s1 := (s.modImg fun x => { x with par := p, phase := .header 0, hdrs := 0, order := [] }).dripMilestone
  let s2 := (s1.setB R.IMG_STAT.QERR (!p.sfdp)).setB R.IMG_STAT.NOSUSP (p.sfdp && p.suspend.isNone)
  s2.set R.IMG_QCFG.DENS (if p.sfdp then p.dens.toNat else 0)

/-- FLASH_DISCOVERY: a status write that it calls for waits until the write inhibit ends (12 R265; 13 R300). -/
def execFlashDiscovery (p : FlashParams) (s : State) : Host.Outcome State Fault Refusal :=
  .next (if s.loading .discover && !(p.sfdp && p.statusWrite && s.pwr.inh) then s.discover p else s)

/-- No candidate was accepted: COPY reads 0b11, event 0x0203, HOLD (12 R273, R285; 11 R248, R250). -/
def State.noCopy (s : State) : State :=
  let s1 := (s.set R.IMG_STAT.COPY 3).raise 0x0203 3 (le 1 (s.get R.IMG_STAT.QERR) ++ le 1 s.img.hdrs)
  ((s1.modImg fun x => { x with phase := .idle }).modSys fun x => { x with noImage := true }).enterMode .hold

/-- The table of the next copy in order is read in the mode its header allows; with none left, no copy is accepted (12 R266, R273). -/
def State.nextCopy (s : State) : State :=
  match s.img.order with
  | [] => s.noCopy
  | c :: t => (s.modImg fun x => { x with copy := c, order := t, phase := .table }).showMode (s.hdrAt c)

/-- The copies whose headers passed, in descending GEN, copy A first of equal ones (12 R273). -/
def State.copyOrder (s : State) : List Nat :=
  match s.img.hdrs.testBit 0, s.img.hdrs.testBit 1 with
  | true, true => if (s.hdrAt 0).gen < (s.hdrAt 1).gen then [1, 0] else [0, 1]
  | true, false => [0]
  | false, true => [1]
  | false, false => []

/-- The header of copy c has been read: checks 0x01 to 0x05 (12 R272, R273). -/
def State.headerDone (s : State) (c : Nat) : State :=
  let s1 := s.dripMilestone
  let code := hdrCheck (s.get R.SYS_ID.SREV) (s.hdrAt c)
  let s2 := if code = 0 then s1.modImg fun x => { x with hdrs := x.hdrs + 2 ^ c } else s1.imgChk code 0xFF 0 c
  if c = 0 ∧ s.copyBExists then s2.modImg fun x => { x with phase := .header 1 }
  else (s2.modImg fun x => { x with order := s2.copyOrder }).nextCopy

/-- HEADER_READ_DONE (12 R273). -/
def execHeaderReadDone (s : State) : Host.Outcome State Fault Refusal :=
  .next (match s.img.phase with
    | .header c => if s.loading (.header c) then (s.headerDone c).settle else s
    | _ => s)

/-- A copy is rejected: CPYREJ, the failure recorded, event 0x0202 (12 R273, R285). -/
def State.rejectCopy (s : State) (code sidx : Nat) : State :=
  ((s.imgChk code sidx 0 s.img.copy).setB R.IMG_STAT.CPYREJ true).raise 0x0202 1
    (le 1 s.img.copy ++ le 1 code ++ le 1 sidx ++ le 4 (s.hdrAt s.img.copy).gen)

/-- TABLE_READ_DONE: checks 0x06 to 0x08 (12 R272, R273). -/
def State.tableDone (s : State) : State :=
  let c := s.img.copy
  let s1 := s.dripMilestone
  let code := s.tableCheck (s.hdrAt c) (s.tableAt c)
  if code = 0 then s1.modImg fun x => { x with phase := .sect, idx := 0, touched := [] }
  else (s1.rejectCopy code 0xFF).nextCopy

def execTableReadDone (s : State) : Host.Outcome State Fault Refusal :=
  .next (if s.loading .table then s.tableDone.settle else s)

/-- A stream or a port that is not enabled is OFF. -/
def State.inputsOff (s : State) : State :=
  let s1 := (List.range 4).foldl (fun t n => if t.bit (R.NET_SCFG.EN n) then t else t.set (R.NET_SST.STATE n) stOff) s
  (List.range 2).foldl (fun t i => if t.tdmFld i R.TDM_BCFG.EN = 1 then t else t.set (tdmRegs i).state stOff) s1

/-- The clearing after a failed candidate: every register that a record wrote, the local memories, the banks and ACT, the
frame table and the windows return to reset (12 R273). -/
def State.clearCandidate (s : State) : State :=
  let gone := fun (a : Nat) => s.img.touched.contains a || (decide (0x40040400 ≤ a) && decide (a < 0x40040700)) ||
    (List.range 4).any fun d => a == R.LFC_BANK.at d || a == R.PRF_STAT.at d
  let s1 :=
    { s with
      regs := s.regs.filter fun e => !gone e.1
      mem := s.mem.filter fun c => !(decide (0x20000000 ≤ c.1) && decide (c.1 < 0x20200000))
      coefs := []
      prfs := []
      eng := { s.eng with wins := [], winHold := 0, ecc := s.eng.ecc.filter fun e => decide (e.1 < 0x80000) }
      fls := { s.fls with evt := [] }
      img := { s.img with touched := [], ids := [], ctl := [], phase := .clear } }
  let s2 := (List.range 48).foldl (fun t l => t.modLoop l fun x =>
    { x with bankBad := 0, bankFill := [], swapT := none, ecc := x.ecc.filter fun e => decide (256 ≤ e.1) }) s1
  s2.inputsOff

/-- A candidate fails a check (12 R273). -/
def State.failCandidate (s : State) (code sidx : Nat) : State := (s.rejectCopy code sidx).clearCandidate

/-- SECTION_READ_DONE: the section of the candidate at hand has been read, written and checked (12 R272, R273). -/
def execSectionReadDone (s : State) : Host.Outcome State Fault Refusal :=
  .next (if s.loading .sect then
    let c := s.img.copy
    let l := secsOf (s.tableAt c)
    match l[s.img.idx]? with
    | none => s.modImg fun x => { x with phase := .complete }
    | some x =>
      let r := s.dripMilestone.readSec l x (s.copyRd c x.off x.len) false
      if r.code ≠ 0 then (r.st.failCandidate r.code s.img.idx).settle
      else
        let n := s.img.idx + 1
        (r.st.modImg fun y => { y with idx := n, phase := if n = l.length then .complete else .sect }).settle
  else s)

/-- COPY_CLEAR_DONE: the clearing ends, and the table of the next copy is read (12 R273; 15 R327). -/
def execCopyClearDone (s : State) : Host.Outcome State Fault Refusal :=
  .next (if s.loading .clear then s.dripMilestone.nextCopy.settle else s)

/-- The event table applies from now on: buckets are cut to their new depth, and counts restart (15 R335). -/
def State.evtBegin (s : State) : State :=
  let s1 := s.modFls fun f => { f with evtOn := true }
  s1.fls.buckets.foldl (fun t e =>
    let b := (t.bucketDP e.1).1
    t.setBucket e.1 { e.2 with tok := min e.2.tok b, ms := if e.2.tok < b then 0 else e.2.ms }) s1

/-- The start regime of Drip ends with the cycle that the completion of LOAD ends, and the clock that CSRC names takes effect
(15 R323, R327, R328). -/
def State.dripOrdinary (s : State) : State :=
  (s.dripMilestone.setB R.DRP_STAT.START false).modFls fun f => { f with csrc := s.bit R.DRP_WIN.CSRC }

/-- The copy in force is recorded; it compares equal with itself (12 R275, R276, R282). -/
def State.recordCopy (s : State) (c : Nat) (h : Hdr) : State :=
  let s1 := ((((s.set R.IMG_STAT.COPY c).setB R.IMG_STAT.AUTH s.authEn).set R.IMG_STAT.DSRC (if c = 0 then 0 else 15)).set R.IMG_ID.V h.imgid).modImg
    fun x => { x with compat := some h.compat }
  if c = 0 then
    (((s1.setB R.IMG_STAT.VA true).setB R.IMG_STAT.CMPA true).set R.IMG_GENA.V h.gen).modImg fun x => { x with hcrcA := h.hcrc }
  else
    (((s1.setB R.IMG_STAT.VB true).setB R.IMG_STAT.CMPB true).set R.IMG_GENB.V h.gen).modImg fun x => { x with hcrcB := h.hcrc }

/-- The engines whose program carries START, among those of an owner test, begin to run (12 R275, R277). -/
def State.startEngines (s : State) (l : List Sec) (own : Nat → Bool) : State :=
  (l.filter fun x => x.typ == 3 && x.start && own x.owner).foldl (fun t x => t.engStart x.sub) s

/-- LOAD completes (12 R275; 06 R152; 08 R195; 15 R323, R327, R335; 02 R47). -/
def State.loadDone (s : State) (c : Nat) (h : Hdr) (l : List Sec) : State :=
  let s1 := ((s.evtBegin.enterMode .selftest).recordCopy c h).raise 0x0201 0 (le 1 c ++ le 4 h.gen ++ le 4 h.imgid)
  let s2 := (List.range 4).foldl State.safeCompare s1.dripOrdinary
  let s3 := s2.startEngines l fun _ => true
  let s4 := if s3.bit R.ENS_CFG.EN then s3.ensAcquire else s3
  (s4.modImg fun x => { x with phase := .idle, touched := [] }).autoBegin

/-- LOAD_COMPLETE: the checks at the end of the copy, then the completion of LOAD (12 R272, R275). -/
def execLoadComplete (s : State) : Host.Outcome State Fault Refusal :=
  .next (if s.loading .complete then
    let c := s.img.copy
    let h := s.hdrAt c
    let l := secsOf (s.tableAt c)
    if !denCounts (denOf (s.copyRd c) l) l then (s.failCandidate 8 0xFF).settle
    else if compatOf (s.copyRd c) l ≠ h.compat then (s.failCandidate 0xD 0xFF).settle
    else (s.loadDone c h l).settle
  else s)

end Sys2Proof.Machine
end

