-- ==== Sys2Proof/Machine/Reload.lean ====
section
/-! DEFINITION. Reloading one domain: its header and table, its sections, and its end
(12_image_and_start.md R276 to R282; 11_modes.md R253, R259). -/

namespace Sys2Proof.Machine

/-- The sections that a reload of domain d rewrites, with their index in the table: those with OWNER d, and the program, data
and windows of every engine whose program has OWNER d (12 R276). -/
def reloadSecs (l : List Sec) (d : Nat) : List (Nat × Sec) :=
  ((List.range l.length).zip l).filter fun p =>
    (secDomain p.2.typ && p.2.owner == d) || (secEngine p.2.typ && progOwner l p.2.sub == some d)

/-- The index of the first section of a reload at or after an index; none at the end (12 R277). -/
def nextSec (q : List (Nat × Sec)) (i : Nat) : Option Nat := (q.find? fun p => decide (i ≤ p.1)).map (·.1)

/-- The loader goes on to the section at or after an index, or to the end of the reload. -/
def State.reloadNext (s : State) (q : List (Nat × Sec)) (i : Nat) : State :=
  match nextSec q i with
  | some k => s.modImg fun x => { x with idx := k, phase := .rldSection }
  | none => s.modImg fun x => { x with phase := .rldEnd }

/-- The device is in PRECHARGE or a running mode (11 R253). -/
def State.inRunning (s : State) : Bool := modeOpen s.sys.mode

/-- The reload of domain d ends: RLD clears, T is kept, a suspended flash operation resumes (12 R277, R278, R284). -/
def State.reloadOver (s : State) (d : Nat) : State :=
  ((s.setI R.IMG_STAT.RLD d false).set R.IMG_RTIME.V (s.now - s.img.rldT0)).modImg fun x =>
    { x with rld := none, phase := .idle, fSusp := false, touched := [], actNext := 0 }

/-- A check fails during the reload of domain d: DREJ, event 0x0205, OFF (12 R278, R284, R285). -/
def State.reloadFail (s : State) (d code sidx : Nat) : State :=
  let s1 := ((s.imgChk code sidx 1 s.img.copy).setI R.IMG_STAT.DREJ d true).raise 0x0205 2
    (le 1 d ++ le 1 code ++ le 1 sidx ++ le 1 s.img.copy)
  (s1.reloadOver d).enterDst d .off

/-- The loader reloads domain d and stands at a phase; without suspend it first waits for the flash (12 R277, R279). -/
def State.reloading (s : State) (d : Nat) (p : LdrPhase) : Bool :=
  s.coreRuns && s.img.rld == some d && s.img.phase == p && !(s.img.fBusy && !s.img.fSusp)

/-- Header and table of the copy are read again, the table in the mode that the header allows, and compared with the HCRC kept at
its acceptance (12 R266, R276, R277). -/
def State.reloadTable (s0 : State) (d : Nat) : State :=
  let c := s0.img.copy
  let h := s0.hdrAt c
  let s := s0.showMode h
  let kept := if c = 0 then s.img.hcrcA else s.img.hcrcB
  if h.hcrc = kept ∧ hdrCrc h (s.tableAt c) = kept then
    s.reloadNext (reloadSecs (secsOf (s.tableAt c)) d) 0
  else s.reloadFail d 6 0xFF

/-- RELOAD_START (12 R276, R277). -/
def execReloadStart (d : Fin 4) (s : State) : Host.Outcome State Fault Refusal :=
  .next (if s.reloading d .rldTable then (s.reloadTable d).settle else s)

/-- RELOAD_SECTION_DONE: the next section of the domain has been read, written and checked (12 R276 to R278). -/
def execReloadSectionDone (d : Fin 4) (s : State) : Host.Outcome State Fault Refusal :=
  .next (if s.reloading d .rldSection then
    let c := s.img.copy
    let l := secsOf (s.tableAt c)
    let i := s.img.idx
    match l[i]? with
    | none => s.modImg fun x => { x with phase := .rldEnd }
    | some x =>
      let r := s.readSec l x (s.copyRd c x.off x.len) true
      if r.code ≠ 0 then (r.st.reloadFail d r.code i).settle
      else (r.st.reloadNext (reloadSecs l d) (i + 1)).settle
  else s)

/-- The end of a reload: ACT, the comparison of R152, the engines with START, T, DSRC, event 0x0204; then PRECHARGE, or OFF after
a mismatch or outside PRECHARGE and the running modes (12 R277, R282; 11 R253). -/
def State.reloadDone (s : State) (d : Nat) : State :=
  let c := s.img.copy
  let l := secsOf (s.tableAt c)
  let s1 := if s.img.actNext < 0x1000 then s else s.setAct d (s.img.actNext - 0x1000)
  let s2 := (s1.safeCompare d).startEngines l fun o => o == d
  let s3 := (s2.setI R.IMG_STAT.DSRC d (c == 1)).reloadOver d
  let s4 := s3.raise 0x0204 0 (le 1 d ++ le 1 c ++ le 4 (s3.get R.IMG_RTIME.V))
  s4.enterDst d (if s4.bit (R.PWM_STAT.SAFEMIS d) ∨ !s4.inRunning then .off else .precharge)

/-- RELOAD_END (12 R277). -/
def execReloadEnd (d : Fin 4) (s : State) : Host.Outcome State Fault Refusal :=
  .next (if s.reloading d .rldEnd then (s.reloadDone d).settle else s)

end Sys2Proof.Machine
end

