-- ==== Sys2Proof/Machine/Thermal.lean ====
section
/-! DEFINITION. The commands of the thermal block (14_thermal.md R309 to R322; 02_time_base_and_clocks.md R38).
Inputs 0 to 8 are the die sensors, 9 to 12 the NTCs. -/

namespace Sys2Proof.Machine

def State.modThm (s : State) (f : Thm → Thm) : State := { s with thm := f s.thm }

/-- The converter code of an input (14 R309; 07_feedback_converter.md R157). -/
def thmCode (i : Nat) : Nat := if i < 9 then 0x50 + i else 0x44 + (i - 9)

/-- The neighbours of a die sensor (14 R309). -/
def neighbours : Nat → List Nat
  | 0 => [1, 4] | 1 => [0, 2, 4] | 2 => [1, 3, 5] | 3 => [2, 5] | 4 => [0, 1, 5] | 5 => [2, 3, 4]
  | 6 => [7, 8] | 7 => [6, 8] | 8 => [6, 7] | _ => []

/-- The temperature of a die code, in 1/64 °C; the division truncates toward zero, as in C (14 R311; 00_scope.md R14). -/
def State.dieTemp (s : State) (i : Nat) (x : Int) : Int :=
  let xs := match s.adc.bg with
    | some bg => if 0 < bg then sat32 (Int.tdiv (x * s.fuse.bgref + bg / 2) bg) else x
    | none => x
  sat16 (xs - tblGet (fun _ => -6400) s.fuse.tofs i)

/-- The sample of an input at this evaluation: written since the last one, with neither OVR nor SETTLE (14 R310). -/
def State.thmSample (s : State) (i : Nat) : Option Int :=
  let k := thmCode i - 0x40
  if tblGet (fun _ => false) s.adc.hkNew k && !s.bit (R.ADC_HK.OVR k) && !s.bit (R.ADC_HK.SETTLE k) then
    if i < 9 then some (s.dieTemp i (tblGet (fun _ => 0) s.adc.hkX k)) else some (s.getS (R.ADC_HK.VALUE k))
  else none

/-- The valid range of a sample (14 R314). -/
def thmValid (i : Nat) (q : Int) : Bool :=
  if i < 9 then decide (-3520 ≤ q) && decide (q ≤ 11200) else decide (-32000 ≤ q) && decide (q ≤ 32000)

/-- An input is broken (14 R314). -/
def State.thmBroken (s : State) (i : Nat) : Bool :=
  if i < 9 then s.bitI R.THM_STAT.BRK i else s.bitI R.THM_STAT.NBRK (i - 9)

def State.filt (s : State) (i k : Nat) : Filt := tblGet (fun _ => {}) s.thm.filt (4 * i + k)
def State.setFilt (s : State) (i k : Nat) (f : Filt) : State :=
  s.modThm fun t => { t with filt := tblSet (fun _ => {}) t.filt (4 * i + k) f }

/-- The sample has reached a level: the release value counts while the state is asserted (14 R312, R313). -/
def State.reached (s : State) (i k : Nat) (on : Bool) (q : Int) : Bool :=
  if i < 9 then
    let lv : Int := if k = 0 then 8320 else if k = 1 then 8960 else 9600
    decide ((if on then lv - 320 else lv) ≤ q)
  else
    let d := i - 9
    let lv := if k = 0 then s.getS (R.THM_NTCA.TWARN d) else s.getS (R.THM_NTCA.TTHR d)
    let h : Int := 16 * s.get (R.THM_NTCB.NHYS d)
    if s.bit (R.THM_NTCB.POL d) then decide (q ≤ if on then lv + h else lv) else decide ((if on then lv - h else lv) ≤ q)

/-- One bit into a filter of fifteen; none repeats the last bit (14 R313). -/
def filtStep (f : Filt) (b : Option Bool) : Filt :=
  let x := match b with
    | some v => b2n v
    | none => f.bits % 2
  let bits := (f.bits * 2 + x) % 32768
  { bits := bits, on := decide (8 ≤ popN 15 bits) }

/-- A level filter of an input takes this evaluation (14 R313). -/
def State.levelStep (s : State) (i k : Nat) (q : Option Int) : State :=
  let f := s.filt i k
  s.setFilt i k (filtStep f (q.map fun v => s.reached i k f.on v))

/-- The evaluations without a valid sample, and whether the input becomes broken at the fourth (14 R314). -/
def State.noSampleStep (s : State) (i : Nat) (q : Option Int) : State :=
  let bad := match q with
    | some v => !thmValid i v
    | none => true
  let n := if bad then satN 255 (tblGet (fun _ => 0) s.thm.noS i + 1) else 0
  let s1 := s.modThm fun t =>
    { t with noS := tblSet (fun _ => 0) t.noS i n
             last := match q with
               | some v => tblPut t.last i v
               | none => t.last }
  if 4 ≤ n then (if i < 9 then s1.setI R.THM_STAT.BRK i true else s1.setI R.THM_STAT.NBRK (i - 9) true) else s1

/-- The rise bit of a die sensor: this sample and the one sixteen evaluations before differ by more than 16 RORL (14 R319). -/
def State.riseStep (s : State) (i : Nat) (q : Option Int) : State :=
  let h := tblGet (fun _ => []) s.thm.hist i
  let b := match q, (h[15]?).join with
    | some v, some w => some (decide ((16 * s.get R.THM_CFG.RORL : Nat) < (v - w).natAbs))
    | _, _ => none
  let s1 := s.modThm fun t => { t with hist := tblPut t.hist i ((q :: h).take 16) }
  if s.riseRegime && !s.thmBroken i then s1.setFilt i 3 (filtStep (s.filt i 3) b) else s1.setFilt i 3 {}

/-- One input takes this evaluation. -/
def State.inputStep (s : State) (i : Nat) : State :=
  let q := s.thmSample i
  let s1 := ((s.levelStep i 0 q).levelStep i 1 q).noSampleStep i q
  if i < 9 then (s1.levelStep i 2 q).riseStep i q else s1

/-- The filtered state of a level, a broken input being too hot (14 R313, R314). -/
def State.levelOn (s : State) (i k : Nat) : Bool :=
  if k = 3 then !s.thmBroken i && (s.filt i 3).on
  else if s.thmBroken i then
    if k = 2 then (neighbours i).all s.thmBroken else true
  else (s.filt i k).on

/-- The last sample of an input as a word. -/
def State.lastQ (s : State) (i : Nat) : Int := tblGet (fun _ => 0) s.thm.last i

/-- The hottest healthy die sensor that has had a sample; the lowest index of equals (14 R314, R321; log 18). -/
def State.hottest (s : State) : Option Nat :=
  (List.range 9).foldl (fun m i =>
    if s.thmBroken i || !(s.thm.last.any fun e => e.1 == i) then m
    else match m with
      | some k => if s.lastQ k < s.lastQ i then some i else some k
      | none => some i) none

/-- The status registers of the sensors (14 R321). -/
def State.thmStatus (s : State) : State :=
  let s1 := (List.range 9).foldl (fun t i =>
    ((((((t.setS (R.THM_TS.Q i) (t.lastQ i)).setB (R.THM_TS.WRN i) (t.levelOn i 0)).setB (R.THM_TS.THR i) (t.levelOn i 1)).setB
      (R.THM_TS.SD i) (t.levelOn i 2)).setB (R.THM_TS.RTRIP i) (t.levelOn i 3)).setB (R.THM_TS.BRK i) (t.thmBroken i))) s
  let s2 := (List.range 4).foldl (fun t d => (t.setI R.THM_STAT.NWARN d (t.levelOn (9 + d) 0)).setI R.THM_STAT.NTHR d (t.levelOn (9 + d) 1)) s1
  let s3 := ((s2.setB R.THM_STAT.WARN ((List.range 9).any fun i => s2.levelOn i 0)).setB R.THM_STAT.THRT
    ((List.range 9).any fun i => s2.levelOn i 1)).setB R.THM_STAT.SDN ((List.range 9).any fun i => s2.levelOn i 2 || s2.levelOn i 3)
  match s3.hottest with
  | some i => (s3.set R.THM_MAX.IDX i).setS R.THM_MAX.Q (s3.lastQ i)
  | none => (s3.set R.THM_MAX.IDX 15).set R.THM_MAX.Q 0

/-- The throttle step, and ENG_THR which follows it (14 R316). -/
def State.stepUpdate (s : State) (was : Bool) : State :=
  let on := s.bit R.THM_STAT.THRT
  let lim := min (s.get R.THM_CFG.THMAX) 10
  let per := 16 * max (s.get R.THM_CFG.THSTEP) 1
  let st := s.get R.THM_STAT.STEP
  let n := if on = was then s.thm.stepCnt + 1 else 0
  let hit := decide (per ≤ n)
  let st' := if on then (if (!was || hit) && decide (st < lim) then st + 1 else st) else (if hit then st - 1 else st)
  let s1 := (s.set R.THM_STAT.STEP st').modThm fun t => { t with stepCnt := if hit then 0 else n }
  (s1.set R.ENG_THR.P2DIV (min st' 3)).set R.ENG_THR.P1SKIP (st' - 3)

/-- The rail ceilings that follow the NTCs (14 R317). -/
def State.ceilings (s : State) : State :=
  (List.range 4).foldl (fun t d =>
    t.set (R.PRF_TCEIL.TCEIL d) (if t.bitI R.THM_STAT.NTHR d then t.get (R.THM_NTCB.TCEILT d) else 0xFFFF)) s

/-- The events of an evaluation, in ascending code (14 R322; 15_drip_and_flowstone.md R334). -/
def State.thmEvents (s old : State) : State :=
  let s1 := (List.range 13).foldl (fun t i => if s.levelOn i 0 && !old.levelOn i 0 then
    t.raise 0x0B21 1 (le 1 i ++ le 2 (bitsN 16 (s.lastQ i)) ++ le 1 (modeCode s.sys.mode)) else t) s
  let s2 := (List.range 13).foldl (fun t i => if s.levelOn i 1 && !old.levelOn i 1 then
    t.raise 0x0B22 1 (le 1 i ++ le 2 (bitsN 16 (s.lastQ i)) ++ le 1 (s.get R.THM_STAT.STEP)) else t) s1
  (List.range 13).foldl (fun t i => if s.thmBroken i && !old.thmBroken i then
    t.raise 0x0B24 2 (le 1 i ++ le 2 (bitsN 16 (s.lastQ i)) ++ le 1 (tblGet (fun _ => 0) s.thm.noS i)) else t) s2

/-- Any die sensor has a state asserted. -/
def State.anyDie (s : State) (k : Nat) : Bool := (List.range 9).any fun i => s.levelOn i k

/-- The cause of a shut-down for its record, and its input (14 R322). -/
def State.heatCause (s : State) : Nat × Nat :=
  match (List.range 9).find? fun i => s.levelOn i 2 && !s.thmBroken i with
  | some i => (0, i)
  | none =>
    match (List.range 9).find? fun i => s.levelOn i 2 with
    | some i => (2, i)
    | none => (1, ((List.range 9).find? fun i => s.levelOn i 3).getD 0)

/-- The window of R320 in ticks: 10 minutes (14 R320). -/
def sdWindow : Nat := 235929600000

/-- A shut-down is decided: the hold island goes to VHOLD, the counts, the record that waits, HOLD (14 R318, R320). -/
def State.shutDown (s : State) : State :=
  let times := s.now :: s.thm.sdTimes.filter fun t => decide (s.now < t + sdWindow)
  let tot := satN 255 (s.get R.THM_SD.TOT + 1)
  let s1 := (s.set R.THM_SD.WIN (satN 255 times.length)).set R.THM_SD.TOT tot
  let c := s.heatCause
  let h : Heat :=
    { at_ := s.now, cause := c.1, input := c.2, q := s.lastQ c.2, max := s.getS R.THM_MAX.Q, brk := s.get R.THM_STAT.BRK,
      win := satN 255 times.length, mode := modeCode s.sys.mode }
  let s2 := (s1.modThm fun t => { t with sdTimes := times, recov := true }).modFls fun f => { f with heat := f.heat ++ [h] }
  ((s2.modPwr fun p => { p with vholdSrc := true, charger := false }).modSys fun x => { x with sdHold := true })

/-- HOLD after a shut-down is left: to STANDBY at the third within the window, else the cause ends (14 R320; 11_modes.md R250). -/
def State.shutDownExit (s : State) : State :=
  let hot := (List.range 9).any fun i => if s.thmBroken i then s.levelOn i 2 else s.levelOn i 0
  if s.sys.mode = .hold ∧ s.sys.sdHold ∧ ¬ hot then
    if 3 ≤ s.get R.THM_SD.WIN then
      let s1 := s.raise 0x0B26 3 (le 1 (s.get R.THM_SD.WIN) ++ le 4 (s.thm.sdTimes.headD 0))
      s1.toStandby.modSys fun x => { x with wakeCycle := s.pwr.wakeBall }
    else s.modSys fun x => { x with sdHold := false }
  else s

/-- The results taken by an evaluation count as old at the next (14 R310). -/
def State.hkTaken (s : State) : State := { s with adc := { s.adc with hkNew := [] } }

/-- One evaluation (14 R310 to R320). -/
def State.evaluate (s : State) : State :=
  let s1 := (((List.range 13).foldl State.inputStep s).hkTaken).thmStatus
  let s2 := (s1.stepUpdate (s.bit R.THM_STAT.THRT)).ceilings.thmEvents s
  if (s2.anyDie 2 && !s.anyDie 2) || (s2.anyDie 3 && !s.anyDie 3) then s2.shutDown.settle
  else s2.shutDownExit.settle
/-- THERMAL_EVALUATION (14 R310). -/
def execThermalEvaluation (s : State) : Host.Outcome State Fault Refusal :=
  .next (if s.coreRuns && s.bit R.ADC_CALSTAT.INIT then s.evaluate else s)

/-- LAST_HEAT_RECORD: the oldest last-heat record is committed; after the last one the hold island returns to VAUX and the
charger closes (14 R318; 13_supply_events.md R300). -/
def execLastHeatRecord (s : State) : Host.Outcome State Fault Refusal :=
  .next (match s.fls.heat with
    | h :: t =>
      if s.pwr.inh then s
      else
        let s1 := (s.tallyWrite 16 (heatRec h)).modFls fun x => { x with heat := t }
        if t.isEmpty then s1.modPwr fun p => { p with vholdSrc := false, charger := p.vauxGood } else s1
    | [] => if s.pwr.vholdSrc && !s.pwr.pfd then s.modPwr fun p => { p with vholdSrc := false, charger := p.vauxGood } else s)

/-- The trim entry nearest to a temperature; between two equally near ones the choice is a free value (02 R38; log 8). -/
def trimNearest (q : Int) (tie : Bool) : Nat :=
  let x := q + 2560
  let k := (x + 160) / 320
  let k' := if (x + 160) % 320 = 0 ∧ tie then k - 1 else k
  (clampI 0 38 k').toNat

/-- The entry after an update with a result whose nearest entry is n: at the first update after a release n itself, later one step
towards it (02 R38). -/
def trimNext (fresh : Bool) (i n : Nat) : Nat := if fresh then n else if i < n then i + 1 else if n < i then i - 1 else i

/-- The trim entry follows TS7; a broken TS7 holds it, and TRIMHOLD shows whether it does (02 R38, R52; log 87). -/
def State.trimStep (s : State) : State :=
  let t := s.setB R.CLK_STAT.TRIMHOLD (s.thmBroken 7)
  if s.thmBroken 7 then t
  else match s.adc.ts7 with
    | none => t
    | some x =>
      let n := trimNearest (s.dieTemp 7 x) (Config.trimTie s.freeCtr % 2 = 0)
      { t with tb := { s.tb with trimIdx := trimNext s.tb.trimFresh s.tb.trimIdx n, trimFresh := false }, freeCtr := s.freeCtr + 1 }

/-- TRIM_UPDATE (02 R38). -/
def execTrimUpdate (s : State) : Host.Outcome State Fault Refusal := .next (if s.coreRuns && s.tb.run then s.trimStep else s)

end Sys2Proof.Machine
end

