-- ==== Sys2Proof/Machine/Uds.lean ====
section
/-! DEFINITION. Diagnostic services of sessions, security, trouble codes and clearing
(16_service_and_vehicle_bus.md R353 to R357, R361 to R364). -/

namespace Sys2Proof.Machine

/-! ### Sessions and reset -/

/-- The positive response of DiagnosticSessionControl: P2 and P2* (16 R354). -/
def sessionData (code : Nat) : List Byte := [BitVec.ofNat 8 code, 0x00, 0x32, 0x01, 0xF4]

/-- DEFAULT_SESSION (16 R354). -/
def execDefaultSession (q : ReqKind) (s : State) : Host.Outcome State Fault Refusal :=
  .next (s.service q 0x10 2 sesAll false fun t =>
    ((t.toSession sesDefault 0).positiveSub q 0x10 (sessionData sesDefault)).settle)

/-- PROGRAMMING_SESSION: from the extended session alone (16 R354; log 14). -/
def execProgrammingSession (q : ReqKind) (s : State) : Host.Outcome State Fault Refusal :=
  .next (s.service q 0x10 2 sesAll false fun t =>
    if t.get R.DSU_STAT.SESS = sesExtended then
      ((t.toSession sesProgramming 0).positiveSub q 0x10 (sessionData sesProgramming)).settle
    else t.negative q 0x10 0x22)

/-- EXTENDED_SESSION (16 R354). -/
def execExtendedSession (q : ReqKind) (s : State) : Host.Outcome State Fault Refusal :=
  .next (s.service q 0x10 2 sesAll false fun t =>
    ((t.toSession sesExtended 0).positiveSub q 0x10 (sessionData sesExtended)).settle)

/-- S3_EXPIRE: the session returns to the default one (16 R354, R371). -/
def execS3Expire (s : State) : Host.Outcome State Fault Refusal :=
  .next (if s.coreRuns && s.sessionOpen then (s.toSession sesDefault 1).settle else s)

/-- TESTER_PRESENT: the open session goes on (16 R354, R355). -/
def execTesterPresent (q : ReqKind) (s : State) : Host.Outcome State Fault Refusal :=
  .next (s.service q 0x3E 2 sesAll false fun t => t.positiveSub q 0x3E [0x00])

/-- ECU_RESET: the positive response, then the reset (16 R355). -/
def execEcuReset (q : ReqKind) (s : State) : Host.Outcome State Fault Refusal :=
  .next (s.service q 0x11 2 sesAll false fun t =>
    (t.positiveSub q 0x11 [0x01]).modDsu fun x => { x with resetPend := true })

/-- ECU_RESET_DELAY: the device resets (16 R355; 11 R251). -/
def execEcuResetDelay (s : State) : Host.Outcome State Fault Refusal :=
  .next (if s.coreRuns && s.dsu.resetPend then s.coreReset R.SYS_RSTCAUSE.ECU else s)

/-- SERVICE_NOT_SUPPORTED (16 R355). -/
def execServiceNotSupported (q : ReqKind) (sid : BitVec 8) (s : State) : Host.Outcome State Fault Refusal :=
  .next (s.service q sid.toNat 1 sesAll false fun t => t.negative q sid.toNat 0x11)

/-- RESPONSE_PENDING: 0x78 while the final response of the service is still to come (16 R353). -/
def execResponsePending (sid : BitVec 8) (s : State) : Host.Outcome State Fault Refusal :=
  .next (match s.dsu.pend with
    | some p =>
      if p.sid = sid.toNat ∧ s.diagOn then
        (s.set R.DSU_STAT.LASTNRC 0x78).modDsu fun x =>
          { x with rsp := [0x7F, sid, 0x78], out := [s.frameOf p.kind.fd (sfBytes [0x7F, sid, 0x78])] }
      else s
    | none => s)

/-! ### Security -/

/-- The access key (16 R356). -/
def State.saKey (s : State) : BitVec 128 :=
  BitVec.ofNat 128 (leVal (cmac s.fuse.key ([0x53, 0x41, 0x2D, 0x4B] ++ List.replicate 12 0)).reverse)

/-- A new seed: SYS_ID, STARTS and TB_NOW, little-endian; zeros once security is unlocked (16 R356). -/
def State.newSeed (s : State) : List Byte :=
  if s.bit R.DSU_STAT.SEC then List.replicate 16 0
  else le 4 (s.busVal 80 R.SYS_ID.at).toNat ++ le 4 s.fls.cnt.starts ++ le 8 s.now

/-- REQUEST_SEED (16 R356, R357). -/
def execRequestSeed (q : ReqKind) (s : State) : Host.Outcome State Fault Refusal :=
  .next (s.service q 0x27 2 sesNonDef false fun t =>
    if t.bit R.DSU_STAT.LOCK then t.negative q 0x27 0x37
    else (t.modDsu fun x => { x with seed := some t.newSeed }).positive q 0x27 (0x01 :: t.newSeed))

/-- A correct key (16 R356, R371). -/
def State.keyRight (s : State) : State :=
  ((s.setB R.DSU_STAT.SEC true).modPwr fun p => { p with saCnt := 0, saLock := false }).raise 0x0BA1 0
    (le 1 s.pwr.saCnt ++ le 4 s.now)

/-- A wrong key; from the third on a lockout begins (16 R356, R357, R371). -/
def State.keyWrong (s : State) (q : ReqKind) : State :=
  let n := satN 7 (s.pwr.saCnt + 1)
  let s1 := (s.modPwr fun p => { p with saCnt := n }).raise 0x0BA2 1 (le 1 n ++ le 4 s.now)
  if 3 ≤ n then ((s1.setB R.DSU_STAT.LOCK true).raise 0x0BA3 1 (le 1 n ++ le 4 s.now)).negative q 0x27 0x36
  else s1.negative q 0x27 0x35

/-- SEND_KEY: the seed serves one key (16 R356, R357). -/
def execSendKey (q : ReqKind) (key : List Byte) (s : State) : Host.Outcome State Fault Refusal :=
  .next (s.service q 0x27 (2 + key.length) sesNonDef false fun t =>
    if t.bit R.DSU_STAT.LOCK then t.negative q 0x27 0x37
    else if key.length ≠ 16 then t.negative q 0x27 0x13
    else match t.dsu.seed with
      | none => t.negative q 0x27 0x24
      | some seed =>
        let t1 := t.modDsu fun x => { x with seed := none }
        if cmac t.saKey seed == key then t1.keyRight.positive q 0x27 [0x02] else t1.keyWrong q)

/-- LOCKOUT_END (16 R357). -/
def execLockoutEnd (s : State) : Host.Outcome State Fault Refusal :=
  .next (if s.coreRuns then (s.setB R.DSU_STAT.LOCK false).modPwr fun p => { p with saLock := false } else s)

/-! ### Trouble codes -/

/-- The window of DTC setting off leaves a record out (16 R363). -/
def State.dtcHidden (s : State) (q : BitVec 32) : Bool :=
  let off := BitVec.ofNat 32 (s.get R.DSU_DTCOFF.V)
  let on := BitVec.ofNat 32 (s.get R.DSU_DTCON.V)
  !seqLe q off && (s.bit R.DSU_STAT.DTCOFF || seqLe q on)

/-- FLS_SEQ_NEW as a reader finds it (15_drip_and_flowstone.md R338, R343). -/
def State.seqNew (s : State) : BitVec 32 := if s.bit R.FLS_STAT.READY then s.fls.lastSeq else 0

/-- A record belongs to the DTC list (16 R361). -/
def State.dtcCounts (s : State) (r : FRec) : Bool :=
  seqLe r.seq s.seqNew && !seqLe r.seq s.fls.cnt.clrSeq && decide (s.get R.DSU_CFG.DTCSEV ≤ r.sev.toNat) && !s.dtcHidden r.seq

/-- The records of a table of slots that pass a test on their slot. -/
def recsOf (t : Tbl Slot) (ok : Nat → Bool) : List FRec :=
  t.filterMap fun e => match e.2 with
    | .rcd r => if ok e.1 then some r else none
    | _ => none

/-- The listed records: of the main ring and the spill ring, and codes 0x0B07 and 0x0B23 of the tally rings (16 R361). -/
def State.dtcRecs (s : State) : List FRec :=
  ((recsOf s.fls.main fun i => !s.blockRetired i) ++ recsOf (spillOf s.fls.tal) (fun _ => true) ++
    (recsOf s.fls.tal fun i => decide (i < 32)).filter fun r => r.code == 0x0B07 || r.code == 0x0B23).filter s.dtcCounts

/-- A code into a rising list without repeats. -/
def codeInsert (c : BitVec 16) : List (BitVec 16) → List (BitVec 16)
  | [] => [c]
  | d :: t => if c = d then d :: t else if c < d then c :: d :: t else d :: codeInsert c t

/-- The status byte of a listed code (16 R361). -/
def State.dtcStatus (s : State) (l : List FRec) (c : BitVec 16) : Byte :=
  if l.any fun r => r.code == c && seqLe s.fls.startSeq r.seq then 0x09 else 0x08

/-- The listed codes whose status meets a mask, rising (16 R361, R362). -/
def State.dtcCodes (s : State) (mask : BitVec 8) : List (BitVec 16 × Byte) :=
  let l := s.dtcRecs
  ((l.foldl (fun a r => codeInsert r.code a) []).map fun c => (c, s.dtcStatus l c)).filter fun p => (p.2 &&& mask) != 0

/-- REPORT_NUMBER_OF_DTC (16 R362). -/
def execReportNumberOfDtc (q : ReqKind) (mask : BitVec 8) (s : State) : Host.Outcome State Fault Refusal :=
  .next (s.service q 0x19 3 sesAll false fun t => t.positive q 0x19 ([0x01, 0x09, 0x01] ++ be 2 (t.dtcCodes mask).length))

/-- The three bytes of a DTC (16 R361). -/
def dtcBytes (c : BitVec 16) : List Byte := 0xA1 :: be 2 c.toNat

/-- REPORT_DTC_BY_STATUS_MASK (16 R362). -/
def execReportDtcByStatusMask (q : ReqKind) (mask : BitVec 8) (s : State) : Host.Outcome State Fault Refusal :=
  .next (s.service q 0x19 3 sesAll false fun t =>
    t.positive q 0x19 ([0x02, 0x09] ++ (t.dtcCodes mask).flatMap fun p => dtcBytes p.1 ++ [p.2]))

/-- The newest of some records: by SEQ, then by time (16 R362). -/
def newestRec : List FRec → Option FRec
  | [] => none
  | r :: t => match newestRec t with
    | some x => if seqLe r.seq x.seq && (r.seq != x.seq || decide (r.ts ≤ x.ts)) then some x else some r
    | none => some r

/-- Record 0x01: the number of listed records and the sum of their SUPP (16 R362). -/
def extCount (l : List FRec) : List Byte :=
  0x01 :: be 2 (satN 0xFFFF l.length) ++ be 2 (satN 0xFFFF (l.foldl (fun n r => n + r.supp.toNat) 0))

/-- Record 0x02: the newest record (16 R362). -/
def extNewest (l : List FRec) : List Byte := 0x02 :: ((newestRec l).map recBytes).getD []

/-- ReportDTCExtDataRecord (16 R362). -/
def State.dtcExt (s : State) (q : ReqKind) (dtc : BitVec 24) (record : BitVec 8) : State :=
  let c := BitVec.ofNat 16 (dtc.toNat % 65536)
  let all := s.dtcRecs
  let l := all.filter fun r => r.code == c
  if dtc.toNat / 65536 ≠ 0xA1 ∨ l.isEmpty then s.negative q 0x19 0x31
  else
    let head := 0x06 :: be 3 dtc.toNat ++ [s.dtcStatus all c]
    if record = 0x01 then s.positive q 0x19 (head ++ extCount l)
    else if record = 0x02 then s.positive q 0x19 (head ++ extNewest l)
    else if record = 0xFF then s.positive q 0x19 (head ++ extCount l ++ extNewest l)
    else s.negative q 0x19 0x31

/-- REPORT_DTC_EXT_DATA_RECORD (16 R362). -/
def execReportDtcExtDataRecord (q : ReqKind) (dtc : BitVec 24) (record : BitVec 8) (s : State) :
    Host.Outcome State Fault Refusal :=
  .next (s.service q 0x19 6 sesAll false fun t => t.dtcExt q dtc record)

/-- DTC_SETTING_ON (16 R363). -/
def execDtcSettingOn (q : ReqKind) (s : State) : Host.Outcome State Fault Refusal :=
  .next (s.service q 0x85 2 sesExt false fun t => t.dtcOn.positiveSub q 0x85 [0x01])

/-- DTC_SETTING_OFF (16 R363). -/
def execDtcSettingOff (q : ReqKind) (s : State) : Host.Outcome State Fault Refusal :=
  .next (s.service q 0x85 2 sesExt false fun t => t.dtcOff.positiveSub q 0x85 [0x02])

/-! ### Clearing -/

/-- The DSU writes FLS_CTL.CLEAR: refused outside SERVICE and HOLD, else the response waits for the clearing (16 R364; 15 R344). -/
def State.dsuClear (s : State) (q : ReqKind) (sid : Nat) : Bool × State :=
  let s1 := s.clearRequest true
  if s1.bit R.FLS_STAT.CLRPEND && (s.sys.mode == .service || s.sys.mode == .hold) then
    (true, s1.modDsu fun x => { x with pend := some { sid := sid, kind := q } })
  else (false, s1.negative q sid 0x22)

/-- CLEAR_DIAGNOSTIC_INFORMATION (16 R364). -/
def execClearDiagnosticInformation (q : ReqKind) (group : BitVec 24) (s : State) : Host.Outcome State Fault Refusal :=
  .next (s.service q 0x14 4 sesExt true fun t =>
    if group ≠ 0xFFFFFF then t.negative q 0x14 0x31 else (t.dsuClear q 0x14).2)

end Sys2Proof.Machine
end

