-- ==== Sys2Proof/Machine/UdsData.lean ====
section
/-! DEFINITION. Diagnostic services of identifiers, memory and routines (16_service_and_vehicle_bus.md R358 to R360,
R364 to R366; 01_signal_to_speaker.md R24 to R27). -/

namespace Sys2Proof.Machine

/-! ### Memory as the tester sees it -/

/-- What accesses of the tester come to: the state, a negative response code (0 none), the bytes read. -/
structure DiagRes where
  st : State
  nrc : Nat
  data : List Byte

/-- The latch of TB_NOW that belongs to the tester (02 R37). -/
def testerLatch : Nat := 80

/-- An address of the local memories in the tester view (01 R24). -/
def inLocal (a : Nat) : Bool := decide (0x20000000 ≤ a) && decide (a < 0x20200000)

/-- A range touches the private view (01 R27). -/
def inPrivate (a n : Nat) : Bool := decide (a < 0x20000) && decide (0 < n)

/-- A word of the program memory of an engine that runs (09 R199). -/
def State.progRuns (s : State) (a : Nat) : Bool :=
  inLocal a && decide (a % 0x20000 < 0x10000) && s.engRun ((a - 0x20000000) / 0x20000)

/-- A refusal with a response code. -/
def State.refuse (s : State) (nrc : Nat) : DiagRes := { st := s, nrc := nrc, data := [] }

/-- One word read by the tester: a word of a memory with a double-bit error is refused (16 R360; 09 R199, R212; 01 R21, R25; log 69). -/
def State.testerRead (s : State) (a : Nat) : DiagRes :=
  if inGallery a || inLocal a then
    let r := s.memFind 23 a
    if r.2 then { st := r.1, nrc := 0, data := le 4 (s.rd32 a) } else r.1.refuse 0x10
  else if inRegs a then
    let v := s.busRead 23 testerLatch a
    { st := v.2.busGrant 23, nrc := 0, data := le 4 v.1.toNat }
  else s.refuse 0x31

/-- n words read by the tester, rising (16 R360). -/
def State.testerReads (s : State) (a : Nat) : Nat → DiagRes
  | 0 => s.refuse 0
  | n + 1 =>
    let r := s.testerRead a
    if r.nrc ≠ 0 then r
    else
      let t := r.st.testerReads (a + 4) n
      { t with data := r.data ++ t.data }

/-- One word written by the tester: into the program of an engine that runs, an error of the host's own making, a free word is
written (16 R360; 09 R199, R212; 01 R21, R25; log 4, log 69). -/
def State.testerWrite (s : State) (a : Nat) (w : Word) : DiagRes :=
  if inGallery a || inLocal a then
    let r := if s.progRuns a then s.bump.memWr32 23 a (s.freeWord a).toNat else s.memWr32 23 a w.toNat
    r.1.refuse (if r.2 then 0 else 0x10)
  else if inRegs a then ((s.busWrite 23 a w).busGrant 23).refuse 0
  else s.refuse 0x31

/-- Words written by the tester, rising, up to the first that is refused (16 R360). -/
def State.testerWrites (s : State) (a : Nat) : List Word → DiagRes
  | [] => s.refuse 0
  | w :: t =>
    let r := s.testerWrite a w
    if r.nrc ≠ 0 then r else r.st.testerWrites (a + 4) t

/-- The little-endian words of some bytes. -/
def wordsOf (l : List Byte) : List Word :=
  (List.range (l.length / 4)).map fun i => BitVec.ofNat 32 (leVal ((l.drop (4 * i)).take 4))

/-- Format, alignment and size as R360 allows them. -/
def memOk (fmt : BitVec 8) (addr size : Word) : Bool :=
  fmt == 0x44 && addr.toNat % 4 == 0 && size.toNat % 4 == 0 && decide (4 ≤ size.toNat) && decide (size.toNat ≤ 4088)

/-- A request whose work may be refused with a response code. -/
def State.serviceTry (s : State) (q : ReqKind) (sid n : Nat) (sessions : List Nat) (work : State → DiagRes) : State :=
  s.service q sid n sessions false fun t =>
    let r := work t
    (if r.nrc = 0 then r.st.positive q sid r.data else r.st.negative q sid r.nrc).settle

/-- READ_MEMORY_BY_ADDRESS (16 R360; 01 R27). -/
def execReadMemoryByAddress (q : ReqKind) (fmt : BitVec 8) (addr size : Word) (s : State) : Host.Outcome State Fault Refusal :=
  .next (s.serviceTry q 0x23 10 sesAll fun t =>
    if !memOk fmt addr size || inPrivate addr.toNat size.toNat then t.refuse 0x31
    else t.testerReads addr.toNat (size.toNat / 4))

/-- Event 0x0BA5: the tester writes memory or an identifier (16 R360, R371). -/
def State.testerWrote (s : State) (sid addr len : Nat) : State := s.raise 0x0BA5 0 (le 1 sid ++ le 4 addr ++ le 2 len)

/-- A write that is answered positively with some bytes (16 R360). -/
def State.testerWriteAll (s : State) (sid id addr : Nat) (data echo : List Byte) : DiagRes :=
  let r := s.testerWrites addr (wordsOf data)
  if r.nrc ≠ 0 then r else { r with st := r.st.testerWrote sid id data.length, data := echo }

/-- WRITE_MEMORY_BY_ADDRESS: the private view is refused before security (16 R355, R360; 01 R27). -/
def execWriteMemoryByAddress (q : ReqKind) (fmt : BitVec 8) (addr size : Word) (data : List Byte) (s : State) :
    Host.Outcome State Fault Refusal :=
  .next (s.serviceTry q 0x3D (10 + data.length) sesExt fun t =>
    if inPrivate addr.toNat size.toNat then t.refuse 0x31
    else if !t.bit R.DSU_STAT.SEC then t.refuse 0x33
    else if !memOk fmt addr size then t.refuse 0x31
    else if data.length ≠ size.toNat then t.refuse 0x13
    else t.testerWriteAll 0x3D addr.toNat addr.toNat data (le 1 fmt.toNat ++ be 4 addr.toNat ++ be 4 size.toNat))

/-! ### Identifiers -/

/-- The registers that a device identifier lists (16 R358). -/
def didRegs (did : Nat) : Option (List Nat) :=
  if did = 0xFD00 then some [R.SYS_ID.at, R.SYS_MODE.at, R.SYS_RSTCAUSE.at]
  else if did = 0xFD01 then some [R.IMG_STAT.at, R.IMG_GENA.at, R.IMG_GENB.at, R.IMG_ID.at]
  else if did = 0xFD02 then some [R.PWR_VBAT.at, R.PWR_STAT.at, R.PWR_LASTF.at, R.PWR_CRCNT.at]
  else if did = 0xFD03 then some [R.THM_MAX.at, R.THM_STAT.at, R.THM_SD.at]
  else if did = 0xFD04 then some [R.FLS_SEQ_OLD.at, R.FLS_SEQ_NEW.at, R.FLS_STAT.at, R.FLS_CNT.at]
  else if did = 0xFD05 then some [R.DSU_STAT.at, R.CAN_STAT.at]
  else if 0xFD10 ≤ did ∧ did < 0xFD20 then
    let c := did - 0xFD10
    some [R.LFC_LDR.at (c / 4) (c % 4), R.LFC_LDSTAT.at (c / 4)]
  else none

/-- Registers read in one sequence of the DSU (16 R358). -/
def State.readRegs (s : State) : List Nat → DiagRes
  | [] => s.refuse 0
  | a :: t =>
    let r := s.testerRead a
    let u := r.st.readRegs t
    { u with data := r.data ++ u.data }

/-- The last result of routine 0xFE00 on a channel; zeros before the first (16 R358, R366; log 14). -/
def State.zLast (s : State) (c : Nat) : List Byte :=
  let l := tblGet (fun _ => []) s.dsu.zres c
  if l.isEmpty then List.replicate 9 0 else l

/-- The entry of the image for an identifier (16 R359). -/
def State.didEntry (s : State) (did : Nat) : Option DidEntry := (didsOf s.img.ids).find? fun x => x.did == did

/-- What one identifier returns (16 R358, R359). -/
def State.readDid (s : State) (did : Nat) : DiagRes :=
  match didRegs did with
  | some l => s.readRegs l
  | none =>
    if 0xFD20 ≤ did ∧ did < 0xFD30 then { s.refuse 0 with data := s.zLast (did - 0xFD20) }
    else match s.didEntry did with
      | none => s.refuse 0x31
      | some x =>
        if x.kind = 0 then { s.refuse 0 with data := (s.img.ids.drop x.src).take x.len }
        else if inPrivate x.src x.len then s.refuse 0x31
        else s.testerReads x.src (x.len / 4)

/-- Identifiers one after another; one that is not listed refuses the request (16 R358; log 14). -/
def State.readDids (s : State) : List (BitVec 16) → DiagRes
  | [] => s.refuse 0
  | d :: t =>
    let r := s.readDid d.toNat
    if r.nrc ≠ 0 then r
    else
      let u := r.st.readDids t
      { u with data := be 2 d.toNat ++ r.data ++ u.data }

/-- READ_DATA_BY_IDENTIFIER: one to four identifiers (16 R355, R358, R359). -/
def execReadDataByIdentifier (q : ReqKind) (dids : List (BitVec 16)) (s : State) : Host.Outcome State Fault Refusal :=
  .next (s.serviceTry q 0x22 (1 + 2 * dids.length) sesAll fun t =>
    if dids.isEmpty ∨ 4 < dids.length then t.refuse 0x13 else t.readDids dids)

/-- WRITE_DATA_BY_IDENTIFIER (16 R355, R359, R360). -/
def execWriteDataByIdentifier (q : ReqKind) (did : BitVec 16) (data : List Byte) (s : State) : Host.Outcome State Fault Refusal :=
  .next (s.serviceTry q 0x2E (3 + data.length) sesExt fun t =>
    match t.didEntry did.toNat with
    | none => t.refuse (if t.bit R.DSU_STAT.SEC then 0x31 else 0x33)
    | some x =>
      if x.kind ≠ 0 ∧ inPrivate x.src x.len then t.refuse 0x31
      else if !t.bit R.DSU_STAT.SEC then t.refuse 0x33
      else if x.kind ≠ 2 then t.refuse 0x31
      else if data.length ≠ x.len then t.refuse 0x13
      else t.testerWriteAll 0x2E did.toNat x.src data (be 2 did.toNat))

/-! ### Routines -/

/-- A routine starts: event 0x0BA4 with the first eight option bytes (16 R365, R371). -/
def State.routineStarted (s : State) (rid : Nat) (opts : List Byte) : State :=
  (s.modDsu fun x => { x with started := tblSet (fun _ => false) x.started rid true }).raise 0x0BA4 0
    (le 1 (rid % 256) ++ opts.take 8)

/-- The conditions of 0xFE00 and 0xFE01 (16 R365). -/
def State.zReady (s : State) (c : Nat) : Bool :=
  s.sys.mode == .service && s.running (c / 4) (c % 4) && !s.degraded (c / 4) (c % 4) && !s.bit (R.LFC_ZCFG.BUSY (c / 4))

/-- LFC_ZCFG as the DSU writes it: START, CH and ZCNT (16 R365). -/
def zWord (c zcnt : Nat) : Word := BitVec.ofNat 32 (2 ^ 31 + (c % 4) * 2 ^ 20 + zcnt % 2 ^ 20)

/-- The writes of LFC_ZINC, LFC_ZAMP and LFC_ZCFG; the channel's routine is noted (16 R365; 04 R104). -/
def State.zRoutine (s : State) (kind c : Nat) (zinc zamp : Word) (zcnt : Nat) : State :=
  let d := c / 4
  let s1 := ((s.busWrite 23 (R.LFC_ZINC.at d) zinc).busWrite 23 (R.LFC_ZAMP.at d) zamp).busWrite 23 (R.LFC_ZCFG.at d) (zWord c zcnt)
  (s1.busGrant 23).modDsu fun x => { x with zrout := tblSet (fun _ => 0) x.zrout c kind }

/-- RoutineControl 0xFE00 and 0xFE01 (16 R365). -/
def State.zStartRoutine (s : State) (q : ReqKind) (rid kind c : Nat) (zinc zamp : Word) (zcnt : Nat) (opts : List Byte) : State :=
  if 15 < c ∨ zcnt = 0 then s.negative q 0x31 0x31
  else if !s.zReady c then s.negative q 0x31 0x22
  else ((s.zRoutine kind c zinc zamp zcnt).routineStarted rid opts).positiveSub q 0x31 (0x01 :: be 2 rid)

/-- IMPEDANCE_MEASURE_ROUTINE (16 R365). -/
def execImpedanceMeasureRoutine (q : ReqKind) (c : BitVec 8) (zinc zamp : Word) (zcnt : BitVec 24) (s : State) :
    Host.Outcome State Fault Refusal :=
  .next (s.service q 0x31 16 sesExt true fun t =>
    (t.zStartRoutine q 0xFE00 1 c.toNat zinc zamp zcnt.toNat
      (le 1 c.toNat ++ be 4 zinc.toNat ++ be 4 zamp.toNat ++ be 3 zcnt.toNat)).settle)

/-- TEST_TONE_ROUTINE: the duration in samples of the channel's rate (16 R365). -/
def execTestToneRoutine (q : ReqKind) (c : BitVec 8) (zinc zamp : Word) (ms : BitVec 16) (s : State) :
    Host.Outcome State Fault Refusal :=
  .next (s.service q 0x31 15 sesExt true fun t =>
    (t.zStartRoutine q 0xFE01 2 c.toNat zinc zamp (min (ms.toNat * (393216 / t.audioH (c.toNat / 4))) 0xFFFFF)
      (le 1 c.toNat ++ be 4 zinc.toNat ++ be 4 zamp.toNat ++ be 2 ms.toNat)).settle)

/-- RoutineControl 0xFE02: a write to IMG_RELOAD; 0x22 where RREJ sets (16 R365; 12 R284). -/
def State.reloadRoutine (s : State) (q : ReqKind) (opt : BitVec 8) : State :=
  let v := opt.toNat
  let w := BitVec.ofNat 32 (2 ^ 31 + v / 128 * 2 ^ 30 + v / 16 % 4 * 2 ^ 28 + v % 16)
  let was := s.bit R.IMG_STAT.RREJ
  let s1 := ((s.setB R.IMG_STAT.RREJ false).imgReload w).busGrant 23
  let rej := s1.bit R.IMG_STAT.RREJ
  let s2 := s1.setB R.IMG_STAT.RREJ (was || rej)
  if rej then s2.negative q 0x31 0x22 else (s2.routineStarted 0xFE02 [opt]).positiveSub q 0x31 [0x01, 0xFE, 0x02]

/-- DOMAIN_RELOAD_ROUTINE (16 R365). -/
def execDomainReloadRoutine (q : ReqKind) (option : BitVec 8) (s : State) : Host.Outcome State Fault Refusal :=
  .next (s.service q 0x31 5 sesNonDef true fun t => (t.reloadRoutine q option).settle)

/-- RECORDER_CLEAR_ROUTINE (16 R364, R365). -/
def execRecorderClearRoutine (q : ReqKind) (s : State) : Host.Outcome State Fault Refusal :=
  .next (s.service q 0x31 4 sesExt true fun t =>
    let r := t.dsuClear q 0x31
    if r.1 then r.2.routineStarted 0xFE03 [] else r.2)

/-- The status byte that LFC_ZCFG of a channel's cluster gives (16 R366). -/
def State.zStatus (s : State) (c : Nat) : Byte :=
  let d := c / 4
  if s.bit (R.LFC_ZCFG.BUSY d) then 0
  else if s.bit (R.LFC_ZCFG.DONE d) then (if s.bit (R.LFC_ZCFG.ERR d) then 2 else 1)
  else 0

/-- The results record of routine 0xFE00 on a channel: the result kept, or the status with zeros (16 R365, R366). -/
def State.zResult (s : State) (c : Nat) : List Byte :=
  let l := tblGet (fun _ => []) s.dsu.zres c
  if l.isEmpty then s.zStatus c :: List.replicate 8 0 else l

/-- The results record of a routine; none for a routine or a channel that does not exist (16 R365, R366). -/
def State.routineResults (s : State) (rid c : Nat) : Option (List Byte) :=
  if rid = 0xFE00 then (if c < 16 then some (s.zResult c) else none)
  else if rid = 0xFE01 then (if c < 16 then some [s.zStatus c] else none)
  else if rid = 0xFE02 then some (be 2 (s.get R.IMG_STAT.DREJ * 256 + s.get R.IMG_STAT.DSRC * 16 + s.get R.IMG_STAT.RLD))
  else if rid = 0xFE03 then some []
  else none

/-- RequestRoutineResults (16 R365, R366). -/
def State.requestResults (s : State) (q : ReqKind) (rid c : Nat) : State :=
  match s.routineResults rid c with
  | none => s.negative q 0x31 0x31
  | some l =>
    if tblGet (fun _ => false) s.dsu.started rid then s.positiveSub q 0x31 (0x03 :: be 2 rid ++ l) else s.negative q 0x31 0x24

/-- REQUEST_RESULTS: 0xFE02 also in the programming session (16 R355, R365, R366). -/
def execRequestResults (q : ReqKind) (rid : BitVec 16) (c : BitVec 8) (s : State) : Host.Outcome State Fault Refusal :=
  .next (s.service q 0x31 (if rid.toNat < 0xFE02 then 5 else 4) (if rid = 0xFE02 then sesNonDef else sesExt) true fun t =>
    t.requestResults q rid.toNat c.toNat)

/-- STOP_ROUTINE (16 R365). -/
def execStopRoutine (q : ReqKind) (rid : BitVec 16) (s : State) : Host.Outcome State Fault Refusal :=
  .next (s.service q 0x31 4 (if rid = 0xFE02 then sesNonDef else sesExt) true fun t => t.negative q 0x31 0x12)

end Sys2Proof.Machine
end

