-- ==== Sys2Proof/Machine/Weft.lean ====
section
/-! DEFINITION. The Weft link of an ensemble (02_time_base_and_clocks.md R43 to R51; 11_modes.md R256; 05_rail_tracking.md R113). -/

namespace Sys2Proof.Machine

/-- The delay of a slave's retransmission in ticks (02 R45). -/
def weftRep : Nat := 40

/-- The link is in use and past OFF (02 R47). -/
def State.ensOn (s : State) : Bool := s.coreRuns && s.bit R.ENS_CFG.EN && s.get R.ENS_STAT.STATE != 0

/-- The link is LOCKED. -/
def State.ensLocked (s : State) : Bool := s.get R.ENS_STAT.STATE == 2

/-- The local request of domain d in 2 mV units, rounded up, as it enters RAIL: 0 while not LOCKED or the planner is
stopped (05 R113; 02 R49). -/
def State.railSym (s : State) (d : Nat) : BitVec 16 :=
  if s.ensLocked ∧ (s.prf d).started then BitVec.ofNat 16 (min (((s.prf d).tLoc + 65535) / 65536) 0xFFFF) else 0

/-- The STATUS byte of this device (11 R256). -/
def State.statusByte (s : State) : BitVec 8 :=
  if s.ensLocked then
    BitVec.ofNat 8 (128 * b2n s.protEns + 64 * b2n (s.bit R.SYS_REQ.EMUTE || s.sys.nmuteLow) +
      (List.range 4).foldl (fun m d => if (s.faultReq d).1 then setBit m d true else m) 0)
  else 0

/-- The body of a frame with the RAIL and STATUS fields of this device in place (02 R45). -/
def State.ownBody (s : State) (body : List Byte) : List Byte :=
  let pos := s.ensPos
  let own := (List.range 4).flatMap fun d => le 2 (s.railSym d).toNat
  (List.range 61).map fun i =>
    if 15 + 8 * pos ≤ i ∧ i < 23 + 8 * pos then own.getD (i - (15 + 8 * pos)) 0
    else if i = 47 + pos then s.statusByte
    else body.getD i 0

/-- What this device sends on of a frame that arrives: its own fields, the CRC formed anew, and complemented after a wrong
one (02 R45). -/
def State.relayed (s : State) (f : WeftFrame) : WeftFrame := weftFrameOf (s.ownBody (f.bytes 1 61)) f.crcOk

/-- The frame the master sends now: RAIL and STATUS of the slaves from the latest good frame that returned (02 R44 to R46). -/
def State.masterFrame (s : State) : WeftFrame :=
  let old := fun (i n : Nat) => match s.ens.frames with
    | f :: _ => f.bytes i n
    | [] => List.replicate n 0
  weftFrameOf (s.ownBody (le 1 (0x40 + 16 * s.get R.ENS_CFG.NDEV) ++ le 8 s.now ++
    le 2 (s.ens.hop.getD 0 % 0x8000 + 0x8000 * b2n s.ens.hop.isSome) ++ le 2 (s.get R.ENS_CFG.CFGCHK) ++ [s.ens.seq, 0] ++
    old 16 32 ++ old 48 4 ++ List.replicate 10 0)) true

/-- WEFT_SOF_SEND: the master starts a frame (02 R44). -/
def execWeftSofSend (s : State) : Host.Outcome State Fault Refusal :=
  .next (if s.ensOn && s.ensPos == 0 then
    { s with ens := { s.ens with sent := some s.masterFrame, seq := s.ens.seq + 1 } }
  else s)

/-- The link fails: no field of another device acts any more (02 R47; 11 R256). -/
def State.ensFail (s : State) (why : Fld) : State :=
  let s1 := (s.set R.ENS_STAT.STATE 3).setB why true
  ({ s1 with ens := { s1.ens with mute := false, good := 0, errs := [], rtts := [] } }.modMon fun m =>
    { m with ensSrc := false }).settle

/-- A frame did not arrive, or arrived with a wrong CRC; the third in a row fails a locked link (02 R47). -/
def State.ensMissing (s : State) : State :=
  let n := min (s.ens.miss + 1) 3
  let s1 := { s with ens := { s.ens with miss := n, good := 0 } }
  if s.ensLocked ∧ n = 3 then s1.ensFail R.ENS_STAT.LOST else s1

/-- The other devices whose STATUS byte has a bit set (11 R256). -/
def State.statusHas (s : State) (f : WeftFrame) (b : Nat) : List Nat :=
  (List.range (s.get R.ENS_CFG.NDEV + 1)).filter fun n => n != s.ensPos && (f.status.getD n 0).getLsbD b

/-- A good frame is kept, in every state of the link (02 R45; 05 R114). -/
def State.ensKeep (s : State) (f : WeftFrame) : State :=
  { s with ens := { s.ens with miss := 0, frames := (f :: s.ens.frames).take 4 } }

/-- The STATUS bytes of the other devices act in a locked link (11 R256). -/
def State.ensTake (s : State) (f : WeftFrame) : State :=
  let flt := s.statusHas f 7
  let s1 := { s with ens := { s.ens with mute := !(s.statusHas f 6).isEmpty } }
  (s1.modMon fun m =>
    match flt with
    | [] => { m with ensSrc := false }
    | n :: _ => { m with ensSrc := true, ensDev := n, ensMask := (f.status.getD n 0).toNat % 16 }).settle

/-- The value that slave n loads from a frame (02 R48). -/
def weftLoad (n : Nat) (f : WeftFrame) : Nat :=
  (f.mtb.toNat + (2 * (n * f.hop.toNat + (n - 1) * weftRep * 16) + 16) / 32) % 2 ^ 64

/-- The error of a slave in 1/16 tick: TB_NOW where the SOF arrives, with the fraction of a tick, against the formula of
R48 (02 R48; log 66). -/
def State.weftErr (s : State) (f : WeftFrame) (frac : Nat) : Int :=
  (16 * s.now + frac : Nat) - (16 * weftLoad s.ensPos f : Nat)

/-- The ring delay the master measures, in 1/16 tick: from its SOF, whose tick MTB holds, to the return (02 R46). -/
def State.weftRtt (s : State) (f : WeftFrame) (frac : Nat) : Nat := 16 * s.now + frac - 16 * f.mtb.toNat

/-- TB_NOW is loaded: instants kept as counts of TB_NOW move with it, so that what runs goes on for as long as before
(02 R36, R48; log 67). -/
def State.tbLoad (s : State) (v : Nat) : State :=
  let old := s.now
  let mv := fun (t : Nat) => t + v - old
  let s1 := s.modTb fun t => { t with now := v }
  { s1 with
    adc := { s1.adc with
      startSlot := if s1.adc.startSlot ≤ old / 4 + 4 then 0 else (v / 48 + 1) * 12
      swapAt := if s1.adc.swapAt ≤ old then 0 else (v / 48 + 1) * 48
      inj := s1.adc.inj.map fun q => { q with slot := q.slot.map fun k => (4 * k + v - old) / 4 }
      refAt := s1.adc.refAt.map fun t => if (old : Int) < t then (v / 48 + 1) * 48 else t + v - old }
    thm := { s1.thm with sdTimes := s1.thm.sdTimes.map mv, recEnd := if s1.thm.recEnd ≤ old then 0 else mv s1.thm.recEnd }
    balls := s1.balls.map fun e => (e.1, { e.2 with since := mv e.2.since })
    doms := s1.doms.map fun e => (e.1, { e.2 with winTick := none })
    pwr := { s1.pwr with crStart := mv s1.pwr.crStart, crExit := s1.pwr.crExit.map mv } }

/-- One more error of a slave; after 16 the average shows in ERR, and one beyond a tick fails a locked link (02 R48, R50). -/
def State.ensErr (s : State) (e : Int) : State :=
  let l := s.ens.errs ++ [e]
  if l.length < 16 then { s with ens := { s.ens with errs := l } }
  else
    let sum := l.foldl (· + ·) 0
    let s1 := { s with ens := { s.ens with errs := [] } }
    let s2 := s1.setS R.ENS_STAT.ERR (clampI (-128) 127 (divHU sum 16))
    if s.ensLocked ∧ 256 < sum.natAbs then s2.ensFail R.ENS_STAT.DRIFT else s2

/-- A frame with a good CRC at a slave in ACQUIRE (02 R47 to R49). -/
def State.ensAcquiring (s : State) (f : WeftFrame) (err : Int) : State :=
  if f.cfgchk.toNat ≠ s.get R.ENS_CFG.CFGCHK then
    { s with ens := { s.ens with good := 0 } }.setB R.ENS_STAT.CFGMIS true
  else if !f.hopValid then { s with ens := { s.ens with good := 0 } }
  else if !s.ens.loaded then
    if s.allQuiet then
      let s1 := (s.tbLoad (weftLoad s.ensPos f)).setB R.ENS_STAT.NOLOAD false
      { s1 with ens := { s1.ens with loaded := true, good := 0, errs := [] } }
    else s.setB R.ENS_STAT.NOLOAD true
  else
    let n := if err.natAbs ≤ 16 then s.ens.good + 1 else 0
    let s1 := { s with ens := { s.ens with good := n } }.ensErr err
    if 8 ≤ n then (s1.set R.ENS_STAT.STATE 2).settle else s1

/-- ENS_HOPDLY shows the hop delay of a good frame that carries one (02 R44, R52). -/
def State.hopShown (s : State) (f : WeftFrame) : State := if f.hopValid then s.set R.ENS_HOPDLY.H f.hop.toNat else s

/-- A frame arrives at a slave: it goes on with its own fields, and acts by the state of the link (02 R45, R47 to R50). -/
def State.weftArrive (s : State) (f : WeftFrame) (frac : Nat) : State :=
  let g := s.relayed f
  let err := s.weftErr f frac
  let s1 := { s with ens := { s.ens with sent := some g } }
  if !f.crcOk then (s1.incSat R.ENS_STAT.CRCERR).ensMissing
  else
    let s2 := (s1.ensKeep g).hopShown f
    let st := s.get R.ENS_STAT.STATE
    if st = 1 then s2.ensAcquiring f err
    else if st = 2 then
      let s3 := s2.ensErr err
      if s3.ensLocked then s3.ensTake g else s3
    else s2

/-- WEFT_FRAME_ARRIVE (02 R45). -/
def execWeftFrameArrive (f : WeftFrame) (frac : Fin 16) (s : State) : Host.Outcome State Fault Refusal :=
  .next (if s.ensOn && s.ensPos != 0 then s.weftArrive f frac.val else s)

/-- One more ring delay of the master; after 16 the hop delay is published and the link locks, or is compared with the
published one (02 R46, R47). -/
def State.ensRtt (s : State) (rtt : Nat) : State :=
  let l := s.ens.rtts ++ [rtt]
  if l.length < 16 then { s with ens := { s.ens with rtts := l } }
  else
    let n := s.get R.ENS_CFG.NDEV + 1
    let x : Int := (l.foldl (· + ·) 0 : Nat) - (16 * (n - 1) * weftRep * 16 : Nat)
    let s1 := { s with ens := { s.ens with rtts := [] } }
    match s.ens.hop with
    | none =>
      let h := (divHU x (16 * n)).toNat
      ({ s1 with ens := { s1.ens with hop := some h } }.set R.ENS_HOPDLY.H h).set R.ENS_STAT.STATE 2
    | some h =>
      if 256 * n < (x - (16 * n * h : Nat)).natAbs then s1.ensFail R.ENS_STAT.DRIFT else s1

/-- A frame returns to the master (02 R45 to R47). -/
def State.weftReturn (s : State) (f : WeftFrame) (frac : Nat) : State :=
  if !f.crcOk then (s.incSat R.ENS_STAT.CRCERR).ensMissing
  else
    let s1 := s.ensKeep f
    if s.get R.ENS_STAT.STATE = 3 then s1
    else
      let s2 := s1.ensRtt (s.weftRtt f frac)
      if s2.ensLocked then s2.ensTake f else s2

/-- WEFT_FRAME_RETURN (02 R46). -/
def execWeftFrameReturn (f : WeftFrame) (frac : Fin 16) (s : State) : Host.Outcome State Fault Refusal :=
  .next (if s.ensOn && s.ensPos == 0 then s.weftReturn f frac.val else s)

/-- WEFT_FRAME_MISSING (02 R47). -/
def execWeftFrameMissing (s : State) : Host.Outcome State Fault Refusal :=
  .next (if s.ensOn then s.ensMissing else s)

end Sys2Proof.Machine
end

