-- ==== Sys2Proof/Machine/Dispatch.lean ====
section
/-! DEFINITION. One arm per command: a direct call of its meaning. -/

namespace Sys2Proof.Machine

def exec (i : Instr) (s : State) : Host.Outcome State Fault Refusal :=
  match i with
  | .vbatPowerOn => Sys2Proof.Machine.execVbatPowerOn s
  | .vbatPowerLoss => Sys2Proof.Machine.execVbatPowerLoss s
  | .wakeRequest src => Sys2Proof.Machine.execWakeRequest src s
  | .wakeRequestEnd => Sys2Proof.Machine.execWakeRequestEnd s
  | .coreResetRelease => Sys2Proof.Machine.execCoreResetRelease s
  | .pllALock => Sys2Proof.Machine.execPllALock s
  | .pllBCLock which => Sys2Proof.Machine.execPllBCLock which s
  | .resistorCheckDone up down => Sys2Proof.Machine.execResistorCheckDone up down s
  | .wakeTimeout => Sys2Proof.Machine.execWakeTimeout s
  | .referenceClockFault => Sys2Proof.Machine.execReferenceClockFault s
  | .pllCLockLoss => Sys2Proof.Machine.execPllCLockLoss s
  | .pllCRetry locked => Sys2Proof.Machine.execPllCRetry locked s
  | .trimUpdate => Sys2Proof.Machine.execTrimUpdate s
  | .nresetAssert => Sys2Proof.Machine.execNresetAssert s
  | .nresetRelease => Sys2Proof.Machine.execNresetRelease s
  | .vauxGood => Sys2Proof.Machine.execVauxGood s
  | .writeInhibit vhold => Sys2Proof.Machine.execWriteInhibit vhold s
  | .powerFailDetect vhold fit => Sys2Proof.Machine.execPowerFailDetect vhold fit s
  | .supplyFault mask vhold => Sys2Proof.Machine.execSupplyFault mask vhold s
  | .railRecovery rail => Sys2Proof.Machine.execRailRecovery rail s
  | .sleepDelayExpire => Sys2Proof.Machine.execSleepDelayExpire s
  | .sleep => Sys2Proof.Machine.execSleep s
  | .keep on => Sys2Proof.Machine.execKeep on s
  | .holdTestStart => Sys2Proof.Machine.execHoldTestStart s
  | .holdTestEnd code => Sys2Proof.Machine.execHoldTestEnd code s
  | .holdTestTimeout => Sys2Proof.Machine.execHoldTestTimeout s
  | .derateExit => Sys2Proof.Machine.execDerateExit s
  | .ensembleWaitTimeout => Sys2Proof.Machine.execEnsembleWaitTimeout s
  | .driverEnable d => Sys2Proof.Machine.execDriverEnable d s
  | .driverWake d => Sys2Proof.Machine.execDriverWake d s
  | .prechargeTimeout d => Sys2Proof.Machine.execPrechargeTimeout d s
  | .muteRampEnd d => Sys2Proof.Machine.execMuteRampEnd d s
  | .nmuteChange low => Sys2Proof.Machine.execNmuteChange low s
  | .faultedDwellEnd d => Sys2Proof.Machine.execFaultedDwellEnd d s
  | .repairCountClear d => Sys2Proof.Machine.execRepairCountClear d s
  | .offRelease d => Sys2Proof.Machine.execOffRelease d s
  | .sysReqHold on => Sys2Proof.Machine.execSysReqHold on s
  | .sysReqFixed on => Sys2Proof.Machine.execSysReqFixed on s
  | .sysReqDerate on => Sys2Proof.Machine.execSysReqDerate on s
  | .sysReqEmute on => Sys2Proof.Machine.execSysReqEmute on s
  | .sysReqMute mask => Sys2Proof.Machine.execSysReqMute mask s
  | .sysReqFlt flt repair => Sys2Proof.Machine.execSysReqFlt flt repair s
  | .reloadStart d => Sys2Proof.Machine.execReloadStart d s
  | .reloadSectionDone d => Sys2Proof.Machine.execReloadSectionDone d s
  | .reloadEnd d => Sys2Proof.Machine.execReloadEnd d s
  | .imgReloadRequest word => Sys2Proof.Machine.execImgReloadRequest word s
  | .flashDiscovery p => Sys2Proof.Machine.execFlashDiscovery p s
  | .headerReadDone => Sys2Proof.Machine.execHeaderReadDone s
  | .tableReadDone => Sys2Proof.Machine.execTableReadDone s
  | .sectionReadDone => Sys2Proof.Machine.execSectionReadDone s
  | .copyClearDone => Sys2Proof.Machine.execCopyClearDone s
  | .loadComplete => Sys2Proof.Machine.execLoadComplete s
  | .autoSelftestStep obs => Sys2Proof.Machine.execAutoSelftestStep obs s
  | .autoSelftestDone => Sys2Proof.Machine.execAutoSelftestDone s
  | .monTestWrite word => Sys2Proof.Machine.execMonTestWrite word s
  | .testModeEffect => Sys2Proof.Machine.execTestModeEffect s
  | .filteredLevelChange m levels sampled => Sys2Proof.Machine.execFilteredLevelChange m levels sampled s
  | .nfltLevelChange n0 samples => Sys2Proof.Machine.execNfltLevelChange n0 samples s
  | .latchClear reg word => Sys2Proof.Machine.execLatchClear reg word s
  | .assertAfterDeadtime d g => Sys2Proof.Machine.execAssertAfterDeadtime d g s
  | .slotOwnerFix => Sys2Proof.Machine.execSlotOwnerFix s
  | .conversionResult slot decisions overload => Sys2Proof.Machine.execConversionResult slot decisions overload s
  | .startCalibrationDone cal => Sys2Proof.Machine.execStartCalibrationDone cal s
  | .swapRequest => Sys2Proof.Machine.execSwapRequest s
  | .now => Sys2Proof.Machine.execNow s
  | .swapTakesEffect => Sys2Proof.Machine.execSwapTakesEffect s
  | .sliceCalibrationDone cal => Sys2Proof.Machine.execSliceCalibrationDone cal s
  | .scanCycleStart => Sys2Proof.Machine.execScanCycleStart s
  | .adcInj code => Sys2Proof.Machine.execAdcInj code s
  | .adcQdataRead latch => Sys2Proof.Machine.execAdcQdataRead latch s
  | .referenceSelect src => Sys2Proof.Machine.execReferenceSelect src s
  | .referenceSettled => Sys2Proof.Machine.execReferenceSettled s
  | .adcCorrsCommit code word => Sys2Proof.Machine.execAdcCorrsCommit code word s
  | .sampleInstant d j => Sys2Proof.Machine.execSampleInstant d j s
  | .loopUpdate d j => Sys2Proof.Machine.execLoopUpdate d j s
  | .missDecision d j => Sys2Proof.Machine.execMissDecision d j s
  | .backgroundJob d => Sys2Proof.Machine.execBackgroundJob d s
  | .backgroundJobDone d => Sys2Proof.Machine.execBackgroundJobDone d s
  | .feedInstant d => Sys2Proof.Machine.execFeedInstant d s
  | .lfcRefWrite d k word => Sys2Proof.Machine.execLfcRefWrite d k word s
  | .singleSwap d mask => Sys2Proof.Machine.execSingleSwap d mask s
  | .groupSwap d mask => Sys2Proof.Machine.execGroupSwap d mask s
  | .lfcCmWrite d word => Sys2Proof.Machine.execLfcCmWrite d word s
  | .lfcCsWrite d word => Sys2Proof.Machine.execLfcCsWrite d word s
  | .lfcCsRead d => Sys2Proof.Machine.execLfcCsRead d s
  | .lfcScrub d j space entry found => Sys2Proof.Machine.execLfcScrub d j space entry found s
  | .impedanceStart d word => Sys2Proof.Machine.execImpedanceStart d word s
  | .ldenWrite d word => Sys2Proof.Machine.execLdenWrite d word s
  | .profileUpdate d => Sys2Proof.Machine.execProfileUpdate d s
  | .prfTgtWrite d word => Sys2Proof.Machine.execPrfTgtWrite d word s
  | .prfLimitWrite d which word => Sys2Proof.Machine.execPrfLimitWrite d which word s
  | .phaseEvaluation d => Sys2Proof.Machine.execPhaseEvaluation d s
  | .edgeUpdate c => Sys2Proof.Machine.execEdgeUpdate c s
  | .missedEdgeArm d j => Sys2Proof.Machine.execMissedEdgeArm d j s
  | .gateEdge d g => Sys2Proof.Machine.execGateEdge d g s
  | .halfCycleStart d p => Sys2Proof.Machine.execHalfCycleStart d p s
  | .tbNowLoRead master => Sys2Proof.Machine.execTbNowLoRead master s
  | .weftSofSend => Sys2Proof.Machine.execWeftSofSend s
  | .weftFrameArrive f err16 => Sys2Proof.Machine.execWeftFrameArrive f err16 s
  | .weftFrameReturn f rtt16 => Sys2Proof.Machine.execWeftFrameReturn f rtt16 s
  | .weftFrameMissing => Sys2Proof.Machine.execWeftFrameMissing s
  | .ethernetFrameRejected why => Sys2Proof.Machine.execEthernetFrameRejected why s
  | .gptpSync hdr tbAt time rate => Sys2Proof.Machine.execGptpSync hdr tbAt time rate s
  | .gptpAnnounce a => Sys2Proof.Machine.execGptpAnnounce a s
  | .pdelayReqSend => Sys2Proof.Machine.execPdelayReqSend s
  | .pdelayReqReceived => Sys2Proof.Machine.execPdelayReqReceived s
  | .pdelayRespReceived eth found => Sys2Proof.Machine.execPdelayRespReceived eth found s
  | .syncTimeout => Sys2Proof.Machine.execSyncTimeout s
  | .holdoverEnd => Sys2Proof.Machine.execHoldoverEnd s
  | .avtpPacket p => Sys2Proof.Machine.execAvtpPacket p s
  | .frameRelease n => Sys2Proof.Machine.execFrameRelease n s
  | .zeroFill n => Sys2Proof.Machine.execZeroFill n s
  | .streamLoss n => Sys2Proof.Machine.execStreamLoss n s
  | .streamEnable n word => Sys2Proof.Machine.execStreamEnable n word s
  | .tdmFrame port line0 line1 clock => Sys2Proof.Machine.execTdmFrame port line0 line1 clock s
  | .tdmLoss port => Sys2Proof.Machine.execTdmLoss port s
  | .tdmbMasterFrame => Sys2Proof.Machine.execTdmbMasterFrame s
  | .controlFrameReceived a => Sys2Proof.Machine.execControlFrameReceived a s
  | .controlFrameTimeout n0 => Sys2Proof.Machine.execControlFrameTimeout n0 s
  | .busOff tec recv => Sys2Proof.Machine.execBusOff tec recv s
  | .errorPassive tec recv => Sys2Proof.Machine.execErrorPassive tec recv s
  | .busOffRecovery => Sys2Proof.Machine.execBusOffRecovery s
  | .transportTimeout which => Sys2Proof.Machine.execTransportTimeout which s
  | .responsePending sid => Sys2Proof.Machine.execResponsePending sid s
  | .s3Expire => Sys2Proof.Machine.execS3Expire s
  | .defaultSession q => Sys2Proof.Machine.execDefaultSession q s
  | .programmingSession q => Sys2Proof.Machine.execProgrammingSession q s
  | .extendedSession q => Sys2Proof.Machine.execExtendedSession q s
  | .ecuReset q => Sys2Proof.Machine.execEcuReset q s
  | .ecuResetDelay => Sys2Proof.Machine.execEcuResetDelay s
  | .clearDiagnosticInformation q group => Sys2Proof.Machine.execClearDiagnosticInformation q group s
  | .reportNumberOfDtc q mask => Sys2Proof.Machine.execReportNumberOfDtc q mask s
  | .reportDtcByStatusMask q mask => Sys2Proof.Machine.execReportDtcByStatusMask q mask s
  | .reportDtcExtDataRecord q dtc record => Sys2Proof.Machine.execReportDtcExtDataRecord q dtc record s
  | .readDataByIdentifier q dids => Sys2Proof.Machine.execReadDataByIdentifier q dids s
  | .readMemoryByAddress q fmt addr size => Sys2Proof.Machine.execReadMemoryByAddress q fmt addr size s
  | .requestSeed q => Sys2Proof.Machine.execRequestSeed q s
  | .sendKey q key => Sys2Proof.Machine.execSendKey q key s
  | .lockoutEnd => Sys2Proof.Machine.execLockoutEnd s
  | .writeDataByIdentifier q did data => Sys2Proof.Machine.execWriteDataByIdentifier q did data s
  | .impedanceMeasureRoutine q c zinc zamp zcnt => Sys2Proof.Machine.execImpedanceMeasureRoutine q c zinc zamp zcnt s
  | .testToneRoutine q c zinc zamp ms => Sys2Proof.Machine.execTestToneRoutine q c zinc zamp ms s
  | .domainReloadRoutine q option => Sys2Proof.Machine.execDomainReloadRoutine q option s
  | .recorderClearRoutine q => Sys2Proof.Machine.execRecorderClearRoutine q s
  | .requestResults q rid c => Sys2Proof.Machine.execRequestResults q rid c s
  | .stopRoutine q rid => Sys2Proof.Machine.execStopRoutine q rid s
  | .requestDownload q dfi fmt addr size => Sys2Proof.Machine.execRequestDownload q dfi fmt addr size s
  | .transferData q counter data => Sys2Proof.Machine.execTransferData q counter data s
  | .requestTransferExit q => Sys2Proof.Machine.execRequestTransferExit q s
  | .writeMemoryByAddress q fmt addr size data => Sys2Proof.Machine.execWriteMemoryByAddress q fmt addr size data s
  | .testerPresent q => Sys2Proof.Machine.execTesterPresent q s
  | .dtcSettingOn q => Sys2Proof.Machine.execDtcSettingOn q s
  | .dtcSettingOff q => Sys2Proof.Machine.execDtcSettingOff q s
  | .drpKick word => Sys2Proof.Machine.execDrpKick word s
  | .dripExpire => Sys2Proof.Machine.execDripExpire s
  | .dripClockStop which => Sys2Proof.Machine.execDripClockStop which s
  | .holdDripCycle => Sys2Proof.Machine.execHoldDripCycle s
  | .tokenRefill code => Sys2Proof.Machine.execTokenRefill code s
  | .flowstoneCommit media => Sys2Proof.Machine.execFlowstoneCommit media s
  | .flowstoneScanDone => Sys2Proof.Machine.execFlowstoneScanDone s
  | .flsClear tester => Sys2Proof.Machine.execFlsClear tester s
  | .clearTakesEffect => Sys2Proof.Machine.execClearTakesEffect s
  | .flsCursorWrite word => Sys2Proof.Machine.execFlsCursorWrite word s
  | .flsCopyDone => Sys2Proof.Machine.execFlsCopyDone s
  | .flsData7Read => Sys2Proof.Machine.execFlsData7Read s
  | .thermalEvaluation => Sys2Proof.Machine.execThermalEvaluation s
  | .lastHeatRecord => Sys2Proof.Machine.execLastHeatRecord s
  | .engRunSet e => Sys2Proof.Machine.execEngRunSet e s
  | .engRunClear e => Sys2Proof.Machine.execEngRunClear e s
  | .rstrt e x => Sys2Proof.Machine.execRstrt e x s
  | .policyRestart e x => Sys2Proof.Machine.execPolicyRestart e x s
  | .tbActivation e x => Sys2Proof.Machine.execTbActivation e x s
  | .contextSwitch w => Sys2Proof.Machine.execContextSwitch w s
  | .registerReadReturn e x => Sys2Proof.Machine.execRegisterReadReturn e x s
  | .waittResume e x => Sys2Proof.Machine.execWaittResume e x s
  | .dmaBurst mover => Sys2Proof.Machine.execDmaBurst mover s
  | .galleryScrub word found => Sys2Proof.Machine.execGalleryScrub word found s
  | .winMapWrite word => Sys2Proof.Machine.execWinMapWrite word s
  | .dmaChWrite n word => Sys2Proof.Machine.execDmaChWrite n word s
  | .dmaRst mask => Sys2Proof.Machine.execDmaRst mask s
  | .nop e => Sys2Proof.Machine.execNop e s
  | .jmp e => Sys2Proof.Machine.execJmp e s
  | .call e => Sys2Proof.Machine.execCall e s
  | .ret e => Sys2Proof.Machine.execRet e s
  | .loop e => Sys2Proof.Machine.execLoop e s
  | .skip e => Sys2Proof.Machine.execSkip e s
  | .wait e => Sys2Proof.Machine.execWait e s
  | .waitt e => Sys2Proof.Machine.execWaitt e s
  | .ldi e => Sys2Proof.Machine.execLdi e s
  | .mov e => Sys2Proof.Machine.execMov e s
  | .add e => Sys2Proof.Machine.execAdd e s
  | .sub e => Sys2Proof.Machine.execSub e s
  | .and e => Sys2Proof.Machine.execAnd e s
  | .or e => Sys2Proof.Machine.execOr e s
  | .xor e => Sys2Proof.Machine.execXor e s
  | .shf e => Sys2Proof.Machine.execShf e s
  | .cmp e => Sys2Proof.Machine.execCmp e s
  | .ld e => Sys2Proof.Machine.execLd e s
  | .st e => Sys2Proof.Machine.execSt e s
  | .lda e => Sys2Proof.Machine.execLda e s
  | .sta e => Sys2Proof.Machine.execSta e s
  | .mpy e => Sys2Proof.Machine.execMpy e s
  | .mac2 e => Sys2Proof.Machine.execMac2 e s
  | .rnd e => Sys2Proof.Machine.execRnd e s
  | .biq e => Sys2Proof.Machine.execBiq e s
  | .fir e => Sys2Proof.Machine.execFir e s
  | .dlw e => Sys2Proof.Machine.execDlw e s
  | .dlr e => Sys2Proof.Machine.execDlr e s
  | .gain e => Sys2Proof.Machine.execGain e s
  | .mix e => Sys2Proof.Machine.execMix e s
  | .lim e => Sys2Proof.Machine.execLim e s
  | .pka e => Sys2Proof.Machine.execPka e s
  | .intp e => Sys2Proof.Machine.execIntp e s
  | .cpy e => Sys2Proof.Machine.execCpy e s
  | .clr e => Sys2Proof.Machine.execClr e s
  | .sqa e => Sys2Proof.Machine.execSqa e s
  | .dmai e => Sys2Proof.Machine.execDmai e s
  | .dmaw e => Sys2Proof.Machine.execDmaw e s
  | .chk e => Sys2Proof.Machine.execChk e s
  | .evt e => Sys2Proof.Machine.execEvt e s
  | .sig e => Sys2Proof.Machine.execSig e s
  | .flg e => Sys2Proof.Machine.execFlg e s
  | .tbr e => Sys2Proof.Machine.execTbr e s
  | .illegalOpcode e => Sys2Proof.Machine.execIllegalOpcode e s
  | .registerWrite accesses => Sys2Proof.Machine.execRegisterWrite accesses s
  | .phyLink up => Sys2Proof.Machine.execPhyLink up s
  | .errorActive tec recv => Sys2Proof.Machine.execErrorActive tec recv s
  | .firstFrame p => Sys2Proof.Machine.execFirstFrame p s
  | .flowControlFrame bs stmin => Sys2Proof.Machine.execFlowControlFrame bs stmin s
  | .serviceNotSupported q sid => Sys2Proof.Machine.execServiceNotSupported q sid s
  | .flashProgramEraseDone => Sys2Proof.Machine.execFlashProgramEraseDone s
  | .holdIslandLost => Sys2Proof.Machine.execHoldIslandLost s

end Sys2Proof.Machine
end

