-- ==== Sys2Proof/WellFormed.lean ====
section
/-! DEFINITION. Well-formed commands: operands that the event of the row can carry. Bounds that a type already gives
(a domain below 4, a 16-bit code) are not repeated. -/

namespace Sys2Proof

/-- SFDP gives a density below 2^256 bytes as its exponent and at least one erase type; the mode and wait
clocks of a read mode are at most 38, and an erase covers no more than a copy (12_image_and_start.md R265). -/
def flashParamsWf (p : FlashParams) : Bool :=
  let ok : Option Nat → Bool := fun w => match w with
    | some n => decide (n ≤ 38)
    | none => true
  ok p.dtr144 && ok p.m144 && ok p.m114 && (!p.sfdp || !p.erase.isEmpty) && p.erase.all fun e => decide (e ≤ 22)

/-- A calibration measures eighteen bit weights (07_feedback_converter.md R168). -/
def sliceCalWf (c : SliceCal) : Bool := c.weights.length == 18

/-- A Weft frame carries sixteen rail requests and four status bytes (02_time_base_and_clocks.md R44). -/
def weftFrameWf (f : WeftFrame) : Bool := f.sym.length == 65 && f.sym.head? == some 0x1FB && f.sym.getLast? == some 0x1FD

/-- The frames of a packet hold one word for each channel (10_audio_inputs.md R232). -/
def avtpWf (p : AvtpPacket) : Bool := p.frames.all fun f => f.length == p.channels

/-- A classical frame carries at most 8 bytes and an FD frame at most 64; a base identifier has 11 bits (16_service_and_vehicle_bus.md R350). -/
def canFrameWf (f : CanFrame) : Bool :=
  decide (f.data.length ≤ if f.fd then 64 else 8) && (f.ext || decide (f.id.toNat < 2048))

/-- A segment carries at most 62 bytes in a first frame and 63 in a consecutive one (16 R352). -/
def tpFrameWf : TpFrame → Bool
  | .first _ data => decide (data.length ≤ 62)
  | .consecutive _ data => !data.isEmpty && decide (data.length ≤ 63)

/-- No master writes twice in one tick (01_signal_to_speaker.md R21). -/
def mastersDiffer : List RegAccess → Bool
  | [] => true
  | a :: t => t.all (fun b => b.master != a.master) && mastersDiffer t

/-- The operands of a command are ones its event can carry. -/
def Instr.wf : Instr → Bool
  | .vbatPowerOn => true
  | .vbatPowerLoss => true
  | .wakeRequest _ => true
  | .wakeRequestEnd => true
  | .coreResetRelease => true
  | .pllALock => true
  | .pllBCLock _ => true
  | .resistorCheckDone _ _ => true
  | .wakeTimeout => true
  | .referenceClockFault => true
  | .pllCLockLoss => true
  | .pllCRetry _ => true
  | .trimUpdate => true
  | .nresetAssert => true
  | .nresetRelease => true
  | .vauxGood => true
  | .writeInhibit _ => true
  | .powerFailDetect _ fit => decide (fit ≤ 64)
  | .supplyFault _ _ => true
  | .railRecovery _ => true
  | .sleepDelayExpire => true
  | .sleep => true
  | .keep _ => true
  | .holdTestStart => true
  | .holdTestEnd _ => true
  | .holdTestTimeout => true
  | .derateExit => true
  | .ensembleWaitTimeout => true
  | .driverEnable _ => true
  | .driverWake _ => true
  | .prechargeTimeout _ => true
  | .muteRampEnd _ => true
  | .nmuteChange _ => true
  | .faultedDwellEnd _ => true
  | .repairCountClear _ => true
  | .offRelease _ => true
  | .sysReqHold _ => true
  | .sysReqFixed _ => true
  | .sysReqDerate _ => true
  | .sysReqEmute _ => true
  | .sysReqMute _ => true
  | .sysReqFlt _ _ => true
  | .reloadStart _ => true
  | .reloadSectionDone _ => true
  | .reloadEnd _ => true
  | .imgReloadRequest _ => true
  | .flashDiscovery p => flashParamsWf p
  | .headerReadDone => true
  | .tableReadDone => true
  | .sectionReadDone => true
  | .copyClearDone => true
  | .loadComplete => true
  | .autoSelftestStep _ => true
  | .autoSelftestDone => true
  | .monTestWrite _ => true
  | .testModeEffect => true
  | .filteredLevelChange _ levels sampled =>
    !levels.isEmpty && decide (levels.length ≤ 255) && decide (sampled.length = levels.length)
  | .nfltLevelChange _ samples => !samples.isEmpty && decide (samples.length ≤ 255)
  | .latchClear _ _ => true
  | .assertAfterDeadtime _ _ => true
  | .slotOwnerFix => true
  | .conversionResult _ _ _ => true
  | .startCalibrationDone cal => cal.length == 13 && cal.all sliceCalWf
  | .swapRequest => true
  | .now => true
  | .swapTakesEffect => true
  | .sliceCalibrationDone cal => sliceCalWf cal
  | .scanCycleStart => true
  | .adcInj _ => true
  | .adcQdataRead _ => true
  | .referenceSelect _ => true
  | .referenceSettled => true
  | .adcCorrsCommit _ _ => true
  | .sampleInstant _ _ => true
  | .loopUpdate _ _ => true
  | .missDecision _ _ => true
  | .backgroundJob _ => true
  | .backgroundJobDone _ => true
  | .feedInstant _ => true
  | .lfcRefWrite _ _ _ => true
  | .singleSwap _ _ => true
  | .groupSwap _ _ => true
  | .lfcCmWrite _ _ => true
  | .lfcCsWrite _ _ => true
  | .lfcCsRead _ => true
  | .lfcScrub _ _ _ _ _ => true
  | .impedanceStart _ _ => true
  | .ldenWrite _ _ => true
  | .profileUpdate _ => true
  | .prfTgtWrite _ _ => true
  | .prfLimitWrite _ _ _ => true
  | .phaseEvaluation _ => true
  | .edgeUpdate _ => true
  | .missedEdgeArm _ _ => true
  | .gateEdge _ _ => true
  | .halfCycleStart _ _ => true
  | .tbNowLoRead master => decide (master ≤ 80)
  | .weftSofSend => true
  | .weftFrameArrive f _ => weftFrameWf f
  | .weftFrameReturn f _ => weftFrameWf f
  | .weftFrameMissing => true
  | .ethernetFrameRejected _ => true
  | .gptpSync _ tbAt time _ => decide (tbAt < 2 ^ 64) && decide (time.sec < 2 ^ 48) && decide (time.ns < 1000000000)
  | .gptpAnnounce _ => true
  | .pdelayReqSend => true
  | .pdelayReqReceived => true
  | .pdelayRespReceived _ _ => true
  | .syncTimeout => true
  | .holdoverEnd => true
  | .avtpPacket p => avtpWf p
  | .frameRelease _ => true
  | .zeroFill _ => true
  | .streamLoss _ => true
  | .streamEnable _ _ => true
  | .tdmFrame _ line0 line1 _ => decide (line0.length ≤ 16) && decide (line1.length ≤ 16)
  | .tdmLoss _ => true
  | .tdmbMasterFrame => true
  | .controlFrameReceived a => canFrameWf a.frame
  | .controlFrameTimeout _ => true
  | .busOff _ _ => true
  | .errorPassive _ _ => true
  | .busOffRecovery => true
  | .transportTimeout _ => true
  | .responsePending _ => true
  | .s3Expire => true
  | .defaultSession _ => true
  | .programmingSession _ => true
  | .extendedSession _ => true
  | .ecuReset _ => true
  | .ecuResetDelay => true
  | .clearDiagnosticInformation _ _ => true
  | .reportNumberOfDtc _ _ => true
  | .reportDtcByStatusMask _ _ => true
  | .reportDtcExtDataRecord _ _ _ => true
  | .readDataByIdentifier _ dids => !dids.isEmpty && decide (dids.length ≤ 2047)
  | .readMemoryByAddress _ _ _ _ => true
  | .requestSeed _ => true
  | .sendKey _ key => decide (key.length ≤ 4093)
  | .lockoutEnd => true
  | .writeDataByIdentifier _ _ data => decide (data.length ≤ 4092)
  | .impedanceMeasureRoutine _ _ _ _ _ => true
  | .testToneRoutine _ _ _ _ _ => true
  | .domainReloadRoutine _ _ => true
  | .recorderClearRoutine _ => true
  | .requestResults _ _ _ => true
  | .stopRoutine _ _ => true
  | .requestDownload _ _ _ _ _ => true
  | .transferData _ _ data => decide (data.length ≤ 4093)
  | .requestTransferExit _ => true
  | .writeMemoryByAddress _ _ _ _ data => decide (data.length ≤ 4085)
  | .testerPresent _ => true
  | .dtcSettingOn _ => true
  | .dtcSettingOff _ => true
  | .drpKick _ => true
  | .dripExpire => true
  | .dripClockStop _ => true
  | .holdDripCycle => true
  | .tokenRefill _ => true
  | .flowstoneCommit _ => true
  | .flowstoneScanDone => true
  | .flsClear _ => true
  | .clearTakesEffect => true
  | .flsCursorWrite _ => true
  | .flsCopyDone => true
  | .flsData7Read => true
  | .thermalEvaluation => true
  | .lastHeatRecord => true
  | .engRunSet _ => true
  | .engRunClear _ => true
  | .rstrt _ _ => true
  | .policyRestart _ _ => true
  | .tbActivation _ _ => true
  | .contextSwitch _ => true
  | .registerReadReturn _ _ => true
  | .waittResume _ _ => true
  | .dmaBurst _ => true
  | .galleryScrub _ _ => true
  | .winMapWrite _ => true
  | .dmaChWrite _ _ => true
  | .dmaRst _ => true
  | .nop _ => true
  | .jmp _ => true
  | .call _ => true
  | .ret _ => true
  | .loop _ => true
  | .skip _ => true
  | .wait _ => true
  | .waitt _ => true
  | .ldi _ => true
  | .mov _ => true
  | .add _ => true
  | .sub _ => true
  | .and _ => true
  | .or _ => true
  | .xor _ => true
  | .shf _ => true
  | .cmp _ => true
  | .ld _ => true
  | .st _ => true
  | .lda _ => true
  | .sta _ => true
  | .mpy _ => true
  | .mac2 _ => true
  | .rnd _ => true
  | .biq _ => true
  | .fir _ => true
  | .dlw _ => true
  | .dlr _ => true
  | .gain _ => true
  | .mix _ => true
  | .lim _ => true
  | .pka _ => true
  | .intp _ => true
  | .cpy _ => true
  | .clr _ => true
  | .sqa _ => true
  | .dmai _ => true
  | .dmaw _ => true
  | .chk _ => true
  | .evt _ => true
  | .sig _ => true
  | .flg _ => true
  | .tbr _ => true
  | .illegalOpcode _ => true
  | .registerWrite accesses => !accesses.isEmpty && mastersDiffer accesses
  | .phyLink _ => true
  | .errorActive _ _ => true
  | .firstFrame p => tpFrameWf p
  | .flowControlFrame _ _ => true
  | .serviceNotSupported _ _ => true
  | .flashProgramEraseDone => true
  | .holdIslandLost => true

end Sys2Proof
end

