-- ==== Sys2Proof/Safety.lean ====
section
/-! DEFINITION. The words that claims use: what a step leaves unchanged, the canonical form of the state, and what every run keeps. -/

namespace Sys2Proof.Machine

/-- Every bit of every register outside the fields listed is the same in both states. -/
def State.onlyFields (s t : State) (l : List Fld) : Prop :=
  ∀ a i : Nat, (∀ f ∈ l, ¬(f.addr = a ∧ f.lo ≤ i ∧ i ≤ f.hi)) → (t.reg a).getLsbD i = (s.reg a).getLsbD i

/-- Every register outside the addresses listed is the same in both states. -/
def State.onlyRegs (s t : State) (l : List Nat) : Prop := ∀ a : Nat, a ∉ l → t.reg a = s.reg a

/-- Every byte of memory outside a range reads the same in both states. -/
def State.onlyBytes (s t : State) (base len : Nat) : Prop := ∀ a : Nat, (a < base ∨ base + len ≤ a) → t.rd8 a = s.rd8 a

/-- The register fields that a raised event may change; the rest of its effect is in the recorder (15_drip_and_flowstone.md R334 to R336). -/
def evFields : List Fld := [R.FLS_CNT.DROPSTG, R.FLS_STAT.STGOVF, R.FLS_STAT.SUPP]

/-- Nothing but registers differs. -/
def State.onlyRegsDiffer (s t : State) : Prop := t = { s with regs := t.regs }

/-- Nothing but registers, the recorder and the counter of free values differs: what writing registers and raising events can do. -/
def State.onlyRegsFlsDiffer (s t : State) : Prop := t = { s with regs := t.regs, fls := t.fls, freeCtr := t.freeCtr }

/-- The memory of the block is in its canonical form (Machine/Ops.lean). -/
def State.memCanonical (s : State) : Bool := Memory.wf s.mem

/-- What a reset of the core leaves: its cause, the mode in force and the count recorded; registers, domains and balls at
their reset; memory, fuses, flash and the queue untouched; WAKE or STANDBY by the WAKE ball (11_modes.md R251, R262). -/
def State.coreIsReset (s t : State) (cause : Fld) : Prop :=
  t.bit cause = true ∧ t.get R.SYS_RSTCAUSE.RMODE = modeCode s.sys.mode ∧
    t.get R.SYS_RSTCAUSE.RCNT = min 255 (s.get R.SYS_RSTCAUSE.RCNT + 1) ∧ t.pwr.coreUp = false ∧
    t.sys.mode = (if s.pwr.wakeBall then .wake else .standby) ∧ (∀ a : Nat, a ∉ keptRegs → t.reg a = resetWord a) ∧
    t.doms = [] ∧ t.balls = [] ∧ t.eng = { ecc := s.eng.ecc, pkaW := s.eng.pkaW } ∧ t.mem = s.mem ∧ t.fuse = s.fuse ∧ t.img.flash = s.img.flash ∧
    t.fls.main = s.fls.main ∧ t.pending = s.pending

/-! ### Engine contexts -/

/-- Context x of engine e issues the instruction f now: it waits for no register read, and the word holds no double-bit error
(09_zuelm_engines_and_gallery.md R199, R203, R204). -/
def State.issues (s : State) (e x : Nat) (f : Iw) : Prop :=
  s.issuing e = some x ∧ s.instrAt e (s.ctx e x).pc = f ∧ (s.ctx e x).waitsRead f = false ∧
    s.eccAt (localBase e + 8 * (s.ctx e x).pc) < 2

/-- Every context but x of engine e is the same. -/
def State.otherCtxs (s t : State) (e x : Nat) : Prop :=
  ∀ e' x' : Nat, x' < 3 → ¬(e' = e ∧ x' = x) → t.ctx e' x' = s.ctx e' x'

/-- Nothing but context x of engine e differs. -/
def State.onlyCtx (s t : State) (e x : Nat) : Prop :=
  t = { s with eng := { s.eng with ctxs := t.eng.ctxs } } ∧ s.otherCtxs t e x

/-- Context register r takes the value v, and every other register keeps its own. -/
def Ctx.regsBecome (c d : Ctx) (r : Nat) (v : Word) : Prop :=
  d.reg r = v ∧ ∀ k : Nat, k % 16 ≠ r % 16 → d.reg k = c.reg k

/-- The seven flags of two contexts agree (09 R207). -/
def Ctx.sameFlags (c d : Ctx) : Prop :=
  d.z = c.z ∧ d.n = c.n ∧ d.c = c.c ∧ d.v = c.v ∧ d.sat = c.sat ∧ d.u = c.u ∧ d.dbsy = c.dbsy ∧ d.derr = c.derr

/-- The context goes on in order: next index and loop levels by R208; return stack, activation, wait and reads in flight as before. -/
def Ctx.advances (c d : Ctx) : Prop :=
  d.pc = (loopNext c.pc (c.pc + 1) c.loops).1 ∧ d.loops = (loopNext c.pc (c.pc + 1) c.loops).2 ∧
    d.rets = c.rets ∧ d.pend = c.pend ∧ d.wait = c.wait ∧ d.rd = c.rd ∧ d.parBad = c.parBad

/-- Registers, accumulators and flags of two contexts agree. -/
def Ctx.sameData (c d : Ctx) : Prop := d.g = c.g ∧ d.acc = c.acc ∧ c.sameFlags d

/-- Z, N, C, V and SAT of a context take these values; the flags that no result touches stay (09 R207). -/
def Ctx.flagsBecome (c d : Ctx) (z n cy v sat : Bool) : Prop :=
  d.z = z ∧ d.n = n ∧ d.c = cy ∧ d.v = v ∧ d.sat = sat ∧ d.u = c.u ∧ d.dbsy = c.dbsy ∧ d.derr = c.derr

/-- An instruction that puts v into register r of its context and goes on: the other registers, the accumulators and every
other context stay; its flags are stated beside it. -/
def State.computes (s t : State) (e x r : Nat) (v : Word) : Prop :=
  (s.ctx e x).regsBecome (t.ctx e x) r v ∧ (t.ctx e x).acc = (s.ctx e x).acc ∧ (s.ctx e x).advances (t.ctx e x) ∧ s.onlyCtx t e x

/-- Nothing but memory and context x of engine e differs. -/
def State.onlyCtxAndMem (s t : State) (e x : Nat) : Prop := ({ s with mem := t.mem } : State).onlyCtx t e x

/-- The context of a block instruction that has ended: registers, accumulators and every flag but SAT as before (09 R209). -/
def State.blockEnds (s t : State) (e x : Nat) : Prop :=
  (t.ctx e x).g = (s.ctx e x).g ∧ (t.ctx e x).acc = (s.ctx e x).acc ∧
    (s.ctx e x).flagsBecome (t.ctx e x) (s.ctx e x).z (s.ctx e x).n (s.ctx e x).c (s.ctx e x).v (t.ctx e x).sat ∧
    (s.ctx e x).advances (t.ctx e x) ∧ (t.ctx e x).prog = 0 ∧ s.onlyCtxAndMem t e x

/-- Data memory holds every one of some areas, and no word of them has a double-bit error (09 R199, R209). -/
def State.areasGood (s : State) (e : Nat) (l : List (Nat × Nat)) : Prop := areasBad l = none ∧ s.areasEcc e l = none

/-- An index that a context may go to from where it stands: within every loop body that it is in, and within no body of the program
that it is not in (09 R208). -/
def State.mayGo (s : State) (e x t : Nat) : Prop :=
  (∀ l ∈ (s.ctx e x).loops, l.first ≤ t ∧ t ≤ l.last) ∧
    ∀ b ∈ s.bodies e, b.1 ≤ t → t ≤ b.2 → b.1 ≤ (s.ctx e x).pc ∧ (s.ctx e x).pc ≤ b.2

/-- A context after an error of the host's own making in its control flow: at an index and in a number of its loops that nothing
states; its registers, accumulators and flags, and everything else but the counter of free values, stay (00_scope.md R7; log 4). -/
def State.strays (s t : State) (e x : Nat) : Prop :=
  (s.ctx e x).sameData (t.ctx e x) ∧ (t.ctx e x).pc < 8192 ∧ (∃ k : Nat, (t.ctx e x).loops = (s.ctx e x).loops.drop k) ∧
    t.freeCtr = s.freeCtr + 1 ∧ ({ s with freeCtr := t.freeCtr } : State).onlyCtx t e x

/-- Two areas of n and m words do not overlap. -/
def areasApart (a n b m : Nat) : Prop := a + 4 * n ≤ b ∨ b + 4 * m ≤ a

/-- Every byte outside two areas of engine e's local memory, of n and m words, reads the same. -/
def State.onlyAreas (s t : State) (e a n b m : Nat) : Prop :=
  ∀ k : Nat, (k < localBase e + a ∨ localBase e + a + 4 * n ≤ k) → (k < localBase e + b ∨ localBase e + b + 4 * m ≤ k) →
    t.rd8 k = s.rd8 k

/-- A value of TB_NOW as it crosses to a clock whose alignment the spec leaves open: within one tick of TB_NOW (02 R35). -/
def State.nearNow (s : State) (v : Nat) : Prop := v ≤ s.now + 1 ∧ s.now ≤ v + 1

/-! ### Diagnostic requests -/

/-- A request of n bytes is taken: the port is in service, no response is pending, the request comes under its identifier of
CAN_DIAG or CAN_FUNC, FD frames are in use if it comes in them, and a functional request fits a single frame
(16_service_and_vehicle_bus.md R348, R352, R353, R369). -/
def State.takes (s : State) (q : ReqKind) (n : Nat) : Prop :=
  s.reqOn = true ∧ q.id.toNat = s.get (if q.functional then R.CAN_FUNC.ID else R.CAN_DIAG.REQID) ∧
    (q.fd = true → s.bit R.CAN_CFG.FDEN = true) ∧ (q.functional = false ∨ n ≤ sfMax q.fd)

/-- The bytes of the frame that a message begins with: the message whole, or its first part (16 R352; log 15). -/
def firstBytes (q : ReqKind) (m : List Byte) : List Byte := if m.length ≤ sfMax q.fd then sfBytes m else ffBytes q.fd m

/-- One frame went out last, in the format of the request: the bytes given, padded with CAN_CFG.PAD to the length of a frame, under
the response identifier (16 R348, R352, R369). -/
def State.sentOne (t : State) (q : ReqKind) (l : List Byte) : Prop :=
  t.dsu.out = [{ id := t.get R.CAN_DIAG.RSPID, fd := q.fd, brs := q.fd && t.bit R.CAN_CFG.BRS,
                 data := l ++ List.replicate (canLen q.fd l.length - l.length) (BitVec.ofNat 8 (t.get R.CAN_CFG.PAD)) }]

/-- A final response goes out: a single frame, or what is left after the first frame (16 R352, R353). -/
def State.replies (t : State) (q : ReqKind) (m : List Byte) : Prop :=
  t.dsu.rsp = m ∧ t.dsu.pend = none ∧ t.sentOne q (firstBytes q m) ∧
    t.dsu.tx = if m.length ≤ sfMax q.fd then none else some { rest := m.drop (ffData q.fd), sn := 1, fd := q.fd }

/-- A positive response that a subfunction with bit 7 set suppresses (16 R353). -/
def State.repliesSub (t : State) (q : ReqKind) (m : List Byte) : Prop :=
  if q.suppress then t.dsu.rsp = [] ∧ t.dsu.pend = none ∧ t.dsu.tx = none ∧ t.dsu.out = [] else t.replies q m

/-- A negative response, kept in LASTNRC; to a functional request 0x11, 0x12, 0x31 and 0x7E send nothing (16 R353, R370). -/
def State.refuses (t : State) (q : ReqKind) (sid nrc : Nat) : Prop :=
  if q.functional = true ∧ (nrc = 0x11 ∨ nrc = 0x12 ∨ nrc = 0x31 ∨ nrc = 0x7E) then
    t.dsu.rsp = [] ∧ t.dsu.pend = none ∧ t.dsu.tx = none ∧ t.dsu.out = []
  else t.get R.DSU_STAT.LASTNRC = nrc ∧ t.replies q [0x7F, BitVec.ofNat 8 sid, BitVec.ofNat 8 nrc]

/-- Nothing but the diagnostic unit and the code of the last refusal differs. -/
def State.onlyDsu (s t : State) : Prop :=
  s.onlyFields t [R.DSU_STAT.LASTNRC] ∧ t = { s with regs := t.regs, dsu := t.dsu }

/-- A word that the tester may write as plain memory: of Gallery, or of a local memory but no program of a running engine; it holds no
error (09 R199, R212). -/
def State.plainWord (s : State) (a : Nat) : Prop :=
  s.eccAt a = 0 ∧ (inGallery a = true ∨ (inLocal a = true ∧ s.progRuns a = false))

/-- What every step keeps: the memory is in its canonical form; no register of IMG is among those that records of the copy wrote
(12_image_and_start.md R268); DSU_STAT.SESS is a session that exists (16_service_and_vehicle_bus.md R354, R370). -/
def State.inv (s : State) : Prop :=
  s.memCanonical = true ∧ (∀ a ∈ s.img.touched, blkOf a ≠ 0x40100) ∧ s.get R.DSU_STAT.SESS ≠ 0

/-- A step that ends in a next state. -/
def goesOn (o : Host.Outcome State Fault Refusal) : Bool :=
  match o with
  | .next _ => true
  | .fault _ => false
  | .refused _ => false

end Sys2Proof.Machine
end

