-- ==== Sys2Proof/Certificates/Slice0/Obligations.lean ====
section
/-! DEFINITION. The statements for the provers. A command that ends in the consequences of R248 to R259 answers
`u.settle` for the state u in which its own effect has taken place: such a statement says what u is. -/

open Sys2Proof Sys2Proof.Machine

/-- A step runs the command at the front of the queue on the state with the rest of the queue (95_what_each_step_holds.md). -/
def Obligations.StepRunsTheFrontCommand : Prop :=
  ∀ (c : Instr) (s : State), step (s.withFront c) = exec c s

/-- A step on an empty queue lets one tick of TB_NOW pass (the model's choice, log 1) (02_time_base_and_clocks.md R36; 15_drip_and_flowstone.md R323). -/
def Obligations.IdleStepIsOneTick : Prop :=
  ∀ s : State, s.pending = [] →
    ∃ t : State, step s = .next t ∧
      t.tb.now = (if s.tb.run then (s.tb.now + 1) % 2 ^ 64 else s.tb.now) ∧
      s.onlyFields t [R.DRP_CNT.C] ∧
      t.get R.DRP_CNT.C = (if s.fls.dripOn = true ∧ s.pwr.supplyHeld = false ∧ 383 ≤ s.fls.dripSub ∧ s.fls.dripSkip = 0 then
        min 8388607 (s.get R.DRP_CNT.C + 1) else s.get R.DRP_CNT.C) ∧
      t = { s with regs := t.regs, tb := { s.tb with now := t.tb.now },
                   fls := { s.fls with dripSub := t.fls.dripSub, dripSkip := t.fls.dripSkip, buckets := t.fls.buckets } }

/-- After reset the device is OFF, unpowered, and every register holds its reset value (11_modes.md R246; 02_time_base_and_clocks.md R36; 13_supply_events.md R287; 09_zuelm_engines_and_gallery.md R201). -/
def Obligations.ResetIsOffWithEveryRegisterAtItsResetValue : Prop :=
  State.reset.sys.mode = .off ∧ State.reset.pwr.vbat = false ∧ State.reset.coreRuns = false ∧
    State.reset.tb.run = false ∧ State.reset.tb.now = 0 ∧
    (∀ a : Nat, State.reset.reg a = resetWord a) ∧ (∀ a : Nat, State.reset.rd8 a = memDflt a) ∧
    (∀ d : Nat, (State.reset.dom d).dst = .off) ∧ (∀ e : Nat, State.reset.running? e = none) ∧
    (∀ d g : Nat, (State.reset.ball d g).lvl = .hiz) ∧ State.reset.pending = []

/-- VBAT_POWER_ON brings STANDBY with POR alone; VBAT_POWER_LOSS brings OFF and loses the always-on island (13_supply_events.md R287; 11_modes.md R248; 11_modes.md R262). -/
def Obligations.PowerOnAndPowerLoss : Prop :=
  (∀ s : State, s.pwr.vbat = false →
    ∃ t : State, exec .vbatPowerOn s = .next t ∧ t.sys.mode = .standby ∧ t.pwr.vbat = true ∧ t.reg R.SYS_RSTCAUSE.at = 1 ∧
      s.onlyRegs t [R.SYS_RSTCAUSE.at] ∧
      t = { s with regs := t.regs, pwr := { s.pwr with vbat := true }, tb := { s.tb with trimIdx := 13 },
                   sys := { s.sys with mode := .standby } }) ∧
  (∀ s : State, s.pwr.vbat = true → exec .vbatPowerOn s = .next s) ∧
  (∀ s : State, s.pwr.vbat = true →
    ∃ t : State, exec .vbatPowerLoss s = .next t ∧ t.sys.mode = .off ∧ t.pwr.vbat = false ∧ t.pwr.coreUp = false ∧
      t.pwr.vauxEn = false ∧ t.mem = [] ∧ (∀ a : Nat, a ≠ R.FLS_STAT.at → t.reg a = resetWord a) ∧
      t.reg R.FLS_STAT.at = s.reg R.FLS_STAT.at ∧ t.fuse = s.fuse ∧ t.img.flash = s.img.flash ∧
      t.fls.main = s.fls.main ∧ t.fls.tal = s.fls.tal ∧ t.fls.cntA = s.fls.cntA ∧ t.fls.cntB = s.fls.cntB ∧
      t.fls.mapA = s.fls.mapA ∧ t.fls.mapB = s.fls.mapB ∧ t.fls.stage = s.fls.stage ∧ t.pending = s.pending)

/-- A wake request takes STANDBY to WAKE; its end clears the request, and ends HOLD without an image (11_modes.md R248; 11_modes.md R250; 13_supply_events.md R289). -/
def Obligations.WakeRequestsStartAndEnd : Prop :=
  (∀ (src : WakeSource) (s : State), s.pwr.vbat = true → s.sys.mode = .standby → s.sys.wakeCycle = false →
    s.pwr.nrstHeld = false →
    ∃ t : State, exec (.wakeRequest src) s = .next t ∧ t.sys.mode = .wake ∧ t.pwr.vauxEn = true ∧
      t.bit R.SYS_RSTCAUSE.WAKEUP = true ∧ s.onlyFields t [R.SYS_RSTCAUSE.WAKEUP] ∧
      t = { s with regs := t.regs, sys := { s.sys with mode := .wake },
                   pwr := { s.pwr with vauxEn := true, wakeBall := s.pwr.wakeBall || decide (src = .wakeBall) } }) ∧
  (∀ (src : WakeSource) (s : State), s.pwr.vbat = true →
    ¬(s.sys.mode = .standby ∧ s.sys.wakeCycle = false ∧ s.pwr.nrstHeld = false) →
    exec (.wakeRequest src) s =
      .next { s with pwr := { s.pwr with wakeBall := s.pwr.wakeBall || decide (src = .wakeBall) } }) ∧
  (∀ (src : WakeSource) (s : State), s.pwr.vbat = false → exec (.wakeRequest src) s = .next s) ∧
  (∀ s : State, ¬(s.sys.mode = .hold ∧ (s.sys.noImage = true ∨ s.sys.deadHold = true) ∧ s.pwr.supplyHeld = false) →
    exec .wakeRequestEnd s =
      .next { s with pwr := { s.pwr with wakeBall := false }, sys := { s.sys with wakeCycle := false } }) ∧
  (∀ s : State, s.sys.mode = .hold → (s.sys.noImage = true ∨ s.sys.deadHold = true) → s.pwr.supplyHeld = false →
    ∃ t : State, exec .wakeRequestEnd s = .next t ∧ t.sys.mode = .standby ∧ t.pwr.vauxEn = false ∧ t.pwr.coreUp = false ∧
      t.pwr.wakeBall = false ∧ t.mem = s.mem ∧ t.img.flash = s.img.flash ∧ t.fls.main = s.fls.main ∧
      t.fls.stage = (if s.pwr.coreUp = true ∧ s.tb.run = true then
        s.raise 0x0101 0 (le 1 (modeCode .standby) ++ le 1 (modeCode .hold) ++ le 3 s.now) else s).fls.stage)

/-- KEEP is a register-held wake request; SLEEP and the expired delay let VAUX_EN fall; WAKE times out to STANDBY (13_supply_events.md R289; 13_supply_events.md R302; 11_modes.md R248). -/
def Obligations.KeepAndSleepDriveVauxEnable : Prop :=
  (∀ (on : Bool) (s : State), s.coreRuns = true →
    ∃ t : State, exec (.keep on) s = .next t ∧ t.bit R.PWR_CTL.KEEP = on ∧ s.onlyFields t [R.PWR_CTL.KEEP] ∧
      s.onlyRegsDiffer t) ∧
  (∀ (on : Bool) (s : State), s.coreRuns = false → exec (.keep on) s = .next s) ∧
  (∀ s : State, ¬(s.coreRuns = true ∧ s.pwr.vauxEn = true ∧ s.wakeReq = false) → exec .sleep s = .next s) ∧
  (∀ s : State, ¬(s.coreRuns = true ∧ s.fromWake = true ∧ s.sys.mode ≠ .wake ∧ s.pwr.vauxEn = true ∧ s.wakeReq = false ∧
    s.get R.PWR_CFG.SLPDLY ≠ 0) → exec .sleepDelayExpire s = .next s) ∧
  (∀ s : State, ¬(s.sys.mode = .wake ∧ s.pwr.nrstHeld = false ∧ s.pwr.supplyHeld = false) → exec .wakeTimeout s = .next s) ∧
  (∀ s : State, s.coreRuns = true → s.pwr.vauxEn = true → s.wakeReq = false →
    ∃ t : State, exec .sleep s = .next t ∧ t.pwr.vauxEn = false ∧ t.pwr.sleepLow = true ∧ t.get R.PWR_LASTF.CAUSE = 3 ∧
      s.onlyFields t (R.PWR_LASTF.CAUSE :: evFields) ∧
      t = { s with regs := t.regs, fls := t.fls, freeCtr := t.freeCtr, pwr := { s.pwr with sleepLow := true, vauxEn := false } }) ∧
  (∀ s : State, s.coreRuns = true → s.fromWake = true → s.sys.mode ≠ .wake → s.pwr.vauxEn = true → s.wakeReq = false →
    s.get R.PWR_CFG.SLPDLY ≠ 0 →
    ∃ t : State, exec .sleepDelayExpire s = .next t ∧ t.pwr.vauxEn = false ∧ t.pwr.sleepLow = true ∧
      t.get R.PWR_LASTF.CAUSE = 3 ∧ s.onlyFields t (R.PWR_LASTF.CAUSE :: evFields) ∧
      t = { s with regs := t.regs, fls := t.fls, freeCtr := t.freeCtr, pwr := { s.pwr with sleepLow := true, vauxEn := false } }) ∧
  (∀ s : State, s.sys.mode = .wake → s.pwr.nrstHeld = false → s.pwr.supplyHeld = false →
    ∃ t : State, exec .wakeTimeout s = .next t ∧ t.sys.mode = .standby ∧ t.pwr.vauxEn = false ∧ t.pwr.coreUp = false ∧
      t.bit R.SYS_RSTCAUSE.WAKEF = true ∧ (∀ a : Nat, a ∉ keptRegs → t.reg a = resetWord a) ∧ t.mem = s.mem ∧
      t.fls.main = s.fls.main ∧
      t.fls.stage = (if s.pwr.coreUp = true ∧ s.tb.run = true then
        s.raise 0x0101 0 (le 1 (modeCode .standby) ++ le 1 (modeCode .wake) ++ le 3 s.now) else s).fls.stage)

/-- nRESET and a reference-clock fault reset the core, with cause, mode and count recorded (11_modes.md R251; 11_modes.md R262; 02_time_base_and_clocks.md R31). -/
def Obligations.ResetsRecordTheirCause : Prop :=
  (∀ s : State, s.fromWake = true → s.pwr.supplyHeld = false →
    ∃ t : State, exec .nresetAssert s = .next t ∧ t.pwr.nrstHeld = true ∧ s.coreIsReset t R.SYS_RSTCAUSE.NRST) ∧
  (∀ s : State, (s.fromWake = false ∨ s.pwr.supplyHeld = true) →
    exec .nresetAssert s = .next { s with pwr := { s.pwr with nrstHeld := true } }) ∧
  (∀ s : State, s.pwr.nrstHeld = false → exec .nresetRelease s = .next s) ∧
  (∀ s : State, s.pwr.nrstHeld = true → s.sys.mode = .wake →
    exec .nresetRelease s = .next { s with pwr := { s.pwr with nrstHeld := false, vauxEn := true } }) ∧
  (∀ s : State, s.pwr.nrstHeld = true → s.sys.mode = .standby → s.pwr.wakeBall = true → s.sys.wakeCycle = false →
    ∃ t : State, exec .nresetRelease s = .next t ∧ t.bit R.SYS_RSTCAUSE.WAKEUP = true ∧
      s.onlyFields t [R.SYS_RSTCAUSE.WAKEUP] ∧
      t = { s with regs := t.regs, pwr := { s.pwr with nrstHeld := false, vauxEn := true }, sys := { s.sys with mode := .wake } }) ∧
  (∀ s : State, s.pwr.nrstHeld = true → s.sys.mode ≠ .wake →
    ¬(s.sys.mode = .standby ∧ s.pwr.wakeBall = true ∧ s.sys.wakeCycle = false) →
    exec .nresetRelease s = .next { s with pwr := { s.pwr with nrstHeld := false } }) ∧
  (∀ s : State, s.coreRuns = false → exec .referenceClockFault s = .next s) ∧
  (∀ s : State, s.coreRuns = true →
    ∃ t : State, exec .referenceClockFault s = .next t ∧ s.coreIsReset t R.SYS_RSTCAUSE.CLK)

/-- VAUX good ends the write inhibit; the 4.40 V level begins it; a rail recovers; a lost hold island forgets its queue (13_supply_events.md R292; 13_supply_events.md R299; 13_supply_events.md R300; 13_supply_events.md R301; 13_supply_events.md R303; 15_drip_and_flowstone.md R341). -/
def Obligations.VauxEventsInhibitAndRelease : Prop :=
  (∀ s : State, s.pwr.vbat = true → s.pwr.vauxGood = false →
    ∃ t : State, exec .vauxGood s = .next t ∧ t.bit R.FLS_STAT.READY = false ∧ s.onlyFields t [R.FLS_STAT.READY] ∧
      t = { s with regs := t.regs, fls := { s.fls with scanPend := true },
                   pwr := { s.pwr with vauxGood := true, inh := s.pwr.supplyHeld, pfd := false, charger := true,
                                       vholdSrc := false,
                                       holdRdy := if s.pwr.holdRdy = some true then some true else none } }) ∧
  (∀ s : State, ¬(s.pwr.vbat = true ∧ s.pwr.vauxGood = false) → exec .vauxGood s = .next s) ∧
  (∀ (vhold : BitVec 16) (s : State), s.pwr.vauxGood = false → exec (.writeInhibit vhold) s = .next s) ∧
  (∀ (vhold : BitVec 16) (s : State), s.pwr.vauxGood = true →
    ∃ t : State, exec (.writeInhibit vhold) s = .next t ∧
      (s.pwr.inh = false → s.pwr.coreUp = true → t.bit R.PWR_STAT.INHSEEN = true) ∧
      s.onlyFields t (R.PWR_STAT.INHSEEN :: evFields) ∧
      (s.pwr.inh = true → t.regs = s.regs ∧ t.fls = s.fls) ∧
      t = { s with regs := t.regs, fls := t.fls, freeCtr := t.freeCtr,
                   pwr := { s.pwr with vauxGood := false, charger := false, inh := true,
                                       holdRdy := if vhold.toInt < 816 then some false else none } }) ∧
  (∀ (rail : Fin 5) (s : State),
    ∃ t : State, exec (.railRecovery rail) s = .next t ∧
      (∀ k : Nat, k < 4 → t.pwr.rails.getLsbD k = (s.pwr.rails.getLsbD k || decide (rail.val = k))) ∧
      t.pwr.pgx = (s.pwr.pgx || decide (rail.val = 4)) ∧
      t = { s with pwr := { s.pwr with rails := t.pwr.rails, pgx := t.pwr.pgx } }) ∧
  (∀ s : State, s.pwr.pfd = false → exec .holdIslandLost s = .next s) ∧
  (∀ s : State, s.pwr.pfd = true →
    ∃ t : State, exec .holdIslandLost s = .next t ∧ t.fls.stage = [] ∧ t.fls.mirror = [] ∧
      t.reg R.FLS_STAT.at = resetWord R.FLS_STAT.at ∧ s.onlyRegs t [R.FLS_STAT.at] ∧
      t = { s with regs := t.regs, fls := { s.fls with stage := [], mirror := [], heat := [], cnt := t.fls.cnt } })

/-- Power-fail detection and a supply fault release every ball, inhibit writes and record their cause (13_supply_events.md R293; 13_supply_events.md R299; 13_supply_events.md R300; 13_supply_events.md R302; 11_modes.md R251; 06_edges_and_phases.md R149). -/
def Obligations.PowerFailAndSupplyFaultReleaseTheBalls : Prop :=
  (∀ (vhold : BitVec 16) (fit : Nat) (s : State), s.pwr.pfd = true → exec (.powerFailDetect vhold fit) s = .next s) ∧
  (∀ (vhold : BitVec 16) (fit : Nat) (s : State), s.pwr.pfd = false →
    ∃ t : State, exec (.powerFailDetect vhold fit) s = .next t ∧ t.pwr.pfd = true ∧ t.pwr.vauxGood = false ∧ t.pwr.inh = true ∧
      t.pwr.vholdSrc = true ∧ t.pwr.supplyHeld = false ∧
      (s.pwr.vbat = true → t.get R.PWR_LASTF.CAUSE = if s.pwr.supplyHeld then 2 else if s.pwr.sleepLow then 3 else 1) ∧
      (s.fromWake = true → t.pwr.coreUp = false ∧ t.bit R.SYS_RSTCAUSE.VAUXL = true ∧ t.balls = [] ∧
        t.sys.mode = (if s.pwr.wakeBall then .wake else .standby)) ∧
      t.mem = s.mem ∧ t.fuse = s.fuse) ∧
  (∀ (mask : BitVec 5) (vhold : BitVec 16) (s : State), s.coreRuns = true → mask ≠ 0 →
    ∃ t : State, exec (.supplyFault mask vhold) s = .next t ∧ t.pwr.supplyHeld = true ∧ t.pwr.vauxEn = false ∧ t.pwr.inh = true ∧
      t.get R.PWR_LASTF.CAUSE = 2 ∧ t.get R.PWR_LASTF.FMASK = mask.toNat ∧ t.balls = [] ∧
      (∀ k : Nat, k < 4 → t.pwr.rails.getLsbD k = (s.pwr.rails.getLsbD k && !mask.getLsbD k)) ∧
      t.pwr.pgx = (s.pwr.pgx && !mask.getLsbD 4) ∧
      s.onlyFields t (R.PWR_LASTF.CAUSE :: R.PWR_LASTF.FMASK :: R.PWR_STAT.INHSEEN :: evFields) ∧
      (s.pwr.inh = false → t.bit R.PWR_STAT.INHSEEN = true) ∧
      t = { s with regs := t.regs, fls := t.fls, freeCtr := t.freeCtr, balls := [],
                   pwr := { s.pwr with supplyHeld := true, vauxEn := false, inh := true, sink := false, rails := t.pwr.rails,
                                       pgx := t.pwr.pgx } }) ∧
  (∀ (mask : BitVec 5) (vhold : BitVec 16) (s : State), s.coreRuns = false →
    ∃ t : State, exec (.supplyFault mask vhold) s = .next t ∧
      (∀ k : Nat, k < 4 → t.pwr.rails.getLsbD k = (s.pwr.rails.getLsbD k && !mask.getLsbD k)) ∧
      t.pwr.pgx = (s.pwr.pgx && !mask.getLsbD 4) ∧ t = { s with pwr := { s.pwr with rails := t.pwr.rails, pgx := t.pwr.pgx } })

/-- Release of the core reset, PLL locks, the resistor check and the trim act as start-up lays down (13_supply_events.md R291; 02_time_base_and_clocks.md R30; 02_time_base_and_clocks.md R31; 02_time_base_and_clocks.md R38; 06_edges_and_phases.md R151; 15_drip_and_flowstone.md R323). -/
def Obligations.StartUpClocksAndResistorCheck : Prop :=
  (∀ s : State, s.sys.mode = .wake → s.suppliesGood = true → s.pwr.supplyHeld = false → s.pwr.nrstHeld = false →
    s.pwr.coreUp = false →
    ∃ t : State, exec .coreResetRelease s = .next t ∧ t.pwr.coreUp = true ∧ t.bit R.CLK_STAT.XOK = true ∧ t.fls.dripOn = true ∧
      t.fls.dripSub = 0 ∧ s.onlyFields t [R.CLK_STAT.XOK, R.DSU_STAT.LOCK] ∧
      t.bit R.DSU_STAT.LOCK = (s.pwr.saLock && decide (3 ≤ s.pwr.saCnt)) ∧
      (s.bit R.FLS_STAT.READY = true →
        t.fls = { s.fls with dripOn := true, dripSub := 0, startSeq := s.fls.cnt.nextSeq, scanStart := false,
                             cnt := { s.fls.cnt with starts := min 0xFFFFFFFF (s.fls.cnt.starts + 1) } }) ∧
      (s.bit R.FLS_STAT.READY = false → t.fls = { s.fls with dripOn := true, dripSub := 0, scanStart := true }) ∧
      t = { s with regs := t.regs, fls := t.fls, pwr := { s.pwr with coreUp := true, saLock := false } }) ∧
  (∀ s : State, ¬(s.sys.mode = .wake ∧ s.suppliesGood = true ∧ s.pwr.supplyHeld = false ∧ s.pwr.nrstHeld = false ∧
    s.pwr.coreUp = false) → exec .coreResetRelease s = .next s) ∧
  (∀ s : State, ¬(s.coreRuns = true ∧ s.bit R.CLK_STAT.PLLA_LOCK = false) → exec .pllALock s = .next s) ∧
  (∀ (which : PllBC) (s : State), ¬(s.coreRuns = true ∧ s.bit R.CLK_STAT.PLLA_LOCK = true) →
    exec (.pllBCLock which) s = .next s) ∧
  (∀ (up down : BitVec 68) (s : State), ¬(s.sys.mode = .wake ∧ s.coreRuns = true) →
    exec (.resistorCheckDone up down) s = .next s) ∧
  (∀ s : State, ¬(s.coreRuns = true ∧ s.bit R.CLK_STAT.PLLC_LOCK = true) → exec .pllCLockLoss s = .next s) ∧
  (∀ s : State, s.coreRuns = true → s.bit R.CLK_STAT.PLLA_LOCK = false →
    ∃ t : State, exec .pllALock s = .next t ∧ t.bit R.CLK_STAT.PLLA_LOCK = true ∧
      t.bit R.CLK_STAT.XOK = true ∧ s.onlyFields t [R.CLK_STAT.PLLA_LOCK, R.CLK_STAT.XOK] ∧
      t = { s with regs := t.regs, tb := { s.tb with now := 0, run := true, latch := [] } }) ∧
  (∀ (which : PllBC) (s : State), s.coreRuns = true → s.bit R.CLK_STAT.PLLA_LOCK = true →
    ∃ u : State, exec (.pllBCLock which) s = .next u.wakeToLoad ∧
      u.bit (if which = .b then R.CLK_STAT.PLLB_LOCK else R.CLK_STAT.PLLC_LOCK) = true ∧
      s.onlyFields u [if which = .b then R.CLK_STAT.PLLB_LOCK else R.CLK_STAT.PLLC_LOCK] ∧ s.onlyRegsDiffer u) ∧
  (∀ (up down : BitVec 68) (s : State), s.sys.mode = .wake → s.coreRuns = true →
    ∃ u : State, exec (.resistorCheckDone up down) s = .next u.wakeToLoad ∧
      (∀ d g : Nat, d < 4 → g < 16 → bitsAt (u.get (R.PWM_SCHK.CODE d)) (2 * g) 2 =
        resistorCode (up.getLsbD (17 * d + g)) (down.getLsbD (17 * d + g))) ∧
      (∀ d : Nat, d < 4 → u.get (R.PWM_SCHKD.DCODE d) =
        resistorCode (up.getLsbD (17 * d + 16)) (down.getLsbD (17 * d + 16)) ∧ u.bit (R.PWM_SCHKD.DONE d) = true) ∧
      s.onlyFields u ((List.range 4).flatMap fun d => [R.PWM_SCHK.CODE d, R.PWM_SCHKD.DCODE d, R.PWM_SCHKD.DONE d]) ∧
      s.onlyRegsDiffer u) ∧
  (∀ s : State, s.coreRuns = true → s.bit R.CLK_STAT.PLLC_LOCK = true →
    ∃ t : State, exec .pllCLockLoss s = .next t ∧ t.bit R.CLK_STAT.PLLC_LOCK = false ∧ s.onlyFields t [R.CLK_STAT.PLLC_LOCK] ∧
      t = { s with regs := t.regs, tb := { s.tb with retry := true } }) ∧
  (∀ s : State, s.tb.retry = true → s.pwr.supplyHeld = false →
    ∃ u : State, exec (.pllCRetry true) s = .next u.wakeToLoad ∧ u.bit R.CLK_STAT.PLLC_LOCK = true ∧
      s.onlyFields u [R.CLK_STAT.PLLC_LOCK] ∧ u = { s with regs := u.regs, tb := { s.tb with retry := false } }) ∧
  (∀ (locked : Bool) (s : State), ¬(locked = true ∧ s.tb.retry = true ∧ s.pwr.supplyHeld = false) →
    exec (.pllCRetry locked) s = .next s) ∧
  (∀ s : State, ¬(s.coreRuns = true ∧ s.tb.run = true) → exec .trimUpdate s = .next s) ∧
  (∀ s : State, s.coreRuns = true → s.tb.run = true →
    ∃ t : State, exec .trimUpdate s = .next t ∧ s.onlyFields t [R.CLK_STAT.TRIMHOLD] ∧
      t.bit R.CLK_STAT.TRIMHOLD = s.thmBroken 7 ∧ ((s.thmBroken 7 = true ∨ s.adc.ts7 = none) → s.onlyRegsDiffer t) ∧
      (∀ x : Int, s.thmBroken 7 = false → s.adc.ts7 = some x →
        t.tb.trimFresh = false ∧ ∃ tie : Bool,
          t.tb.trimIdx = trimNext s.tb.trimFresh s.tb.trimIdx (trimNearest (s.dieTemp 7 x) tie)) ∧
      t = { s with regs := t.regs, tb := { s.tb with trimIdx := t.tb.trimIdx, trimFresh := t.tb.trimFresh },
                   freeCtr := t.freeCtr })

/-- WAKE passes to LOAD, with the discovery of the flash, exactly when all three PLLs are locked and every domain's resistor check is done (11_modes.md R248; 12_image_and_start.md R265). -/
def Obligations.WakeEndsInLoad : Prop :=
  ∀ s : State,
    (s.sys.mode = .wake → s.bit R.CLK_STAT.PLLA_LOCK = true → s.bit R.CLK_STAT.PLLB_LOCK = true →
      s.bit R.CLK_STAT.PLLC_LOCK = true → (∀ d : Nat, d < 4 → s.bit (R.PWM_SCHKD.DONE d) = true) →
      s.wakeToLoad.sys.mode = .load ∧ s.wakeToLoad.get R.SYS_MODE.PREV = modeCode .wake ∧
        s.wakeToLoad.img.phase = .discover) ∧
    (¬(s.sys.mode = .wake ∧ s.bit R.CLK_STAT.PLLA_LOCK = true ∧ s.bit R.CLK_STAT.PLLB_LOCK = true ∧
      s.bit R.CLK_STAT.PLLC_LOCK = true ∧ (∀ d : Nat, d < 4 → s.bit (R.PWM_SCHKD.DONE d) = true)) → s.wakeToLoad = s)

/-- A read of TB_NOW_LO latches the high word for its own master only (02_time_base_and_clocks.md R37). -/
def Obligations.TimeBaseHighWordIsLatchedPerMaster : Prop :=
  (∀ (m : Nat) (s : State), s.coreRuns = true →
    ∃ t : State, exec (.tbNowLoRead m) s = .next t ∧ t.tbLatch m = BitVec.ofNat 32 (s.now / 2 ^ 32) ∧
      (∀ k : Nat, k ≠ m → t.tbLatch k = s.tbLatch k) ∧ t = { s with tb := { s.tb with latch := t.tb.latch } }) ∧
  (∀ (m : Nat) (s : State), s.coreRuns = false → exec (.tbNowLoRead m) s = .next s)

/-- The hold test starts with an injected conversion, ends with V0 and DROOP, and times out to HOLDLOW (13_supply_events.md R306; 13_supply_events.md R308; 07_feedback_converter.md R173). -/
def Obligations.HoldTestMeasuresTheHoldCapacitor : Prop :=
  (∀ s : State, (s.sys.mode = .load ∨ s.sys.mode = .selftest) → s.bit R.ADC_CALSTAT.INIT = true → s.pwr.vauxGood = true →
    s.pwr.htRun = false → s.bit R.PWR_STAT.HTDONE = false → s.pwr.htOver = false → s.pwr.holdRdy ≠ some false →
    s.pwr.supplyHeld = false →
    ∃ t : State, exec .holdTestStart s = .next t ∧
      t.pwr = { s.pwr with htRun := true, holdRdy := none, charger := false, sink := true } ∧
      (s.injPend.length < 8 → t.adc.inj = s.injPend ++ [{ code := 0x68, org := 1, marked := false }]) ∧
      (8 ≤ s.injPend.length → t.adc.inj = s.adc.inj ∧ t.bit R.ADC_INJSTAT.REJ = true) ∧
      s.onlyFields t [R.ADC_INJSTAT.REJ] ∧ t = { s with regs := t.regs, pwr := t.pwr, adc := { s.adc with inj := t.adc.inj } }) ∧
  (∀ s : State, ¬((s.sys.mode = .load ∨ s.sys.mode = .selftest) ∧ s.bit R.ADC_CALSTAT.INIT = true ∧ s.pwr.vauxGood = true ∧
    s.pwr.htRun = false ∧ s.bit R.PWR_STAT.HTDONE = false ∧ s.pwr.htOver = false ∧ s.pwr.holdRdy ≠ some false ∧
    s.pwr.supplyHeld = false) → exec .holdTestStart s = .next s) ∧
  (∀ (code : BitVec 16) (s : State), s.pwr.htRun = true → s.pwr.supplyHeld = false →
    ∃ u : State, exec (.holdTestEnd code) s = .next (if s.adc.refNext.isSome then u.refChange else u) ∧
      u.pwr = { s.pwr with htRun := false, charger := s.pwr.vauxGood, sink := false,
                           holdRdy := if 816 ≤ code.toInt then some true else none } ∧
      u.get R.PWR_HOLD.DROOP = bitsN 16 (s.getS R.PWR_HOLD.V0 - code.toInt) ∧ u.bit R.PWR_STAT.HTDONE = true ∧
      ((s.getS R.PWR_HOLD.V0 < 816 ∨ 1064 < s.getS R.PWR_HOLD.V0 - code.toInt) → u.bit R.PWR_STAT.HOLDLOW = true) ∧
      (¬(s.getS R.PWR_HOLD.V0 < 816 ∨ 1064 < s.getS R.PWR_HOLD.V0 - code.toInt) →
        u.bit R.PWR_STAT.HOLDLOW = s.bit R.PWR_STAT.HOLDLOW) ∧
      s.onlyFields u ([R.PWR_HOLD.DROOP, R.PWR_STAT.HTDONE, R.PWR_STAT.HOLDLOW, R.ADC_INJSTAT.REJ] ++ evFields) ∧
      u = { s with regs := u.regs, fls := u.fls, pwr := u.pwr, adc := { s.adc with inj := u.adc.inj } }) ∧
  (∀ (code : BitVec 16) (s : State), ¬(s.pwr.htRun = true ∧ s.pwr.supplyHeld = false) → exec (.holdTestEnd code) s = .next s) ∧
  (∀ s : State, s.coreRuns = true → s.pwr.holdRdy ≠ some true → s.pwr.htRun = false → s.pwr.htOver = false →
    s.bit R.PWR_STAT.HTDONE = false →
    ∃ t : State, exec .holdTestTimeout s = .next t ∧ t.get R.PWR_HOLD.DROOP = 0xFFFF ∧ t.bit R.PWR_STAT.HOLDLOW = true ∧
      t.pwr = { s.pwr with htOver := true } ∧ s.onlyFields t ([R.PWR_HOLD.DROOP, R.PWR_STAT.HOLDLOW] ++ evFields) ∧
      t = { s with regs := t.regs, fls := t.fls, pwr := t.pwr }) ∧
  (∀ s : State, ¬(s.coreRuns = true ∧ s.pwr.holdRdy ≠ some true ∧ s.pwr.htRun = false ∧ s.pwr.htOver = false ∧
    s.bit R.PWR_STAT.HTDONE = false) → exec .holdTestTimeout s = .next s)

/-- Each SYS_REQ command sets its own field of SYS_REQ, and the device follows the requests (11_modes.md R249; 11_modes.md R250; 11_modes.md R255; 11_modes.md R256; 11_modes.md R258; 11_modes.md R262). -/
def Obligations.SystemRequestsSetTheirFieldOfSysReq : Prop :=
  (∀ (on : Bool) (s : State), s.coreRuns = true →
    ∃ u : State, exec (.sysReqHold on) s = .next u.settle ∧ u.bit R.SYS_REQ.HOLD = on ∧ s.onlyFields u [R.SYS_REQ.HOLD] ∧
      s.onlyRegsDiffer u) ∧
  (∀ (on : Bool) (s : State), s.coreRuns = true →
    ∃ u : State, exec (.sysReqFixed on) s = .next u.settle ∧ u.bit R.SYS_REQ.FIXED = on ∧ s.onlyFields u [R.SYS_REQ.FIXED] ∧
      s.onlyRegsDiffer u) ∧
  (∀ (on : Bool) (s : State), s.coreRuns = true →
    ∃ u : State, exec (.sysReqDerate on) s = .next u.settle ∧ u.bit R.SYS_REQ.DERATE = on ∧ s.onlyFields u [R.SYS_REQ.DERATE] ∧
      s.onlyRegsDiffer u) ∧
  (∀ (on : Bool) (s : State), s.coreRuns = true →
    ∃ u : State, exec (.sysReqEmute on) s = .next u.settle ∧ u.bit R.SYS_REQ.EMUTE = on ∧ s.onlyFields u [R.SYS_REQ.EMUTE] ∧
      s.onlyRegsDiffer u) ∧
  (∀ (mask : BitVec 4) (s : State), s.coreRuns = true →
    ∃ u : State, exec (.sysReqMute mask) s = .next u.settle ∧ u.get R.SYS_REQ.MUTE = mask.toNat ∧
      s.onlyFields u [R.SYS_REQ.MUTE] ∧ s.onlyRegsDiffer u) ∧
  (∀ (flt rep : BitVec 4) (s : State), s.coreRuns = true →
    ∃ u : State, exec (.sysReqFlt flt rep) s = .next u.settle ∧ u.get R.SYS_REQ.FLT = flt.toNat ∧
      u.get R.SYS_REQ.FLTR = rep.toNat ∧ s.onlyFields u [R.SYS_REQ.FLT, R.SYS_REQ.FLTR] ∧ s.onlyRegsDiffer u) ∧
  (∀ (on : Bool) (mask rep : BitVec 4) (s : State), s.coreRuns = false →
    exec (.sysReqHold on) s = .next s ∧ exec (.sysReqFixed on) s = .next s ∧ exec (.sysReqDerate on) s = .next s ∧
      exec (.sysReqEmute on) s = .next s ∧ exec (.sysReqMute mask) s = .next s ∧ exec (.sysReqFlt mask rep) s = .next s)

/-- Past PRECHARGE, the running mode is the first of CRANK, DERATE, SERVICE, PLAY_FIXED, PLAY whose condition holds, unless a HOLD cause is in force (11_modes.md R249; 11_modes.md R250). -/
def Obligations.RunningModeFollowsItsFirstTrueCondition : Prop :=
  ∀ s : State, modeRunning s.sys.mode = true → s.sys.past = true → (s.deadJudged && s.allDead) = false →
    s.followMode.sys.mode =
      if s.holdCause then .hold
      else if s.bit R.PWR_STAT.CRK then .crank
      else if s.derateCond || s.sys.derateHeld then .derate
      else if s.sessionOpen then .service
      else if s.bit R.SYS_REQ.FIXED then .playFixed
      else .play

/-- DERATE_EXIT ends the held derating, ENSEMBLE_WAIT_TIMEOUT ends the wait for the ensemble, NMUTE_CHANGE notes the ball (11_modes.md R249; 11_modes.md R255; 11_modes.md R257; 11_modes.md R263). -/
def Obligations.ModeTimersAndTheMuteBall : Prop :=
  (∀ s : State, s.coreRuns = true → s.sys.derateHeld = true → s.derateCond = false →
    exec .derateExit s = .next (State.settle { s with sys := { s.sys with derateHeld := false } })) ∧
  (∀ s : State, ¬(s.coreRuns = true ∧ s.sys.derateHeld = true ∧ s.derateCond = false) → exec .derateExit s = .next s) ∧
  (∀ s : State, s.coreRuns = true → (s.sys.mode = .precharge ∨ s.sys.mode = .crank) → s.sys.past = false → s.startReady = false →
    s.sys.startNext = 0 → s.sys.ensWaitOver = false →
    ∃ u : State, exec .ensembleWaitTimeout s = .next u.settle ∧ u.sys = { s.sys with ensWaitOver := true } ∧
      s.onlyFields u evFields ∧ u = { s with regs := u.regs, fls := u.fls, sys := u.sys }) ∧
  (∀ s : State, ¬(s.coreRuns = true ∧ (s.sys.mode = .precharge ∨ s.sys.mode = .crank) ∧ s.sys.past = false ∧ s.startReady = false ∧
    s.sys.startNext = 0 ∧ s.sys.ensWaitOver = false) → exec .ensembleWaitTimeout s = .next s) ∧
  (∀ (low : Bool) (s : State), s.coreRuns = true →
    exec (.nmuteChange low) s = .next (State.settle { s with sys := { s.sys with nmuteLow := low } })) ∧
  (∀ (low : Bool) (s : State), s.coreRuns = false → exec (.nmuteChange low) s = .next s)

/-- Driver enable, driver wake, the precharge time-out and the release in OFF act on their own domain (06_edges_and_phases.md R150; 11_modes.md R254; 11_modes.md R259; 11_modes.md R263). -/
def Obligations.DomainStartAndRelease : Prop :=
  (∀ (d : Fin 4) (s : State), s.coreRuns = true → (s.dom d).dst = .precharge →
    ∃ u : State, exec (.driverEnable d) s = .next u.refreshBalls ∧ u.dom d = { s.dom d with drvOn := true } ∧
      (∀ k : Nat, k ≠ d → u.dom k = s.dom k) ∧ u = { s with doms := u.doms }) ∧
  (∀ (d : Fin 4) (s : State), s.coreRuns = true → (s.dom d).dst = .precharge → (s.dom d).awake = false →
    ∃ u : State, exec (.driverWake d) s = .next (u.setRun d (0xF0 + 256 * s.get (R.PWM_PHASES.ACT d))).settle ∧
      u.dom d = { s.dom d with awake := true } ∧ (∀ k : Nat, k ≠ d → u.dom k = s.dom k) ∧ u = { s with doms := u.doms }) ∧
  (∀ (d : Fin 4) (s : State), s.coreRuns = true → (s.dom d).dst = .precharge → (s.dom d).railGood = false →
    ∃ u : State, exec (.prechargeTimeout d) s = .next u.settle ∧ (u.dom d).dst = .faulted ∧ u.fcause d = 4 ∧
      (u.dom d).repair = (s.faultReq d).2 ∧ u.get (R.LFC_RUN.RUN d) = 0 ∧ u.get (R.PWM_PHASES.ACT d) = 0 ∧
      (∀ k : Nat, k < 4 → k ≠ d → u.fcause k = s.fcause k ∧ u.dom k = s.dom k) ∧
      s.onlyFields u ([R.SYS_DSTAT.FCAUSE, R.LFC_RUN.RUN d, R.LFC_BANK.PEND d, R.LFC_ZCFG.BUSY d, R.LFC_ZCFG.DONE d, R.LFC_ZCFG.ERR d,
        R.LFC_SELVAL.W d, R.LFC_SEL.WIN d, R.LFC_SEL.WON d, R.PRF_STAT.PSTATE d, R.PWM_PHASES.ACT d, R.PWM_PHASES.CNT d,
        R.PWM_PHASES.SOFT d, R.PWM_PHASES.GLIDE d, R.DRP_CYC.EXC] ++ evFields) ∧
      u = { s with regs := u.regs, doms := u.doms, loops := u.loops, prfs := u.prfs, phases := u.phases, fls := u.fls, dsu := u.dsu }) ∧
  (∀ (d : Fin 4) (s : State), s.coreRuns = true → (s.dom d).dst = .active →
    ∃ t : State, exec (.repairCountClear d) s = .next t ∧ t.rpcnt d = 0 ∧
      (∀ k : Nat, k < 4 → k ≠ d → t.rpcnt k = s.rpcnt k) ∧ s.onlyFields t [R.SYS_DSTAT.RPCNT] ∧ s.onlyRegsDiffer t) ∧
  (∀ (d : Fin 4) (s : State), s.coreRuns = true → (s.dom d).dst = .off →
    ∃ u : State, exec (.offRelease d) s = .next u.refreshBalls ∧ u.dom d = { s.dom d with draining := false } ∧
      (∀ k : Nat, k ≠ d → u.dom k = s.dom k) ∧ u = { s with doms := u.doms }) ∧
  (∀ (d : Fin 4) (s : State),
    (s.coreRuns = false ∨ (s.dom d).dst ≠ .precharge → exec (.driverEnable d) s = .next s) ∧
    (s.coreRuns = false ∨ (s.dom d).dst ≠ .precharge ∨ (s.dom d).awake = true → exec (.driverWake d) s = .next s) ∧
    (s.coreRuns = false ∨ (s.dom d).dst ≠ .precharge ∨ (s.dom d).railGood = true → exec (.prechargeTimeout d) s = .next s) ∧
    (s.coreRuns = false ∨ (s.dom d).dst ≠ .active → exec (.repairCountClear d) s = .next s) ∧
    (s.coreRuns = false ∨ (s.dom d).dst ≠ .off → exec (.offRelease d) s = .next s))

/-- The up-ramp ends at gain 32 768 and enters ACTIVE from PRECHARGE or MUTED; the down-ramp ends at gain 0 (11_modes.md R253; 11_modes.md R255). -/
def Obligations.MuteRampsEndInActiveOrSilence : Prop :=
  (∀ (d : Fin 4) (s : State), s.coreRuns = true → (s.dom d).rampOn = true → (s.dom d).rampDown = true →
    ∃ u : State, exec (.muteRampEnd d) s = .next u.settle ∧ u.dom d = { s.dom d with gm := 0, rampOn := false } ∧
      (∀ k : Nat, k ≠ d → u.dom k = s.dom k) ∧ u = { s with doms := u.doms }) ∧
  (∀ (d : Fin 4) (s : State), s.coreRuns = true → (s.dom d).rampOn = true → (s.dom d).rampDown = false →
    ((s.dom d).dst = .precharge ∨ (s.dom d).dst = .muted) →
    ∃ u : State, exec (.muteRampEnd d) s = .next u.settle ∧ u.dom d = { s.dom d with gm := 32768, rampOn := false, dst := .active } ∧
      (∀ k : Nat, k ≠ d → u.dom k = s.dom k) ∧ s.onlyFields u evFields ∧
      u = { s with doms := u.doms, regs := u.regs, fls := u.fls }) ∧
  (∀ (d : Fin 4) (s : State), s.coreRuns = true → (s.dom d).rampOn = true → (s.dom d).rampDown = false →
    (s.dom d).dst ≠ .precharge → (s.dom d).dst ≠ .muted →
    ∃ t : State, exec (.muteRampEnd d) s = .next t ∧ t.dom d = { s.dom d with gm := 32768, rampOn := false } ∧
      (∀ k : Nat, k ≠ d → t.dom k = s.dom k) ∧ t = { s with doms := t.doms }) ∧
  (∀ (d : Fin 4) (s : State), (s.coreRuns = false ∨ (s.dom d).rampOn = false) → exec (.muteRampEnd d) s = .next s)

/-- At the end of the dwell a repairing domain goes to RELOAD, waits in the queue, or is refused at REPMAX (11_modes.md R259; 11_modes.md R263). -/
def Obligations.FaultedDwellEndReloadsOrGivesUp : Prop :=
  (∀ (d : Fin 4) (s : State), s.coreRuns = true → (s.dom d).dst = .faulted →
    ∃ u : State, exec (.faultedDwellEnd d) s = .next u.settle ∧ u.dom d = { s.dom d with dwellOver := true } ∧
      (∀ k : Nat, k ≠ d → u.dom k = s.dom k) ∧ u = { s with doms := u.doms }) ∧
  (∀ (d : Fin 4) (s : State), (s.coreRuns = false ∨ (s.dom d).dst ≠ .faulted) → exec (.faultedDwellEnd d) s = .next s) ∧
  (∀ (d : Fin 4) (s : State), (s.dom d).dst = .faulted → (s.dom d).repair = true → (s.dom d).dwellOver = true →
    (s.dom d).refused = false → s.sys.reloadQ.contains d.val = false →
    (s.rpcnt d < s.get R.SYS_DCFG.REPMAX → (s.sys.reloadQ ≠ [] ∨ ∃ k : Nat, k < 4 ∧ (s.dom k).dst = .reload) →
      s.followRepair d = { s with sys := { s.sys with reloadQ := s.sys.reloadQ ++ [d.val] } }) ∧
    (s.rpcnt d < s.get R.SYS_DCFG.REPMAX → s.sys.reloadQ = [] → (∀ k : Nat, k < 4 → (s.dom k).dst ≠ .reload) →
      s.followRepair d = s.enterReload d) ∧
    (s.get R.SYS_DCFG.REPMAX ≤ s.rpcnt d → (s.followRepair d).dom d = { s.dom d with refused := true } ∧
      (∀ k : Nat, k ≠ d → (s.followRepair d).dom k = s.dom k) ∧ s.onlyFields (s.followRepair d) evFields ∧
      s.followRepair d = { s with doms := (s.followRepair d).doms, regs := (s.followRepair d).regs, fls := (s.followRepair d).fls })) ∧
  (∀ (d : Fin 4) (s : State), ¬((s.dom d).dst = .faulted ∧ (s.dom d).repair = true ∧ (s.dom d).dwellOver = true ∧
    (s.dom d).refused = false ∧ s.sys.reloadQ.contains d.val = false) → s.followRepair d = s)

/-- A comparator follows its thresholds and hysteresis, and a filter asserts at FTHR of FWIN samples and releases at FWIN - FTHR (08_monitors_and_protection.md R178; 08_monitors_and_protection.md R179; 08_monitors_and_protection.md R180; 08_monitors_and_protection.md R182; 08_monitors_and_protection.md R183; 08_monitors_and_protection.md R194; 07_feedback_converter.md R174). -/
def Obligations.MonitorFiltersFollowTheMajority : Prop :=
  (∀ (m : Fin 42) (levels : List Int) (sampled : List Bool) (l : List (Int × Bool)) (s : State),
    (s.coreRuns = true → s.bit R.ADC_REFCTL.SETTLING = false → exec (.filteredLevelChange m levels sampled) s =
      .next (if filterOk (s.get (R.MON_FILT.FWIN m)) (s.get (R.MON_FILT.FTHR m)) then s.monRun m (levels.zip sampled) else
        { s.monRun m (levels.zip sampled) with freeCtr := (s.monRun m (levels.zip sampled)).freeCtr + 1 })) ∧
    ((s.coreRuns = false ∨ s.bit R.ADC_REFCTL.SETTLING = true) → exec (.filteredLevelChange m levels sampled) s = .next s) ∧
    s.monRun m [] = s ∧ (∀ (x : Int) (b : Bool), s.monRun m ((x, b) :: l) = (s.monInput m x b).settle.monRun m l)) ∧
  (∀ (i : Fin 8) (l : List Bool) (s : State),
    (s.coreRuns = true → exec (.nfltLevelChange i l) s =
      .next (if filterOk (s.get (R.MON_FFILT.FWIN i)) (s.get (R.MON_FFILT.FTHR i)) then s.nfltRun i l else
        { s.nfltRun i l with freeCtr := (s.nfltRun i l).freeCtr + 1 })) ∧
    (s.coreRuns = false → exec (.nfltLevelChange i l) s = .next s) ∧
    s.nfltRun i [] = s ∧ (∀ b : Bool, s.nfltRun i (b :: l) = (s.filterStep (84 + i) false b).settle.nfltRun i l)) ∧
  (∀ (m : Fin 42) (x : Int) (take : Bool) (s u : State) (hi lo : Bool), s.bit (R.MON_ST.TST m) = false → u = s.monInput m x take →
    hi = decide ((((s.get (R.MON_THR.THI m) : Int) - (if s.cmpOn (2 * m + 1) then (s.get (R.MON_THR.HYS m) : Int) else 0) - 512) * 1024 <
      x) ∨ (s.cmpOn (2 * m + 1) = true ∧
        ((s.get (R.MON_THR.THI m) : Int) - (s.get (R.MON_THR.HYS m) : Int) - 512) * 1024 = x)) →
    lo = decide (x < (((s.get (R.MON_THR.TLO m) : Int) + (if s.cmpOn (2 * m) then (s.get (R.MON_THR.HYS m) : Int) else 0) - 512) * 1024) ∨
      (s.cmpOn (2 * m) = true ∧ ((s.get (R.MON_THR.TLO m) : Int) + (s.get (R.MON_THR.HYS m) : Int) - 512) * 1024 = x)) →
    u.cmpOn (2 * m + 1) = hi ∧ u.bit (R.MON_ST.RHI m) = hi ∧ u.cmpOn (2 * m) = lo ∧ u.bit (R.MON_ST.RLO m) = lo ∧
      (take = false → u.history (2 * m + 1) = s.history (2 * m + 1) ∧ u.history (2 * m) = s.history (2 * m) ∧
        u.filtered (2 * m + 1) = s.filtered (2 * m + 1) ∧ u.filtered (2 * m) = s.filtered (2 * m)) ∧
      (take = true → u.history (2 * m + 1) = (hi :: s.history (2 * m + 1)).take 15 ∧
        u.history (2 * m) = (lo :: s.history (2 * m)).take 15) ∧
      s.onlyRegs u [(R.MON_ST.FHI m).addr] ∧ u = { s with regs := u.regs, mon := u.mon }) ∧
  (∀ (i n k : Nat) (held b : Bool) (s u : State), i < 92 → u = s.filterStep i held b → (n, k) = s.filterEff i →
    filterOk n k = true ∧ (filterOk (s.filterSet i).1 (s.filterSet i).2 = true → (n, k) = s.filterSet i) ∧
      u.history i = (b :: s.history i).take 15 ∧ (∀ j : Nat, j ≠ i → u.history j = s.history j) ∧
      u.filtered i = (if held then s.filtered i else if k ≤ asserted (u.history i) n then true
        else if asserted (u.history i) n ≤ n - k then false else s.filtered i) ∧
      s.onlyRegs u [if i < 84 then (R.MON_ST.FHI (i / 2)).addr else R.MON_NFST.FLT.addr] ∧
      u = { s with regs := u.regs, mon := u.mon })

/-- A latch bit written with 1 clears only where its condition is false; a ball that waited out its dead time is refreshed (08_monitors_and_protection.md R190; 08_monitors_and_protection.md R197; 06_edges_and_phases.md R147). -/
def Obligations.LatchesClearOnlyWithoutTheirCondition : Prop :=
  (∀ (m : Fin 42) (w : Word) (s : State), s.coreRuns = true →
    ∃ u : State, exec (.latchClear (.mon m) w) s = .next u.settle ∧
      u.srcLat (2 * m + 1) = (s.srcLat (2 * m + 1) && !(w.getLsbD 5 && !s.srcCond (2 * m + 1))) ∧
      u.srcLat (2 * m) = (s.srcLat (2 * m) && !(w.getLsbD 4 && !s.srcCond (2 * m))) ∧
      s.onlyFields u ([R.MON_ST.LATH m, R.MON_ST.LATL m] ++ evFields) ∧ s.onlyRegsFlsDiffer u) ∧
  (∀ (w : Word) (s : State), s.coreRuns = true →
    ∃ u : State, exec (.latchClear .nfst w) s = .next u.settle ∧
      (∀ i : Nat, i < 8 → u.srcLat (84 + i) = (s.srcLat (84 + i) && !(w.getLsbD (16 + i) && !s.srcCond (84 + i)))) ∧
      s.onlyFields u (R.MON_NFST.LAT :: evFields) ∧ s.onlyRegsFlsDiffer u) ∧
  (∀ (r : LatchReg) (w : Word) (s : State), s.coreRuns = false → exec (.latchClear r w) s = .next s) ∧
  (∀ (d : Fin 4) (g : Fin 17) (s : State), s.coreRuns = true → (s.ball d g).hold = true →
    exec (.assertAfterDeadtime d g) s = .next s.refreshBalls) ∧
  (∀ (d : Fin 4) (g : Fin 17) (s : State), (s.coreRuns = false ∨ (s.ball d g).hold = false) →
    exec (.assertAfterDeadtime d g) s = .next s)

/-- MON_TEST writes select or refuse a test, the mode takes effect at the monitors named, and the automatic test steps and ends (08_monitors_and_protection.md R194; 08_monitors_and_protection.md R195; 08_monitors_and_protection.md R196; 11_modes.md R248). -/
def Obligations.SelfTestCommandsDriveMonTest : Prop :=
  (∀ (w : Word) (s : State), s.coreRuns = true → testWordOk w = true → fldOf w R.MON_TEST.MODE = 0 →
    ∃ u : State, exec (.monTestWrite w) s = .next u.settle ∧ u.get R.MON_TEST.MODE = 0 ∧ u.mon.testPend = false ∧
      (∀ m : Nat, m < 42 → u.bit (R.MON_ST.TST m) = false) ∧ s.onlyRegs u (R.MON_TEST.MODE.addr :: (List.range 42).map fun m => (R.MON_ST.TST m).addr) ∧
      u = { s with regs := u.regs, mon := u.mon }) ∧
  (∀ (w : Word) (s : State), s.coreRuns = true → testWordOk w = true → fldOf w R.MON_TEST.MODE ≠ 0 →
    (testSel (fldOf w R.MON_TEST.MSEL)).all s.testable = true →
    ∃ u : State, exec (.monTestWrite w) s = .next u.settle ∧ u.get R.MON_TEST.MODE = fldOf w R.MON_TEST.MODE ∧
      u.get R.MON_TEST.MSEL = fldOf w R.MON_TEST.MSEL ∧ u.get R.MON_TEST.DSEL = fldOf w R.MON_TEST.DSEL ∧
      u.mon = { s.mon with testPend := true } ∧ s.onlyRegs u [R.MON_TEST.MODE.addr] ∧ u = { s with regs := u.regs, mon := u.mon }) ∧
  (∀ (w : Word) (s : State), s.coreRuns = true → testWordOk w = true → fldOf w R.MON_TEST.MODE ≠ 0 →
    (testSel (fldOf w R.MON_TEST.MSEL)).all s.testable = false →
    ∃ u : State, exec (.monTestWrite w) s = .next u.settle ∧ u.bit R.MON_TEST.TREJ = true ∧
      s.onlyFields u [R.MON_TEST.TREJ] ∧ s.onlyRegsDiffer u) ∧
  (∀ (w : Word) (s : State), s.coreRuns = true → testWordOk w = false → ∃ v : Word, testWordOk v = true ∧
    fldOf v R.MON_TEST.MODE = fldOf w R.MON_TEST.MODE ∧
    exec (.monTestWrite w) s = exec (.monTestWrite v) { s with freeCtr := s.freeCtr + 1 }) ∧
  (∀ s : State, s.coreRuns = true → s.mon.testPend = true →
    ∃ u : State, exec .testModeEffect s = .next u.settle ∧ u.mon.testPend = false ∧
      (∀ m : Nat, m ∈ testSel (s.get R.MON_TEST.MSEL) → u.bit (R.MON_ST.TST m) = true ∧
        (s.mon.autoStep = 0 → m < 42 → (s.get R.MON_TEST.MODE = 2 → u.bit (R.MON_ST.RHI m) = true ∧ u.bit (R.MON_ST.RLO m) = false) ∧
          (s.get R.MON_TEST.MODE = 3 → u.bit (R.MON_ST.RHI m) = false ∧ u.bit (R.MON_ST.RLO m) = true) ∧
          (s.get R.MON_TEST.MODE = 1 → u.bit (R.MON_ST.RHI m) = !s.cmpOn (2 * m + 1) ∧ u.bit (R.MON_ST.RLO m) = !s.cmpOn (2 * m)))) ∧
      u = { s with regs := u.regs, mon := u.mon }) ∧
  (∀ (w : Word) (s : State), (s.coreRuns = false → exec (.monTestWrite w) s = .next s) ∧
    (s.coreRuns = false ∨ s.mon.testPend = false → exec .testModeEffect s = .next s)) ∧
  (∀ (o : SelfTestObs) (s : State), ¬(s.coreRuns = true ∧ s.sys.mode = .selftest ∧ s.bit R.MON_TEST.BUSY = true) →
    exec (.autoSelftestStep o) s = .next s ∧ exec .autoSelftestDone s = .next s) ∧
  (∀ (hi lo : BitVec 42) (s : State), s.coreRuns = true → s.sys.mode = .selftest → s.bit R.MON_TEST.BUSY = true →
    1 ≤ s.mon.autoStep → s.mon.autoStep < 3 →
    ∃ t : State, exec (.autoSelftestStep (.levels hi lo)) s = .next t ∧ t.mon.autoStep = s.mon.autoStep + 1 ∧
      (∀ m : Nat, m < 42 → (hi.getLsbD m, lo.getLsbD m) ≠ s.expectLevels s.mon.autoStep m → t.mon.autoBad.any (fun e => e.1 == m) = true) ∧
      s.onlyFields t ((List.range 42).flatMap fun m => [R.MON_ST.RHI m, R.MON_ST.RLO m]) ∧ t = { s with regs := t.regs, mon := t.mon }) ∧
  (∀ (hi lo : BitVec 42) (s : State), s.coreRuns = true → s.sys.mode = .selftest → s.bit R.MON_TEST.BUSY = true → s.mon.autoStep = 3 →
    ∃ u : State, exec (.autoSelftestStep (.levels hi lo)) s = .next u.settle ∧ u.mon.autoStep = 4 ∧
      u.get R.MON_TEST.DSEL = 0 ∧
      (∀ m : Nat, m < 42 → u.bit (R.MON_ST.TST m) = false ∧ u.bit (R.MON_ST.FHI m) = true ∧ u.bit (R.MON_ST.FLO m) = true) ∧
      u = { s with regs := u.regs, mon := u.mon, adc := u.adc }) ∧
  (∀ (code : BitVec 16) (ovr settle ok : Bool) (s : State), s.coreRuns = true → s.sys.mode = .selftest → s.bit R.MON_TEST.BUSY = true →
    s.mon.autoStep = 4 → s.mon.autoDac < 84 →
    ok = (!ovr && !settle && decide (s.expectDac s.mon.autoDac - 128 ≤ code.toInt) && decide (code.toInt ≤ s.expectDac s.mon.autoDac + 128)) →
    ((ovr || settle) = true → s.mon.autoRep < 3 →
      ∃ t : State, exec (.autoSelftestStep (.readback code ovr settle)) s = .next t ∧
        t.mon = { s.mon with autoRep := s.mon.autoRep + 1 } ∧ s.onlyFields t [R.ADC_INJSTAT.REJ] ∧
        t = { s with regs := t.regs, mon := t.mon, adc := { s.adc with inj := t.adc.inj } }) ∧
    (((ovr || settle) = false ∨ 3 ≤ s.mon.autoRep) →
      ∃ t : State, exec (.autoSelftestStep (.readback code ovr settle)) s = .next t ∧ t.mon.autoDac = s.mon.autoDac + 1 ∧
        t.mon.autoRep = 0 ∧ (s.mon.autoDac < 83 → t.get R.MON_TEST.DSEL = s.mon.autoDac + 1) ∧
        (ok = true → t.mon.autoBad = s.mon.autoBad) ∧
        (ok = false → t.mon.autoBad.any (fun e => e.1 == s.mon.autoDac / 2) = true) ∧
        s.onlyFields t [R.ADC_INJSTAT.REJ, R.MON_TEST.DSEL] ∧
        t = { s with regs := t.regs, mon := t.mon, adc := { s.adc with inj := t.adc.inj } })) ∧
  (∀ s : State, s.coreRuns = true → s.sys.mode = .selftest → s.bit R.MON_TEST.BUSY = true → 84 ≤ s.mon.autoDac →
    ∃ u : State, exec .autoSelftestDone s = .next u.beginPrecharge.settle ∧ u.bit R.MON_TEST.BUSY = false ∧
      u.bit R.MON_TEST.DONE = true ∧ u.bit R.MON_TEST.FAIL = !s.mon.autoBad.isEmpty ∧
      (∀ m : Nat, m < 42 → u.bit (R.MON_ST.STF m) = (tblGet (fun _ => 0) s.mon.autoBad m != 0) ∧ u.bit (R.MON_ST.TST m) = false) ∧
      s.onlyFields u ([R.MON_TEST.BUSY, R.MON_TEST.DONE, R.MON_TEST.FAIL] ++
        ((List.range 42).flatMap fun m => [R.MON_ST.STF m, R.MON_ST.TST m]) ++ evFields) ∧
      u = { s with regs := u.regs, mon := u.mon, fls := u.fls })

/-- A thermal evaluation filters the sample of every input and acts on a shut-down; the last-heat records are written oldest first (14_thermal.md R310; 14_thermal.md R313; 14_thermal.md R314; 14_thermal.md R315; 14_thermal.md R317; 14_thermal.md R318; 14_thermal.md R320). -/
def Obligations.ThermalEvaluationTakesEverySample : Prop :=
  (∀ s : State, s.coreRuns = true → s.bit R.ADC_CALSTAT.INIT = true →
    ∃ v : State, exec .thermalEvaluation s =
        .next (if (v.anyDie 2 && !s.anyDie 2) || (v.anyDie 3 && !s.anyDie 3) then v.shutDown else v.shutDownExit).settle ∧
      (∀ i k : Nat, i < 13 → (k < 2 ∨ (k = 2 ∧ i < 9)) →
        v.filt i k = filtStep (s.filt i k) ((s.thmSample i).map fun q => s.reached i k (s.filt i k).on q)) ∧
      (∀ i n : Nat, i < 13 → n = (match s.thmSample i with
          | some q => if thmValid i q then 0 else min 255 (tblGet (fun _ => 0) s.thm.noS i + 1)
          | none => min 255 (tblGet (fun _ => 0) s.thm.noS i + 1)) →
        tblGet (fun _ => 0) v.thm.noS i = n ∧ v.thmBroken i = (s.thmBroken i || decide (4 ≤ n))) ∧
      v.bit R.THM_STAT.THRT = (List.range 9).any (fun i => v.levelOn i 1) ∧
      (∀ d : Nat, d < 4 → v.get (R.PRF_TCEIL.TCEIL d) =
        if v.bitI R.THM_STAT.NTHR d then v.get (R.THM_NTCB.TCEILT d) else 0xFFFF) ∧
      v = { s with regs := v.regs, thm := v.thm, fls := v.fls, adc := { s.adc with hkNew := [] } }) ∧
  (∀ s : State, s.shutDown.sys = { s.sys with sdHold := true } ∧ s.shutDown.pwr = { s.pwr with vholdSrc := true, charger := false } ∧
    s.shutDown.get R.THM_SD.TOT = min 255 (s.get R.THM_SD.TOT + 1) ∧ s.shutDown.thm.recov = true ∧
    (∃ h : Heat, s.shutDown.fls = { s.fls with heat := s.fls.heat ++ [h] } ∧ h.at_ = s.now) ∧
    s.onlyFields s.shutDown [R.THM_SD.TOT, R.THM_SD.WIN]) ∧
  (∀ s : State, (s.coreRuns = false ∨ s.bit R.ADC_CALSTAT.INIT = false) → exec .thermalEvaluation s = .next s) ∧
  (∀ (h : Heat) (l : List Heat) (s : State), s.fls.heat = h :: l → s.pwr.inh = false →
    ∃ t : State, exec .lastHeatRecord s = .next t ∧ t.fls.heat = l ∧ t.regs = s.regs ∧
      t.fls = { s.fls with heat := l, tal := t.fls.tal } ∧
      (∃ k : Nat, 16 ≤ k ∧ k < 32 ∧ (∃ r : FRec, tblGet (fun _ => .blank) t.fls.tal k = .rcd r ∧ r.code = 0x0B23#16) ∧
        ∀ j : Nat, j ≠ k → tblGet (fun _ => .blank) t.fls.tal j = tblGet (fun _ => .blank) s.fls.tal j) ∧
      t.pwr = (if l = [] then { s.pwr with vholdSrc := false, charger := s.pwr.vauxGood } else s.pwr) ∧
      t = { s with fls := t.fls, pwr := t.pwr }) ∧
  (∀ (h : Heat) (l : List Heat) (s : State), s.fls.heat = h :: l → s.pwr.inh = true → exec .lastHeatRecord s = .next s) ∧
  (∀ s : State, s.fls.heat = [] → exec .lastHeatRecord s =
    .next (if s.pwr.vholdSrc && !s.pwr.pfd then { s with pwr := { s.pwr with vholdSrc := false, charger := s.pwr.vauxGood } } else s))

/-- A slot goes to the frame entry that wins it, else to the oldest injection, the next scan conversion or nobody; a result is delivered once (07_feedback_converter.md R159; 07_feedback_converter.md R160; 07_feedback_converter.md R161; 07_feedback_converter.md R164; 07_feedback_converter.md R165; 07_feedback_converter.md R175). -/
def Obligations.SlotsAndConversionsGoToTheirOwners : Prop :=
  (∀ s : State, s.coreRuns = true → s.bit R.ADC_CALSTAT.INIT = true → s.adc.startSlot ≤ s.now / 4 + 4 →
    (∀ i : Nat, i < 192 → s.entryLive i = false) → (s.now / 4 + 4) % 12 ∉ s.adc.lost →
    ∃ t : State, exec .slotOwnerFix s = .next t ∧
      t.adc.convs = s.adc.convs ++ [Conv.mk (s.now / 4 + 4) (s.sliceAt ((s.now / 4 + 4) % 12))
        (match s.adc.inj.find? (fun q => q.slot.isNone), s.adc.scanLeft with
          | some q, _ => Owner.injected q.code q.org
          | none, (c, q) :: _ => Owner.scan c q
          | none, [] => Owner.idle) none] ∧
      t = { s with adc := t.adc }) ∧
  (∀ (i : Nat) (h : Bool) (s : State), s.coreRuns = true → s.bit R.ADC_CALSTAT.INIT = true → s.adc.startSlot ≤ s.now / 4 + 4 →
    (∀ k : Nat, k < 192 → s.entryLive k = true → s.adcEcc k ≠ 1 ∧ s.adcEcc k ≠ 2) →
    s.slotWinner (s.claims (s.now / 4 + 4)) = some (i, h) → (s.now / 4 + 4) % 12 ∉ s.adc.lost →
    ∃ t : State, exec .slotOwnerFix s = .next t ∧
      t.adc.convs = s.adc.convs ++ [{ slot := s.now / 4 + 4, slice := s.sliceAt ((s.now / 4 + 4) % 12), own := .frame i h }] ∧
      ((∃ c ∈ s.claims (s.now / 4 + 4), c.1 ≠ i) → t.bit R.ADC_STAT.COLL = true) ∧
      ((∀ c ∈ s.claims (s.now / 4 + 4), c.1 = i) → t = { s with adc := t.adc }) ∧
      s.onlyFields t ([R.ADC_STAT.COLL, R.ADC_STAT.CIDX] ++ evFields) ∧
      t = { s with regs := t.regs, fls := t.fls, freeCtr := t.freeCtr, doms := t.doms, adc := { s.adc with convs := t.adc.convs } }) ∧
  (∀ s : State, s.coreRuns = true → s.bit R.ADC_CALSTAT.INIT = true → s.adc.startSlot ≤ s.now / 4 + 4 →
    (∀ i : Nat, i < 192 → s.entryLive i = false) → (s.now / 4 + 4) % 12 ∈ s.adc.lost → exec .slotOwnerFix s = .next s) ∧
  (∀ s : State, ¬(s.coreRuns = true ∧ s.bit R.ADC_CALSTAT.INIT = true ∧ s.adc.startSlot ≤ s.now / 4 + 4) →
    exec .slotOwnerFix s = .next s) ∧
  (∀ (slot : Nat) (b : BitVec 18) (ov : Bool) (c : Conv) (s : State), s.coreRuns = true →
    s.adc.convs.find? (fun x => x.slot == slot) = some c →
    ∃ u : State, exec (.conversionResult slot b ov) s = .next (u.convResult c b ov).settle ∧
      u.adc.convs = s.adc.convs.filter (fun x => x.slot != slot) ∧ u = { s with adc := { s.adc with convs := u.adc.convs } }) ∧
  (∀ (slot : Nat) (b : BitVec 18) (ov : Bool) (s : State),
    (s.coreRuns = false ∨ s.adc.convs.find? (fun x => x.slot == slot) = none) → exec (.conversionResult slot b ov) s = .next s)

/-- Start calibration sets INIT with a spare, or FAIL; a slice calibration makes the spare ready or ends rotation; a swap takes its turn (07_feedback_converter.md R166; 07_feedback_converter.md R167; 07_feedback_converter.md R168; 07_feedback_converter.md R169). -/
def Obligations.CalibrationPutsSlicesInService : Prop :=
  (∀ (cal : List SliceCal) (s : State), s.coreRuns = true → s.tb.run = true → s.bit R.ADC_CALSTAT.INIT = false →
    s.bit R.ADC_CALSTAT.FAIL = false → cal.length = 13 → cal.all calOk = true → s.get R.ADC_CALSTAT.BAD = 0 →
    ∃ u : State, exec (.startCalibrationDone cal) s = .next u.settle ∧ u.bit R.ADC_CALSTAT.INIT = true ∧
      u.bit R.ADC_CALSTAT.FAIL = false ∧ u.get R.ADC_CALSTAT.BAD = 0 ∧ u.get R.ADC_CALSTAT.SPARE = 12 ∧
      u = { s with regs := u.regs, adc := u.adc }) ∧
  (∀ (cal : List SliceCal) (s : State), s.coreRuns = true → s.tb.run = true → s.bit R.ADC_CALSTAT.INIT = false →
    s.bit R.ADC_CALSTAT.FAIL = false → cal.length = 13 → (cal.filter calOk).length < 12 → s.get R.ADC_CALSTAT.BAD = 0 →
    ∃ u : State, exec (.startCalibrationDone cal) s = .next u.settle ∧ u.bit R.ADC_CALSTAT.FAIL = true ∧
      u.bit R.ADC_CALSTAT.INIT = false ∧ u.get R.ADC_CALSTAT.SPARE = 15 ∧ u.get R.THM_STAT.BRK = 511 ∧
      u.get R.THM_STAT.NBRK = 15 ∧ u = { s with regs := u.regs, adc := u.adc, fls := u.fls, freeCtr := u.freeCtr }) ∧
  (∀ (cal : SliceCal) (s : State), s.coreRuns = true → s.bit R.ADC_CALSTAT.INIT = true → s.bit R.ADC_CALSTAT.NOSPARE = false →
    s.adc.spareOk = false → calOk cal = true → (s.adc.swapWait = false ∨ s.swapAllowed = false) →
    exec (.sliceCalibrationDone cal) s = .next { s with adc := { s.adc with calNew := some (calOf cal), spareOk := true } }) ∧
  (∀ (cal : SliceCal) (s : State), s.coreRuns = true → s.bit R.ADC_CALSTAT.INIT = true → s.bit R.ADC_CALSTAT.NOSPARE = false →
    s.adc.spareOk = false → calOk cal = true → s.adc.swapWait = true → s.swapAllowed = true →
    ∃ t : State, exec (.sliceCalibrationDone cal) s = .next t ∧ t.bit R.ADC_CALSTAT.ROTPEND = true ∧ t.adc.swapWait = false ∧
      t.adc.spareOk = true ∧ t.adc.calNew = some (calOf cal) ∧ s.onlyFields t [R.ADC_CALSTAT.ROTPEND] ∧
      t = { s with regs := t.regs, adc := t.adc }) ∧
  (∀ (cal : SliceCal) (s : State), s.coreRuns = true → s.bit R.ADC_CALSTAT.INIT = true → s.bit R.ADC_CALSTAT.NOSPARE = false →
    s.adc.spareOk = false → calOk cal = false →
    ∃ t : State, exec (.sliceCalibrationDone cal) s = .next t ∧ t.bit R.ADC_CALSTAT.NOSPARE = true ∧
      t.get R.ADC_CALSTAT.SPARE = 15 ∧ t.adc = { s.adc with spareOk := false, swapWait := false } ∧
      (s.get R.ADC_CALSTAT.SPARE < 13 → t.bitI R.ADC_CALSTAT.BAD (s.get R.ADC_CALSTAT.SPARE) = true) ∧
      s.onlyFields t ([R.ADC_CALSTAT.BAD, R.ADC_CALSTAT.NOSPARE, R.ADC_CALSTAT.SPARE] ++ evFields) ∧
      t = { s with regs := t.regs, fls := t.fls, freeCtr := t.freeCtr, adc := t.adc }) ∧
  (∀ (cal : SliceCal) (s : State), (s.coreRuns = false ∨ s.bit R.ADC_CALSTAT.INIT = false ∨ s.bit R.ADC_CALSTAT.NOSPARE = true ∨
    s.adc.spareOk = true) → exec (.sliceCalibrationDone cal) s = .next s) ∧
  (∀ (c : Instr) (s : State), c = .swapRequest ∨ c = .now → s.rotates = true → s.bit R.ADC_CALSTAT.ROTPEND = false →
    ∃ t : State, exec c s = .next t ∧ t.bit R.ADC_CALSTAT.ROTPEND = s.adc.spareOk ∧ t.adc.swapWait = !s.adc.spareOk ∧
      s.onlyFields t [R.ADC_CALSTAT.ROTPEND] ∧ t = { s with regs := t.regs, adc := t.adc }) ∧
  (∀ (c : Instr) (s : State), c = .swapRequest ∨ c = .now → (s.rotates = false ∨ s.bit R.ADC_CALSTAT.ROTPEND = true) →
    exec c s = .next s) ∧
  (∀ s : State, s.coreRuns = true → s.bit R.ADC_CALSTAT.ROTPEND = true →
    s.adc.inj.any (fun q => q.marked && q.slot.isNone) = false → s.adc.swapAt ≤ s.now → s.bit R.ADC_CALCTL.ROTEN = true →
    s.adc.lost = [] → s.get R.ADC_CALSTAT.NEXTPOS < 12 → s.get R.ADC_CALSTAT.SPARE < 13 →
    ∃ t : State, exec .swapTakesEffect s = .next t ∧ t.bit R.ADC_CALSTAT.ROTPEND = false ∧
      t.sliceAt (s.get R.ADC_CALSTAT.NEXTPOS) = s.get R.ADC_CALSTAT.SPARE ∧
      t.get R.ADC_CALSTAT.SPARE = s.sliceAt (s.get R.ADC_CALSTAT.NEXTPOS) ∧
      t.get R.ADC_CALSTAT.NEXTPOS = (s.get R.ADC_CALSTAT.NEXTPOS + 1) % 12 ∧
      t = { s with regs := t.regs, adc := t.adc }) ∧
  (∀ s : State, (s.coreRuns = false ∨ s.bit R.ADC_CALSTAT.ROTPEND = false ∨ s.now < s.adc.swapAt ∨
    (s.bit R.ADC_CALCTL.ROTEN = false ∧ s.adc.lost = [])) → exec .swapTakesEffect s = .next s)

/-- Injection, scan start, queue read, reference change and correction commit do what R170 to R177 lay down (07_feedback_converter.md R157; 07_feedback_converter.md R170; 07_feedback_converter.md R172; 07_feedback_converter.md R173; 07_feedback_converter.md R174; 07_feedback_converter.md R177). -/
def Obligations.ConverterRequestsQueueReadAndCommit : Prop :=
  (∀ (code : BitVec 8) (s : State), s.coreRuns = true → scanCode code.toNat = true → s.injPend.length < 8 →
    exec (.adcInj code) s =
      .next { s with adc := { s.adc with inj := s.injPend ++ [{ code := code.toNat, org := 0, marked := false }] } }) ∧
  (∀ (code : BitVec 8) (s : State), s.coreRuns = true → scanCode code.toNat = true → 8 ≤ s.injPend.length →
    ∃ t : State, exec (.adcInj code) s = .next t ∧ t.bit R.ADC_INJSTAT.REJ = true ∧ s.onlyFields t [R.ADC_INJSTAT.REJ] ∧
      s.onlyRegsDiffer t) ∧
  (∀ (code : BitVec 8) (s : State), s.coreRuns = true → scanCode code.toNat = false →
    ∃ k : BitVec 8, scanCode k.toNat = true ∧
      exec (.adcInj code) s = exec (.adcInj k) { s with freeCtr := s.freeCtr + 1 }) ∧
  (∀ s : State, s.coreRuns = true → s.bit R.ADC_CALSTAT.INIT = true → s.scanRuns = false →
    ∃ t : State, exec .scanCycleStart s = .next t ∧
      t.adc = { s.adc with scanLeft := s.scanList, scanPend := false } ∧ (∀ e ∈ s.scanList, scanCode e.1 = true) ∧
      (s.scanBad = false → s.scanList = ((List.range 32).filter fun i => s.bit (R.ADC_SCAN.EN i)).map fun i =>
        (s.get (R.ADC_SCAN.CODE i), s.bit (R.ADC_SCAN.QEN i))) ∧
      s.onlyFields t (R.ADC_STAT.SCANLATE :: evFields) ∧
      t = { s with regs := t.regs, fls := t.fls, freeCtr := t.freeCtr, adc := t.adc }) ∧
  (∀ s : State, s.coreRuns = true → s.bit R.ADC_CALSTAT.INIT = true → s.scanRuns = true →
    exec .scanCycleStart s = .next { s with adc := { s.adc with scanPend := true } }) ∧
  (∀ s : State, (s.coreRuns = false ∨ s.bit R.ADC_CALSTAT.INIT = false) → exec .scanCycleStart s = .next s) ∧
  (∀ (m : Fin 82) (w : Word) (k : Nat) (q : List (Word × Nat)) (s : State), s.coreRuns = true → s.adc.queue = (w, k) :: q →
    ∃ t : State, exec (.adcQdataRead m) s = .next t ∧ t.adc.queue = q ∧
      tblGet (fun _ => 0) t.adc.qts m = BitVec.ofNat 32 k ∧
      (∀ l : Nat, l ≠ m → tblGet (fun _ => 0) t.adc.qts l = tblGet (fun _ => 0) s.adc.qts l) ∧
      t = { s with adc := { s.adc with queue := t.adc.queue, qts := t.adc.qts } }) ∧
  (∀ (m : Fin 82) (s : State), s.adc.queue = [] → exec (.adcQdataRead m) s = .next s) ∧
  (∀ (src : BitVec 2) (s : State), s.coreRuns = true → (∃ d : Nat, d < 4 ∧ s.get (R.LFC_RUN.RUN d) ≠ 0) →
    ∃ u : State, exec (.referenceSelect src) s = .next u.settle ∧ u.bit R.ADC_STAT.REFREJ = true ∧
      s.onlyFields u (R.ADC_STAT.REFREJ :: evFields) ∧ s.onlyRegsFlsDiffer u) ∧
  (∀ (src : BitVec 2) (s : State), s.coreRuns = true → (∀ d : Nat, d < 4 → s.get (R.LFC_RUN.RUN d) = 0) →
    s.pwr.htRun = false →
    ∃ u : State, exec (.referenceSelect src) s = .next u.settle ∧ u.get R.ADC_REFCTL.SRC = src.toNat ∧
      u.bit R.ADC_REFCTL.SETTLING = true ∧ u.adc.refAt = some (((s.now / 48 + 1) * 48 : Nat) : Int) ∧
      u = { s with regs := u.regs, adc := u.adc, mon := u.mon }) ∧
  (∀ s : State, s.coreRuns = true → s.bit R.ADC_REFCTL.SETTLING = true →
    ∃ u : State, exec .referenceSettled s = .next u.settle ∧ u.bit R.ADC_REFCTL.SETTLING = false ∧
      (∀ m : Nat, m < 42 → u.bit (R.MON_ST.FHI m) = true ∧ u.bit (R.MON_ST.FLO m) = true) ∧
      u = { s with regs := u.regs, mon := u.mon }) ∧
  (∀ s : State, (s.coreRuns = false ∨ s.bit R.ADC_REFCTL.SETTLING = false) → exec .referenceSettled s = .next s) ∧
  (∀ (code : BitVec 8) (w : Word) (s : State), s.coreRuns = true → corrCode code.toNat = true →
    (∀ d : Nat, codeDom code.toNat = some d → dstRuns (s.dom d).dst = false) →
    ∃ t : State, exec (.adcCorrsCommit code w) s = .next t ∧ t.reg (corrAddr code.toNat).1 = s.adc.corrHold ∧
      s.onlyRegs t [(corrAddr code.toNat).1, (corrAddr code.toNat).2] ∧ t = { s with regs := t.regs, adc := t.adc }) ∧
  (∀ (code : BitVec 8) (w : Word) (d : Nat) (s : State), s.coreRuns = true → corrCode code.toNat = true →
    codeDom code.toNat = some d → dstRuns (s.dom d).dst = true →
    ∃ t : State, exec (.adcCorrsCommit code w) s = .next t ∧ s.onlyRegs t [(corrAddr code.toNat).1, (corrAddr code.toNat).2] ∧
      t = { s with regs := t.regs, adc := t.adc, freeCtr := s.freeCtr + 1 }) ∧
  (∀ (code : BitVec 8) (w : Word) (s : State), (s.coreRuns = false ∨ corrCode code.toNat = false) →
    exec (.adcCorrsCommit code w) s = .next s)

/-- rnd is round half up at bit 31, saturated to s32, and marks exactly the saturations; accumulators stay within 80 bits (03_kareo_loop_fabric.md R56; 03_kareo_loop_fabric.md R57; 03_kareo_loop_fabric.md R64). -/
def Obligations.RoundingLeavesTheAccumulatorOnce : Prop :=
  (∀ a : Int, rnd a = (if 2147483647 < (a + 2 ^ 30) / 2 ^ 31 then 2147483647
      else if (a + 2 ^ 30) / 2 ^ 31 < -2147483648 then -2147483648 else (a + 2 ^ 30) / 2 ^ 31) ∧
    -2147483648 ≤ rnd a ∧ rnd a ≤ 2147483647 ∧
    (rndSat a = true ↔ 2147483647 < (a + 2 ^ 30) / 2 ^ 31 ∨ (a + 2 ^ 30) / 2 ^ 31 < -2147483648)) ∧
  (∀ (a : Acc) (x : Int), -(2 ^ 79) ≤ (accAdd a x).v ∧ (accAdd a x).v < 2 ^ 79 ∧ (a.sat = true → (accAdd a x).sat = true)) ∧
  (∀ f : Int, 0 < (recip f).1 + 1 ∧ (recip f).1 ≤ 2147483647)

/-- A sample instant opens a sample; its update or its miss follows as the pre-sample stage is ready or not (03_kareo_loop_fabric.md R59; 03_kareo_loop_fabric.md R60; 03_kareo_loop_fabric.md R62; 03_kareo_loop_fabric.md R64; 03_kareo_loop_fabric.md R76; 03_kareo_loop_fabric.md R77; 04_loop_nesting_and_plausibility.md R93). -/
def Obligations.SamplesOpenUpdateOrMiss : Prop :=
  (∀ (d : Fin 4) (j : Fin 12) (s : State), s.coreRuns = true → s.running d j = true → (s.loop (loopNo d j)).opn = false →
    ∃ t : State, exec (.sampleInstant d j) s = .next t ∧ (t.loop (loopNo d j)).opn = true ∧
      (t.loop (loopNo d j)).tS = s.now ∧ (t.loop (loopNo d j)).rS = s.setPoint d j ∧
      (t.loop (loopNo d j)).yHave = decide (j.val = 5) ∧
      (∀ l : Nat, l ≠ loopNo d j → t.loop l = s.loop l) ∧ (∀ k : Nat, k ≠ d → t.dom k = s.dom k) ∧
      s.onlyFields t [R.LFC_CLAMP.RNLIM d, R.LFC_SAT.RSAT d] ∧
      t = { s with doms := t.doms, loops := t.loops, regs := t.regs }) ∧
  (∀ (d : Fin 4) (j : Fin 12) (s : State), s.canUpdate d j = true → s.loopBad d j = false →
    exec (.loopUpdate d j) s = .next (s.update d j).settle) ∧
  (∀ (d : Fin 4) (j : Fin 12) (s : State), s.canUpdate d j = true → s.loopBad d j = true →
    exec (.loopUpdate d j) s = .next ({ s.update d j with freeCtr := (s.update d j).freeCtr + 1 } : State).settle) ∧
  (∀ (d : Fin 4) (j : Fin 12) (s : State), s.coreRuns = true → s.running d j = true → (s.loop (loopNo d j)).opn = true →
    (s.loop (loopNo d j)).preReady = false → exec (.missDecision d j) s = .next (s.miss d j).settle) ∧
  (∀ (d : Fin 4) (j : Fin 12) (s : State), (s.coreRuns = false ∨ s.running d j = false) →
    exec (.sampleInstant d j) s = .next s ∧ exec (.loopUpdate d j) s = .next s ∧ exec (.missDecision d j) s = .next s) ∧
  (∀ (d : Fin 4) (j : Fin 12) (s : State), (s.loop (loopNo d j)).opn = true → exec (.sampleInstant d j) s = .next s) ∧
  (∀ (d : Fin 4) (j : Fin 12) (s : State), (s.loop (loopNo d j)).opn = false →
    exec (.loopUpdate d j) s = .next s ∧ exec (.missDecision d j) s = .next s)

/-- A miss counts up the run of misses; beyond the limit the loop faults and its RUN bit clears (03_kareo_loop_fabric.md R76; 03_kareo_loop_fabric.md R77; 03_kareo_loop_fabric.md R78). -/
def Obligations.MissedSampleCountsAndKeepsTheLoop : Prop :=
  (∀ (d : Fin 4) (j : Fin 12) (s : State),
    ((s.missCount d j).loop (loopNo d j)).missRun = (s.loop (loopNo d j)).missRun + 1 ∧
      (s.missCount d j).bit (R.LFC_STAT.MISS d) = true ∧ (s.missCount d j).bitI (R.LFC_STAT.MISSL d) j = true ∧
      (s.missCount d j).get (R.LFC_MISSCNT.TOTAL d) =
        min (2 ^ ((R.LFC_MISSCNT.TOTAL d).hi + 1 - (R.LFC_MISSCNT.TOTAL d).lo) - 1) (s.get (R.LFC_MISSCNT.TOTAL d) + 1) ∧
      min 255 ((s.loop (loopNo d j)).missRun + 1) ≤ (s.missCount d j).get (R.LFC_MISSCNT.MAXRUN d)) ∧
  (∀ (d : Fin 4) (j : Fin 12) (s : State), s.running d j = true → s.missLim d j ≤ (s.loop (loopNo d j)).missRun →
    (s.miss d j).bitI (R.LFC_FAULT.LF d) j = true ∧ (s.miss d j).running d j = false)

/-- The array takes the job of the earliest deadline, the lowest loop among equals; the feed instant moves the reference interval (03_kareo_loop_fabric.md R74; 03_kareo_loop_fabric.md R63; 03_kareo_loop_fabric.md R79). -/
def Obligations.BackgroundJobsRunEarliestDeadlineFirst : Prop :=
  (∀ (d : Fin 4) (s : State), s.coreRuns = true → (s.dom d).jobRun = none → s.releasedJobs d ≠ [] →
    ∃ (t : State) (b : Nat × Nat), exec (.backgroundJob d) s = .next t ∧ b ∈ s.releasedJobs d ∧
      (∀ c ∈ s.releasedJobs d, b.2 < c.2 ∨ (b.2 = c.2 ∧ b.1 ≤ c.1)) ∧ (t.dom d) = { s.dom d with jobRun := some b.1 } ∧
      (∀ k : Nat, k ≠ d → t.dom k = s.dom k) ∧ t = { s with doms := t.doms }) ∧
  (∀ (d : Fin 4) (s : State), (s.coreRuns = false ∨ s.releasedJobs d = [] ∨ (s.dom d).jobRun.isSome = true) →
    exec (.backgroundJob d) s = .next s) ∧
  (∀ (d : Fin 4) (j : Nat) (s : State), s.coreRuns = true → (s.dom d).jobRun = some j →
    ∃ u : State, exec (.backgroundJobDone d) s = .next u.settle ∧ (u.dom d).jobRun = none ∧
      (∀ k : Nat, k ≠ d → u.dom k = (s.jobDone d j).dom k) ∧
      u = { s.jobDone d j with doms := u.doms, freeCtr := (s.jobDone d j).freeCtr + (if s.loopBad d j then 1 else 0) }) ∧
  (∀ (d : Fin 4) (s : State), (s.coreRuns = false ∨ (s.dom d).jobRun = none) → exec (.backgroundJobDone d) s = .next s) ∧
  (∀ (d : Fin 4) (s : State), s.coreRuns = true →
    ∃ t : State, exec (.feedInstant d) s = .next t ∧
      (∀ k : Nat, k < 4 → (t.loop (loopNo d k)).tk = s.now ∧ (t.loop (loopNo d k)).ra = (s.loop (loopNo d k)).rk ∧
        (t.loop (loopNo d k)).rk = ((s.loop (loopNo d k)).rNew).getD (s.loop (loopNo d k)).rk ∧
        (t.loop (loopNo d k)).rNew = none) ∧
      (∀ l : Nat, (∀ k : Nat, k < 4 → l ≠ loopNo d k) → t.loop l = s.loop l) ∧
      s.onlyFields t (R.LFC_STAT.REFLATE d :: evFields) ∧
      t = { s with loops := t.loops, regs := t.regs, fls := t.fls, freeCtr := t.freeCtr }) ∧
  (∀ (d : Fin 4) (s : State), s.coreRuns = false → exec (.feedInstant d) s = .next s)

/-- Reference, holding register, indirect access, measurement start and load supervision take their writes (03_kareo_loop_fabric.md R63; 03_kareo_loop_fabric.md R67; 03_kareo_loop_fabric.md R69; 03_kareo_loop_fabric.md R70; 04_loop_nesting_and_plausibility.md R102; 04_loop_nesting_and_plausibility.md R104; 04_loop_nesting_and_plausibility.md R105). -/
def Obligations.FabricRegisterWritesAndReads : Prop :=
  (∀ (d k : Fin 4) (w : Word) (s : State), s.coreRuns = true →
    ∃ t : State, exec (.lfcRefWrite d k w) s = .next t ∧ t.reg (R.LFC_REF.at d k) = w ∧
      t.loop (loopNo d k) = { s.loop (loopNo d k) with rNew := some (s32 w) } ∧
      ((s.loop (loopNo d k)).rNew.isSome = true → t.bit (R.LFC_STAT.REFOVW d) = true) ∧
      (∀ l : Nat, l ≠ loopNo d k → t.loop l = s.loop l) ∧
      (∀ a : Nat, a ≠ R.LFC_REF.at d k → a ≠ (R.LFC_STAT.REFOVW d).addr → t.reg a = s.reg a) ∧
      t = { s with regs := t.regs, loops := t.loops }) ∧
  (∀ (d : Fin 4) (w : Word) (s : State), s.coreRuns = true →
    ∃ t : State, exec (.lfcCmWrite d w) s = .next t ∧ t.dom d = { s.dom d with cmHold := w } ∧
      (∀ k : Nat, k ≠ d → t.dom k = s.dom k) ∧ t = { s with doms := t.doms }) ∧
  (∀ (d : Fin 4) (w : Word) (s : State), s.coreRuns = true → s.cidxOk d = true → s.csBad d = false → (s.cidx d).1 < 2 →
    ∃ t : State, exec (.lfcCsWrite d w) s = .next t ∧
      t.coef (loopNo d (s.cidx d).2.1) (decide ((s.cidx d).1 = 1)) (s.cidx d).2.2 =
        { m := if (s.cidx d).2.2 = 89 then (s.dom d).cmHold &&& 0x7FC7#32 else (s.dom d).cmHold, s := w.setWidth 5 } ∧
      (∀ (l i : Nat) (b : Bool), coefKey l b i ≠ coefKey (loopNo d (s.cidx d).2.1) (decide ((s.cidx d).1 = 1)) (s.cidx d).2.2 →
        t.coef l b i = s.coef l b i) ∧
      (∀ l : Nat, l ≠ loopNo d (s.cidx d).2.1 → t.loop l = s.loop l) ∧
      s.onlyFields t [R.LFC_CIDX.ENTRY d] ∧ t = { s with regs := t.regs, coefs := t.coefs, loops := t.loops }) ∧
  (∀ (d : Fin 4) (w : Word) (s : State), s.coreRuns = true → (s.cidxOk d = false ∨ s.csBad d = true) →
    ∃ t : State, exec (.lfcCsWrite d w) s = .next t ∧ s.onlyFields t [R.LFC_CIDX.ENTRY d] ∧
      t = { s with regs := t.regs, coefs := t.coefs, loops := t.loops, freeCtr := s.freeCtr + 1 }) ∧
  (∀ (d : Fin 4) (s : State), s.coreRuns = true →
    (s.cidxOk d = false ∨ s.lfcErr (loopNo d (s.cidx d).2.1) (s.cidx d).1 (s.cidx d).2.2 = 0) →
    ∃ u : State, exec (.lfcCsRead d) s = .next u.settle ∧ (s.bit (R.LFC_CIDX.AINC d) = false → u = s) ∧
      (s.cidxOk d = true → s.bit (R.LFC_CIDX.AINC d) = true →
        u.get (R.LFC_CIDX.ENTRY d) = (if s.get (R.LFC_CIDX.ENTRY d) = 89 then 0 else s.get (R.LFC_CIDX.ENTRY d) + 1)) ∧
      s.onlyFields u [R.LFC_CIDX.ENTRY d] ∧ s.onlyRegsDiffer u) ∧
  (∀ (d : Fin 4) (s : State), s.coreRuns = true → s.cidxOk d = true →
    s.lfcErr (loopNo d (s.cidx d).2.1) (s.cidx d).1 (s.cidx d).2.2 = 1 →
    ∃ u : State, exec (.lfcCsRead d) s = .next u.settle ∧ u.bit (R.LFC_STAT.ECCCOR d) = true ∧
      u.lfcErr (loopNo d (s.cidx d).2.1) (s.cidx d).1 (s.cidx d).2.2 = 0 ∧
      s.onlyFields u ([R.LFC_CIDX.ENTRY d, R.LFC_STAT.ECCCOR d] ++ evFields) ∧
      u = { s with regs := u.regs, loops := u.loops, fls := u.fls, freeCtr := u.freeCtr }) ∧
  (∀ (d : Fin 4) (w : Word) (s : State), s.coreRuns = true → fldOf w (R.LFC_ZCFG.START d) = 1 → s.sys.mode = .service →
    (s.dom d).zrun = false →
    ∃ t : State, exec (.impedanceStart d w) s = .next t ∧ t.bit (R.LFC_ZCFG.BUSY d) = true ∧
      t.bit (R.LFC_ZCFG.DONE d) = false ∧ t.bit (R.LFC_ZCFG.ERR d) = false ∧
      t.get (R.LFC_ZCFG.CH d) = fldOf w (R.LFC_ZCFG.CH d) ∧ (t.dom d).zrun = true ∧ (t.dom d).zphi = 0 ∧
      (t.dom d).zvs = 0 ∧ (t.dom d).zvc = 0 ∧ (t.dom d).zis = 0 ∧ (t.dom d).zic = 0 ∧
      (t.dom d).zleft = fldOf w (R.LFC_ZCFG.ZCNT d) ∧ (∀ k : Nat, k ≠ d → t.dom k = s.dom k) ∧
      s.onlyRegs t [R.LFC_ZCFG.at d] ∧ t = { s with regs := t.regs, doms := t.doms, dsu := t.dsu }) ∧
  (∀ (d : Fin 4) (w : Word) (s : State), s.coreRuns = true →
    (fldOf w (R.LFC_ZCFG.START d) = 0 ∨ s.sys.mode ≠ .service ∨ (s.dom d).zrun = true) →
    ∃ t : State, exec (.impedanceStart d w) s = .next t ∧ t.get (R.LFC_ZCFG.ZCNT d) = fldOf w (R.LFC_ZCFG.ZCNT d) ∧
      (s.zcfgBad d w = false → t.get (R.LFC_ZCFG.CH d) = fldOf w (R.LFC_ZCFG.CH d)) ∧ s.onlyRegs t [R.LFC_ZCFG.at d] ∧
      t = { s with regs := t.regs, freeCtr := s.freeCtr + (if s.zcfgBad d w then 1 else 0) }) ∧
  (∀ (d : Fin 4) (w : Word) (s : State), s.coreRuns = true →
    ∃ t : State, exec (.ldenWrite d w) s = .next t ∧
      (∀ k : Nat, k < 4 → t.loop (loopNo d k) = ldClear (s.loop (loopNo d k))) ∧
      (∀ l : Nat, (∀ k : Nat, k < 4 → l ≠ loopNo d k) → t.loop l = s.loop l) ∧
      t.get (R.LFC_LDCFG.LDEN d) = fldOf w (R.LFC_LDCFG.LDEN d) ∧
      s.onlyRegs t [R.LFC_LDCFG.at d] ∧
      t = { s with regs := t.regs, loops := t.loops, freeCtr := s.freeCtr + (if s.ldcfgBad d w then 1 else 0) }) ∧
  (∀ (d k : Fin 4) (w : Word) (s : State), s.coreRuns = false →
    exec (.lfcRefWrite d k w) s = .next s ∧ exec (.lfcCmWrite d w) s = .next s ∧ exec (.lfcCsWrite d w) s = .next s ∧
      exec (.lfcCsRead d) s = .next s ∧ exec (.impedanceStart d w) s = .next s ∧ exec (.ldenWrite d w) s = .next s)

/-- A swap of a stopped loop is immediate and of a running one pends, single or by group; the scrub corrects, disables or faults (03_kareo_loop_fabric.md R70; 03_kareo_loop_fabric.md R78; 03_kareo_loop_fabric.md R81; 03_kareo_loop_fabric.md R82). -/
def Obligations.BankSwapsAndTheScrub : Prop :=
  (∀ (d : Fin 4) (j : Fin 12) (s : State), s.coreRuns = true →
    (s.loop (loopNo d j)).bankBad.getLsbD (b2n (!s.actBank d j)) = false → s.running d j = false →
    ∃ t : State, exec (.singleSwap d (1#12 <<< j.val)) s = .next t ∧ exec (.groupSwap d (1#12 <<< j.val)) s = .next t ∧
      t.actBank d j = !s.actBank d j ∧ (∀ k : Nat, k < 12 → k ≠ j → t.actBank d k = s.actBank d k) ∧
      s.onlyFields t [R.LFC_BANK.ACT d] ∧ s.onlyRegsDiffer t) ∧
  (∀ (d : Fin 4) (j : Fin 12) (s : State), s.coreRuns = true →
    (s.loop (loopNo d j)).bankBad.getLsbD (b2n (!s.actBank d j)) = false → s.running d j = true →
    s.bitI (R.LFC_BANK.PEND d) j = false →
    ∃ t g : State, exec (.singleSwap d (1#12 <<< j.val)) s = .next t ∧ exec (.groupSwap d (1#12 <<< j.val)) s = .next g ∧
      t.bitI (R.LFC_BANK.PEND d) j = true ∧ g.bitI (R.LFC_BANK.PEND d) j = true ∧
      (t.loop (loopNo d j)).swapT = none ∧ (g.loop (loopNo d j)).swapT = some (s.swapBoundary d s.now) ∧
      (∀ l : Nat, l ≠ loopNo d j → t.loop l = s.loop l ∧ g.loop l = s.loop l) ∧
      s.onlyFields t [R.LFC_BANK.PEND d] ∧ s.onlyFields g [R.LFC_BANK.PEND d] ∧
      t = { s with regs := t.regs, loops := t.loops } ∧ g = { s with regs := g.regs, loops := g.loops }) ∧
  (∀ (d : Fin 4) (j : Fin 12) (s : State), s.coreRuns = true →
    (s.loop (loopNo d j)).bankBad.getLsbD (b2n (!s.actBank d j)) = false → s.running d j = true →
    s.bitI (R.LFC_BANK.PEND d) j = true →
    ∃ t : State, exec (.singleSwap d (1#12 <<< j.val)) s = .next t ∧ exec (.groupSwap d (1#12 <<< j.val)) s = .next t ∧
      t.bit (R.LFC_STAT.SWPDUP d) = true ∧ s.onlyFields t [R.LFC_STAT.SWPDUP d] ∧ s.onlyRegsDiffer t) ∧
  (∀ (d : Fin 4) (j : Fin 12) (s : State),
    (s.loop (loopNo d j)).bankBad.getLsbD (b2n (!s.actBank d j)) = true →
    exec (.singleSwap d (1#12 <<< j.val)) s = .next s ∧ exec (.groupSwap d (1#12 <<< j.val)) s = .next s) ∧
  (∀ (d : Fin 4) (j : Fin 12) (sp : LfcSpace) (i : Fin 90) (s : State), s.coreRuns = true →
    s.lfcErr (loopNo d j) (spaceCode sp) i = 0 → exec (.lfcScrub d j sp i .clean) s = .next s.settle) ∧
  (∀ (d : Fin 4) (j : Fin 12) (sp : LfcSpace) (i : Fin 90) (s : State), s.coreRuns = true →
    s.lfcErr (loopNo d j) (spaceCode sp) i = 0 →
    ∃ u : State, exec (.lfcScrub d j sp i .single) s = .next u.settle ∧ u.bit (R.LFC_STAT.ECCCOR d) = true ∧
      u.lfcErr (loopNo d j) (spaceCode sp) i = 0 ∧ (∀ l : Nat, l ≠ loopNo d j → u.loop l = s.loop l) ∧
      s.onlyFields u (R.LFC_STAT.ECCCOR d :: evFields) ∧
      u = { s with regs := u.regs, fls := u.fls, freeCtr := u.freeCtr, loops := u.loops }) ∧
  (∀ (d : Fin 4) (j : Fin 12) (sp : LfcSpace) (i : Fin 90) (s : State), s.coreRuns = true →
    spaceCode sp = b2n (!s.actBank d j) →
    ∃ u : State, exec (.lfcScrub d j sp i .double) s = .next u.settle ∧ u.bit (R.LFC_STAT.ECCERR d) = true ∧
      (u.loop (loopNo d j)).bankBad.getLsbD (spaceCode sp) = true ∧ (∀ l : Nat, l ≠ loopNo d j → u.loop l = s.loop l) ∧
      s.onlyFields u (R.LFC_STAT.ECCERR d :: evFields) ∧
      u = { s with regs := u.regs, fls := u.fls, freeCtr := u.freeCtr, loops := u.loops }) ∧
  (∀ (d : Fin 4) (j : Fin 12) (sp : LfcSpace) (i : Fin 90) (s : State), s.coreRuns = true →
    spaceCode sp ≠ b2n (!s.actBank d j) →
    ∃ u : State, exec (.lfcScrub d j sp i .double) s = .next u.settle ∧ u.bit (R.LFC_STAT.ECCERR d) = true ∧
      u.bitI (R.LFC_FAULT.LF d) j = true ∧ u.running d j = false) ∧
  (∀ (d : Fin 4) (j : Fin 12) (sp : LfcSpace) (i : Fin 90) (f : EccFound) (m : BitVec 12) (s : State), s.coreRuns = false →
    exec (.lfcScrub d j sp i f) s = .next s ∧ exec (.singleSwap d m) s = .next s ∧ exec (.groupSwap d m) s = .next s)

/-- The freeze monitor counts repeated samples against a moving prediction and trips at FRZN (R94). -/
def Obligations.FreezeMonitorComparesEnteringSamples : Prop :=
  (∀ (p : PlSet) (l : Loop) (e : Int), l.blank = 0 →
    (plEnter p l e).frzCnt =
        (if l.haveLast = true ∧ l.y = l.lastY ∧ p.fmot ≤ ((l.yp - l.lastYp).natAbs : Int) then l.frzCnt + 1 else 0) ∧
      (plEnter p l e).haveLast = true ∧ (plEnter p l e).lastY = l.y ∧ (plEnter p l e).lastYp = l.yp) ∧
  (∀ (p : PlSet) (l : Loop) (e : Int), p.en = true → l.blank = 0 →
    ((plSample p l false e).2 = 2 ↔ p.frzn ≠ 0 ∧ p.frzn ≤ (plEnter p l e).frzCnt)) ∧
  (∀ (s : State) (d j : Nat), (s.plSet d j).fmot = ((s.get (R.LFC_PLB.FMM d j) * 2 ^ s.get (R.LFC_PLB.FMS d j) : Nat) : Int))

/-- The profile update publishes the planner's step; target and limit writes wait for it; the phase manager evaluates (01_signal_to_speaker.md R18; 05_rail_tracking.md R110; 05_rail_tracking.md R116; 05_rail_tracking.md R118; 05_rail_tracking.md R122; 05_rail_tracking.md R123; 06_edges_and_phases.md R139). -/
def Obligations.ProfileCommandsMoveThePlanner : Prop :=
  (∀ (d : Fin 4) (s : State), s.updates d = true → ((s.planStart d).prf d).started = true →
    ∃ u : State, exec (.profileUpdate d) s = .next u.settle ∧ u = ((s.planStart d).takeLimits d).profileStep d ∧
      (u.prf d).wrote = false ∧ u.get (R.PRF_POS.V d) = sat32u (u.prf d).p ∧
      u.get (R.PRF_STAT.PSTATE d) = pstateOf (u.prf d).dir ∧ (∀ k : Nat, k ≠ d → u.prf k = s.prf k) ∧
      u = { s with regs := u.regs, fls := u.fls, freeCtr := u.freeCtr, prfs := u.prfs }) ∧
  (∀ (d : Fin 4) (s : State), (s.updates d = false ∨ ((s.planStart d).prf d).started = false) →
    exec (.profileUpdate d) s = .next s) ∧
  (∀ (d : Fin 4) (w : Word) (s : State), s.coreRuns = true →
    ∃ t : State, exec (.prfTgtWrite d w) s = .next t ∧ t.prf d = { s.prf d with wrote := true } ∧
      t.get (R.PRF_TGT.DEM d) = fldOf w (R.PRF_TGT.DEM d) ∧ s.onlyRegs t [R.PRF_TGT.at d] ∧
      (∀ k : Nat, k ≠ d → t.prf k = s.prf k) ∧ t = { s with regs := t.regs, prfs := t.prfs }) ∧
  (∀ (d : Fin 4) (which : PrfLimit) (w : Word) (s : State), s.coreRuns = true →
    ∃ t : State, exec (.prfLimitWrite d which w) s = .next t ∧ t.bit (R.PRF_STAT.LPEND d) = true ∧
      s.onlyRegs t [prfLimAddr d which, (R.PRF_STAT.LPEND d).addr] ∧
      (∀ i : Nat, i < 32 → i ≠ (R.PRF_STAT.LPEND d).lo →
        (t.reg (R.PRF_STAT.LPEND d).addr).getLsbD i = (s.reg (R.PRF_STAT.LPEND d).addr).getLsbD i) ∧ s.onlyRegsDiffer t) ∧
  (∀ (d : Fin 4) (which : PrfLimit) (w : Word) (s : State), s.coreRuns = false →
    exec (.prfTgtWrite d w) s = .next s ∧ exec (.prfLimitWrite d which w) s = .next s) ∧
  (∀ (d : Fin 4) (s : State), s.coreRuns = true → dstRuns (s.dom d).dst = true → (s.prf d).started = true →
    s.phSetBad d = false →
    exec (.phaseEvaluation d) s = .next (s.phaseEval d).settle ∧
      (s.phaseEval d).get ⟨R.PWM_IPRED.at d, 31, 0⟩ = s.ipred d) ∧
  (∀ (d : Fin 4) (s : State), s.coreRuns = true → dstRuns (s.dom d).dst = true → (s.prf d).started = true →
    s.phSetBad d = true →
    ∃ u : State, exec (.phaseEvaluation d) s = .next u.settle ∧ u.get (R.PWM_PHASES.MINPH d) = s.get (R.PWM_PHASES.MINPH d) ∧
      u.get (R.PWM_IADD.V d) = s.get (R.PWM_IADD.V d) ∧ u.get (R.PWM_ISHED.V d) = s.get (R.PWM_ISHED.V d) ∧ u.mem = s.mem) ∧
  (∀ (d : Fin 4) (s : State), (s.coreRuns = false ∨ dstRuns (s.dom d).dst = false ∨ (s.prf d).started = false) →
    exec (.phaseEvaluation d) s = .next s)

/-- A planner move with a usable stop point keeps acceleration within N quanta, velocity within Vd and the stop point at or short of the target (05_rail_tracking.md R118; 05_rail_tracking.md R119; 05_rail_tracking.md R120). -/
def Obligations.PlannerStaysWithinItsQuanta : Prop :=
  (∀ (q : Quanta) (p v a tt j : Int), pickJerk q p v a tt = some j →
    ((a + j).natAbs : Int) ≤ q.n * q.j ∧ (j = q.j ∨ j = 0 ∨ j = -q.j) ∧
      ∃ q1 : Int, stopPoint q (p + (v + (a + j))) (v + (a + j)) (a + j) = some q1 ∧ q1 ≤ tt) ∧
  (∀ (q : Quanta) (s : Plan) (t : Int), s.dir = 1 → (pickJerk q s.p s.v s.a t).isSome = true →
    (planStep q s t false).1.p = s.p + (planStep q s t false).1.v ∧
      ((planStep q s t false).1.a.natAbs : Int) ≤ q.n * q.j ∧ (planStep q s t false).1.v ≤ q.vd ∧
      (∃ q1 : Int, stopPoint q (planStep q s t false).1.p (planStep q s t false).1.v (planStep q s t false).1.a = some q1 ∧
        q1 ≤ t)) ∧
  (∀ (q : Quanta) (n : Nat) (p v a vmax q1 : Int), stopLoop q n p v a vmax = some q1 → vmax ≤ q.vd) ∧
  (∀ (q : Quanta) (s : Plan) (t : Int) (b : Bool), s.dir = 0 → ((t - s.p).natAbs : Int) < 2 * q.j → planStep q s t b = (s, b))

/-- Edge updates, gate edges, half-cycle starts and re-arming act while the carriers of the domain run (06_edges_and_phases.md R126; 06_edges_and_phases.md R135; 06_edges_and_phases.md R136; 06_edges_and_phases.md R137). -/
def Obligations.EdgesAreInstalledDrivenAndRearmed : Prop :=
  (∀ (c : Fin 16) (ep en : Edge) (s : State), s.carriers (c.val / 4) = true →
    s.running (c.val / 4) (c.val % 4) = true → (s.lane c).armed = some (ep, en) →
    ∃ u : State, exec (.edgeUpdate c) s = .next u.refreshBalls ∧ (u.lane c).armed = none ∧
      (u.lane c).pendP = (s.lane c).pendP ++ [ep] ∧ (u.lane c).pendN = (s.lane c).pendN ++ [en] ∧
      (u.lane c).duty = (s.lane c).duty ∧ (∀ k : Nat, k ≠ c → u.lane k = s.lane k) ∧
      u = { s with lanes := u.lanes, balls := u.balls }) ∧
  (∀ (c : Fin 16) (s : State), s.carriers (c.val / 4) = true → s.running (c.val / 4) (c.val % 4) = false →
    ∃ u : State, exec (.edgeUpdate c) s = .next u.refreshBalls ∧ u.lane c = {} ∧
      (∀ g : Nat, g = 8 + 2 * (c.val % 4) ∨ g = 9 + 2 * (c.val % 4) →
        (u.ball (c.val / 4) g).fab = s.safeLevel (c.val / 4) g) ∧
      (∀ k : Nat, k ≠ c → u.lane k = s.lane k) ∧ u = { s with lanes := u.lanes, balls := u.balls }) ∧
  (∀ (d : Fin 4) (k : Fin 4) (e : Edge) (l : List Edge) (s : State), s.carriers d = true →
    (s.lane (4 * d + k)).pendP = e :: l →
    ∃ (g : Fin 16) (u : State), g.val = 8 + 2 * k.val ∧ exec (.gateEdge d g) s = .next u.refreshBalls ∧
      (u.lane (4 * d + k)).pendP = l ∧ (u.ball d g).fab = e.rise ∧ u = { s with lanes := u.lanes, balls := u.balls }) ∧
  (∀ (d : Fin 4) (k : Fin 4) (e : Edge) (l : List Edge) (s : State), s.carriers d = true →
    (s.lane (4 * d + k)).pendN = e :: l →
    ∃ (g : Fin 16) (u : State), g.val = 9 + 2 * k.val ∧ exec (.gateEdge d g) s = .next u.refreshBalls ∧
      (u.lane (4 * d + k)).pendN = l ∧ (u.ball d g).fab = e.rise ∧ u = { s with lanes := u.lanes, balls := u.balls }) ∧
  (∀ (d : Fin 4) (g : Fin 16) (s : State), s.carriers d = true → g.val < 8 → (s.phase d (g.val / 2)).pulsing = true →
    (s.ball d g).fab = true →
    ∃ u : State, exec (.gateEdge d g) s = .next u.refreshBalls ∧ (u.phase d (g.val / 2)).pulsing = false ∧
      (u.ball d g).fab = false ∧ u = { s with phases := u.phases, balls := u.balls }) ∧
  (∀ (d p : Fin 4) (s : State), s.carriers d = true →
    ∃ u : State, exec (.halfCycleStart d p) s = .next u.refreshBalls ∧ (u.phase d p).sideB = !(s.phase d p).sideB ∧
      (s.supplyBad d = true → u.get (R.PWM_STIM.GAP d) = s.get (R.PWM_STIM.GAP d) ∧
        u.get (R.PWM_SPH.GLD d) = s.get (R.PWM_SPH.GLD d) ∧ u.get (R.PWM_STIM.SMIN d) = s.get (R.PWM_STIM.SMIN d)) ∧
      u.mem = s.mem ∧ u.mon = s.mon) ∧
  (∀ (d : Fin 4) (j : Fin 12) (s : State), s.rearms d j = true →
    ∃ t : State, exec (.missedEdgeArm d j) s = .next t ∧ (t.loop (loopNo d j)).missArm = false ∧
      (∀ l : Nat, l ≠ loopNo d j → t.loop l = s.loop l) ∧ t.mem = s.mem ∧ t.doms = s.doms) ∧
  (∀ (d : Fin 4) (j : Fin 12) (s : State), s.rearms d j = false → exec (.missedEdgeArm d j) s = .next s) ∧
  (∀ (c : Fin 16) (s : State), s.carriers (c.val / 4) = false → exec (.edgeUpdate c) s = .next s) ∧
  (∀ (d p : Fin 4) (g : Fin 16) (j : Fin 12) (s : State), s.carriers d = false →
    exec (.gateEdge d g) s = .next s ∧ exec (.halfCycleStart d p) s = .next s ∧ exec (.missedEdgeArm d j) s = .next s)

/-- LDI, MOV, ADD, SUB, AND, OR, XOR, SHF and CMP of the issuing context write one register, set their flags and go on (09_zuelm_engines_and_gallery.md R205; 09_zuelm_engines_and_gallery.md R206; 09_zuelm_engines_and_gallery.md R207; 09_zuelm_engines_and_gallery.md R208). -/
def Obligations.RegisterInstructionsComputeTheirResultAndFlags : Prop :=
  ∀ (e : Fin 16) (x : Fin 3) (f : Iw) (s : State), s.issues e x f →
    (f.op = 0x08 → ∃ t : State, exec (.ldi e) s = .next t ∧ s.computes t e x f.a (BitVec.ofNat 32 f.imm) ∧
      (s.ctx e x).sameFlags (t.ctx e x)) ∧
    (f.op = 0x09 → ∃ t : State, exec (.mov e) s = .next t ∧ s.computes t e x f.a ((s.ctx e x).reg f.b) ∧
      (s.ctx e x).sameFlags (t.ctx e x)) ∧
    (∀ (b o : Word), b = (s.ctx e x).reg f.b → o = (if f.n % 2 = 1 then BitVec.ofNat 32 f.imm else (s.ctx e x).reg f.c) →
      (f.op = 0x0A → ∃ (t : State) (r : Word), exec (.add e) s = .next t ∧ s.computes t e x f.a r ∧
        r = (if f.n / 2 % 2 = 1 then BitVec.ofInt 32 (clampI (-(2 ^ 31)) (2 ^ 31 - 1) (b.toInt + o.toInt)) else b + o) ∧
        (s.ctx e x).flagsBecome (t.ctx e x) (r == 0) r.msb (decide (2 ^ 32 ≤ b.toNat + o.toNat))
          (decide (b.toInt + o.toInt < -(2 ^ 31) ∨ 2 ^ 31 ≤ b.toInt + o.toInt))
          ((s.ctx e x).sat || (decide (f.n / 2 % 2 = 1) &&
            decide (b.toInt + o.toInt < -(2 ^ 31) ∨ 2 ^ 31 ≤ b.toInt + o.toInt)))) ∧
      (f.op = 0x0B → ∃ (t : State) (r : Word), exec (.sub e) s = .next t ∧ s.computes t e x f.a r ∧
        r = (if f.n / 2 % 2 = 1 then BitVec.ofInt 32 (clampI (-(2 ^ 31)) (2 ^ 31 - 1) (b.toInt - o.toInt)) else b - o) ∧
        (s.ctx e x).flagsBecome (t.ctx e x) (r == 0) r.msb (decide (b.toNat < o.toNat))
          (decide (b.toInt - o.toInt < -(2 ^ 31) ∨ 2 ^ 31 ≤ b.toInt - o.toInt))
          ((s.ctx e x).sat || (decide (f.n / 2 % 2 = 1) &&
            decide (b.toInt - o.toInt < -(2 ^ 31) ∨ 2 ^ 31 ≤ b.toInt - o.toInt)))) ∧
      (∀ (c : Instr) (r : Word),
        ((c = .and e ∧ f.op = 0x0C ∧ r = b &&& o) ∨ (c = .or e ∧ f.op = 0x0D ∧ r = b ||| o) ∨
          (c = .xor e ∧ f.op = 0x0E ∧ r = b ^^^ o) ∨
          (∃ k : Nat, k < 32 ∧ f.imm % 64 = k ∧ c = .shf e ∧ f.op = 0x0F ∧ r = b <<< k) ∨
          (∃ k : Nat, 0 < k ∧ k ≤ 32 ∧ f.imm % 64 = 64 - k ∧ c = .shf e ∧ f.op = 0x0F ∧
            r = if f.n % 2 = 1 then b >>> k else b.sshiftRight k)) →
        ∃ t : State, exec c s = .next t ∧ s.computes t e x f.a r ∧
          (s.ctx e x).flagsBecome (t.ctx e x) (r == 0) r.msb (s.ctx e x).c (s.ctx e x).v (s.ctx e x).sat) ∧
      (f.op = 0x10 → ∃ t : State, exec (.cmp e) s = .next t ∧ (t.ctx e x).g = (s.ctx e x).g ∧
        (t.ctx e x).acc = (s.ctx e x).acc ∧ (s.ctx e x).advances (t.ctx e x) ∧ s.onlyCtx t e x ∧
        (s.ctx e x).flagsBecome (t.ctx e x) (b == o) (b - o).msb (decide (b.toNat < o.toNat)) (s.ctx e x).v (s.ctx e x).sat))

/-- MPY writes a product, MAC2 adds two products saturated at the s64 limits, RND rounds half up into a register (09_zuelm_engines_and_gallery.md R206; 09_zuelm_engines_and_gallery.md R207; 09_zuelm_engines_and_gallery.md R208). -/
def Obligations.AccumulatorInstructionsKeepTheS64Limits : Prop :=
  ∀ (e : Fin 16) (x : Fin 3) (f : Iw) (s : State), s.issues e x f →
    (f.op = 0x15 → ∃ t : State, exec (.mpy e) s = .next t ∧ (t.ctx e x).g = (s.ctx e x).g ∧
      (t.ctx e x).accu f.a = (if f.n % 2 = 1 then -1 else 1) * (((s.ctx e x).reg f.b).toInt * ((s.ctx e x).reg f.c).toInt) ∧
      (∀ k : Nat, k % 4 ≠ f.a % 4 → (t.ctx e x).accu k = (s.ctx e x).accu k) ∧
      (s.ctx e x).sameFlags (t.ctx e x) ∧ (s.ctx e x).advances (t.ctx e x) ∧ s.onlyCtx t e x) ∧
    (f.op = 0x16 → ∀ p q : Int,
      p = (s.ctx e x).accu f.a +
        (if f.n % 2 = 1 then -1 else 1) * (((s.ctx e x).reg f.b).toInt * ((s.ctx e x).reg f.c).toInt) →
      q = (s.ctx e x).accu (f.a ^^^ 1) +
        (if f.n % 2 = 1 then -1 else 1) * (((s.ctx e x).reg (f.b + 1)).toInt * ((s.ctx e x).reg (f.c + 1)).toInt) →
      ∃ t : State, exec (.mac2 e) s = .next t ∧ (t.ctx e x).g = (s.ctx e x).g ∧
        (t.ctx e x).accu f.a = clampI (-(2 ^ 63)) (2 ^ 63 - 1) p ∧
        (t.ctx e x).accu (f.a ^^^ 1) = clampI (-(2 ^ 63)) (2 ^ 63 - 1) q ∧
        (∀ k : Nat, k % 4 / 2 ≠ f.a % 4 / 2 → (t.ctx e x).accu k = (s.ctx e x).accu k) ∧
        (s.ctx e x).flagsBecome (t.ctx e x) (s.ctx e x).z (s.ctx e x).n (s.ctx e x).c (s.ctx e x).v
          ((s.ctx e x).sat || decide (p < -(2 ^ 63) ∨ 2 ^ 63 ≤ p) || decide (q < -(2 ^ 63) ∨ 2 ^ 63 ≤ q)) ∧
        (s.ctx e x).advances (t.ctx e x) ∧ s.onlyCtx t e x) ∧
    (f.op = 0x17 → ∀ v : Int,
      v = (if f.imm % 64 = 0 then (s.ctx e x).accu f.b
        else ((s.ctx e x).accu f.b + 2 ^ (f.imm % 64 - 1)) / 2 ^ (f.imm % 64)) →
      ∃ t : State, exec (.rnd e) s = .next t ∧ s.computes t e x f.a (BitVec.ofInt 32 (clampI (-(2 ^ 31)) (2 ^ 31 - 1) v)) ∧
        (s.ctx e x).flagsBecome (t.ctx e x) (s.ctx e x).z (s.ctx e x).n (s.ctx e x).c (s.ctx e x).v
          ((s.ctx e x).sat || decide (v < -(2 ^ 31) ∨ 2 ^ 31 ≤ v)))

/-- NOP, JMP, CALL, RET, LOOP, SKIP, WAIT and WAITT move the index, the stacks and the state of the context as R208 says (09_zuelm_engines_and_gallery.md R201; 09_zuelm_engines_and_gallery.md R202; 09_zuelm_engines_and_gallery.md R207; 09_zuelm_engines_and_gallery.md R208; 09_zuelm_engines_and_gallery.md R221; 02_time_base_and_clocks.md R35). -/
def Obligations.ControlFlowInstructionsMoveTheContext : Prop :=
  ∀ (e : Fin 16) (x : Fin 3) (f : Iw) (s : State), s.issues e x f →
    (f.op = 0x00 → ∃ t : State, exec (.nop e) s = .next t ∧ (s.ctx e x).sameData (t.ctx e x) ∧
      (s.ctx e x).advances (t.ctx e x) ∧ s.onlyCtx t e x) ∧
    (f.op = 0x01 → s.mayGo e x (f.imm % 8192) →
      ∃ t : State, exec (.jmp e) s = .next t ∧ t.ctx e x = { s.ctx e x with pc := f.imm % 8192 } ∧ s.onlyCtx t e x) ∧
    (f.op = 0x01 → ¬s.mayGo e x (f.imm % 8192) →
      ∃ t : State, exec (.jmp e) s = .next t ∧ s.strays t e x ∧ (t.ctx e x).rets = (s.ctx e x).rets) ∧
    (f.op = 0x02 →
      (8 ≤ (s.ctx e x).rets.length → exec (.call e) s = .next (s.violate e x 5 0).settle) ∧
      ((s.ctx e x).rets.length < 8 → s.mayGo e x (f.imm % 8192) → ∃ t : State, exec (.call e) s = .next t ∧ s.onlyCtx t e x ∧
        t.ctx e x = { s.ctx e x with pc := f.imm % 8192, rets := ((s.ctx e x).pc + 1) % 8192 :: (s.ctx e x).rets }) ∧
      ((s.ctx e x).rets.length < 8 → ¬s.mayGo e x (f.imm % 8192) → ∃ t : State, exec (.call e) s = .next t ∧ s.strays t e x ∧
        (t.ctx e x).rets = ((s.ctx e x).pc + 1) % 8192 :: (s.ctx e x).rets)) ∧
    (f.op = 0x03 → ((s.ctx e x).rets = [] → exec (.ret e) s = .next (s.violate e x 5 0).settle) ∧
      (∀ q : List Nat, (s.ctx e x).rets = 0 :: q →
        ∃ t : State, exec (.ret e) s = .next t ∧ t.ctx e x = { s.ctx e x with pc := 0, rets := q } ∧ s.onlyCtx t e x) ∧
      (∀ (p : Nat) (q : List Nat), (s.ctx e x).rets = (p + 1) :: q →
        ∃ t : State, exec (.ret e) s = .next t ∧ s.onlyCtx t e x ∧
          t.ctx e x = { s.ctx e x with pc := (loopNext p (p + 1) (s.ctx e x).loops).1
                                       loops := (loopNext p (p + 1) (s.ctx e x).loops).2, rets := q })) ∧
    (f.op = 0x04 →
      (f.imm % 8192 < (s.ctx e x).pc →
        ∃ t : State, exec (.loop e) s = .next t ∧ s.strays t e x ∧ (t.ctx e x).rets = (s.ctx e x).rets) ∧
      (∀ n : Nat, n = ((s.ctx e x).reg f.a).toNat → 0 < n → (s.ctx e x).pc < f.imm % 8192 →
        ((s.ctx e x).loops.length < 2 → ∃ t : State, exec (.loop e) s = .next t ∧ s.onlyCtx t e x ∧
          t.ctx e x = { s.ctx e x with
            pc := ((s.ctx e x).pc + 1) % 8192
            loops := { first := (s.ctx e x).pc + 1, last := f.imm % 8192, left := n } :: (s.ctx e x).loops }) ∧
        (2 ≤ (s.ctx e x).loops.length → exec (.loop e) s = .next (s.violate e x 5 0).settle)) ∧
      ((((s.ctx e x).reg f.a).toNat = 0 ∧ (s.ctx e x).pc ≤ f.imm % 8192 ∨ f.imm % 8192 = (s.ctx e x).pc) →
        ∃ t : State, exec (.loop e) s = .next t ∧ s.onlyCtx t e x ∧
          t.ctx e x = { s.ctx e x with pc := (loopNext (f.imm % 8192) (f.imm % 8192 + 1) (s.ctx e x).loops).1
                                       loops := (loopNext (f.imm % 8192) (f.imm % 8192 + 1) (s.ctx e x).loops).2 })) ∧
    (f.op = 0x05 → ∀ k : Nat, k = f.n / 16 % 4 + 1 →
      ((s.ctx e x).cond (f.n % 16) = false → ∃ t : State, exec (.skip e) s = .next t ∧
        (s.ctx e x).sameData (t.ctx e x) ∧ (s.ctx e x).advances (t.ctx e x) ∧ s.onlyCtx t e x) ∧
      (∀ ok : Prop, (ok ↔ (∀ l ∈ (s.ctx e x).loops, (s.ctx e x).pc + k ≤ l.last) ∧
          ∀ b ∈ s.bodies e, b.1 ≤ (s.ctx e x).pc + k + 1 → (s.ctx e x).pc + k + 1 ≤ b.2 →
            b.1 ≤ (s.ctx e x).pc ∧ (s.ctx e x).pc ≤ b.2) →
        ((s.ctx e x).cond (f.n % 16) = true → ¬ok →
          ∃ t : State, exec (.skip e) s = .next t ∧ s.strays t e x ∧ (t.ctx e x).rets = (s.ctx e x).rets) ∧
        ((s.ctx e x).cond (f.n % 16) = true → ok →
          ∃ t : State, exec (.skip e) s = .next t ∧ s.onlyCtx t e x ∧
            t.ctx e x = { s.ctx e x with
              pc := (loopNext ((s.ctx e x).pc + k) ((s.ctx e x).pc + k + 1) (s.ctx e x).loops).1
              loops := (loopNext ((s.ctx e x).pc + k) ((s.ctx e x).pc + k + 1) (s.ctx e x).loops).2 }))) ∧
    (f.op = 0x06 → ∃ t : State, exec (.wait e) s = .next t ∧ t.running? e = none ∧ (t.ctx e x).pend = false ∧
      t.cxState e x = (if (s.ctx e x).pend = true ∨ (x.val = 2 ∧ s.get (R.ENG_TRG.SRC e x) = 0) then 2 else 1) ∧
      t.ctx e x = { (s.ctx e x).retire with pend := false } ∧ s.onlyFields t [R.ENG_CTX.STATE e x] ∧
      s.otherCtxs t e x ∧ t = { s with regs := t.regs, eng := { s.eng with ctxs := t.eng.ctxs, run := t.eng.run } }) ∧
    (f.op = 0x07 → ∃ (t : State) (v : Nat), exec (.waitt e) s = .next t ∧ s.nearNow v ∧
      (s.ctx e x).sameData (t.ctx e x) ∧ t.freeCtr = s.freeCtr + 1 ∧
      ((BitVec.ofNat 32 v - (s.ctx e x).reg f.a).msb = false →
        (s.ctx e x).advances (t.ctx e x) ∧ ({ s with freeCtr := t.freeCtr } : State).onlyCtx t e x) ∧
      ((BitVec.ofNat 32 v - (s.ctx e x).reg f.a).msb = true →
        t.cxState e x = 4 ∧ t.running? e = none ∧
          t.ctx e x = { (s.ctx e x).retire with wait := some (.tb ((s.ctx e x).reg f.a)) } ∧
          s.onlyFields t [R.ENG_CTX.STATE e x] ∧
          s.otherCtxs t e x ∧
          t = { s with eng := { s.eng with ctxs := t.eng.ctxs, run := t.eng.run }, regs := t.regs, freeCtr := t.freeCtr }))

/-- LD, ST, LDA and STA access the place that the check of R214 gives, or violate with the cause it gives (09_zuelm_engines_and_gallery.md R198; 09_zuelm_engines_and_gallery.md R199; 09_zuelm_engines_and_gallery.md R204; 09_zuelm_engines_and_gallery.md R205; 09_zuelm_engines_and_gallery.md R208; 09_zuelm_engines_and_gallery.md R211; 09_zuelm_engines_and_gallery.md R212; 09_zuelm_engines_and_gallery.md R213; 09_zuelm_engines_and_gallery.md R214; 09_zuelm_engines_and_gallery.md R221; 00_scope.md R9). -/
def Obligations.LoadsAndStoresPassTheWindowCheck : Prop :=
  (∀ (e x a : Nat) (wr : Bool) (s : State),
    (a < 0x20000 → s.place e x a wr = (if wr = true ∧ a < 0x10000 then .viol 0xC else .at_ (localBase e + a))) ∧
    (0x20000 ≤ a → (∀ i : Nat, i < 16 → (s.win e x i).covers a = false) → s.place e x a wr = .viol 1) ∧
    (0x20000 ≤ a → (∃ i : Nat, i < 16 ∧ (s.win e x i).covers a = true) →
      ∃ i : Nat, i < 16 ∧ (s.win e x i).covers a = true ∧
        s.place e x a wr =
          if wr = true ∧ (blkOf ((s.win e x i).target a) = 0x40090 ∨ blkOf ((s.win e x i).target a) = 0x400A0 ∨
              blkOf ((s.win e x i).target a) = 0x400B0 ∨ blkOf ((s.win e x i).target a) = 0x40100) then .viol 3
          else if (s.win e x i).desc.getLsbD (if wr then 2 else 1) = false then .viol 2
          else .at_ ((s.win e x i).target a))) ∧
  (∀ (m p v : Nat) (s : State),
    ((s.memFind m p).2 = decide (s.eccAt p < 2) ∧ (s.memWr32 m p v).2 = decide (s.eccAt p < 2)) ∧
    (s.eccAt p = 0 → ∃ r : Tbl Nat, (s.memFind m p).1 = { s with eng := { s.eng with rhoBank := r } }) ∧
    (s.eccAt p = 1 → (s.memFind m p).1.eccAt p = 0 ∧ (s.memFind m p).1.mem = s.mem ∧
      (inGallery p = true → (s.memFind m p).1.bit R.ENG_GSTAT.COR = true ∧
        (s.memFind m p).1.get R.ENG_GSTAT.CORCNT = min 65535 (s.get R.ENG_GSTAT.CORCNT + 1)))) ∧
  (∀ (e : Fin 16) (x : Fin 3) (f : Iw) (s u : State) (a : Nat), s.issues e x f →
    a = ((s.ctx e x).reg f.b + BitVec.ofNat 32 f.imm).toNat → u = s.overlapUse e x a →
    (∀ p : Nat, s.place e x a false = .at_ p → inRegs p = false → s.eccAt p < 2 →
      (f.op = 0x11 → a % 4 = 0 → ∃ t : State, exec (.ld e) s = .next t ∧
        (s.ctx e x).regsBecome (t.ctx e x) f.a (BitVec.ofNat 32 (s.rd32 p)) ∧ (t.ctx e x).acc = (s.ctx e x).acc ∧
        (s.ctx e x).sameFlags (t.ctx e x) ∧ (s.ctx e x).advances (t.ctx e x) ∧ (u.memFind e p).1.onlyCtx t e x) ∧
      (f.op = 0x13 → a % 8 = 0 → ∃ t : State, exec (.lda e) s = .next t ∧ (t.ctx e x).g = (s.ctx e x).g ∧
        (t.ctx e x).accu f.a = signedN 64 (s.rd64 p) ∧
        (∀ k : Nat, k % 4 ≠ f.a % 4 → (t.ctx e x).accu k = (s.ctx e x).accu k) ∧
        (s.ctx e x).sameFlags (t.ctx e x) ∧ (s.ctx e x).advances (t.ctx e x) ∧ (u.memFind e p).1.onlyCtx t e x)) ∧
    (∀ p : Nat, s.place e x a true = .at_ p → inRegs p = false →
      (f.op = 0x12 → a % 4 = 0 → s.eccAt p < 2 → ∃ t : State, exec (.st e) s = .next t ∧
        t.rd32 p = ((s.ctx e x).reg f.a).toNat ∧ s.onlyBytes t p 4 ∧ (s.ctx e x).sameData (t.ctx e x) ∧
        (s.ctx e x).advances (t.ctx e x) ∧ s.otherCtxs t e x ∧ t.eccAt p = 0 ∧
        t = { s with mem := t.mem, freeCtr := u.freeCtr,
                     eng := { s.eng with ctxs := t.eng.ctxs, rhoBank := t.eng.rhoBank, ecc := t.eng.ecc } }) ∧
      (f.op = 0x14 → a % 8 = 0 → ∃ t : State, exec (.sta e) s = .next t ∧
        t.rd64 p = ((s.ctx e x).accu f.a % 2 ^ 64).toNat ∧ s.onlyBytes t p 8 ∧ t.eccAt p = 0 ∧
        (s.ctx e x).sameData (t.ctx e x) ∧ (s.ctx e x).advances (t.ctx e x) ∧ s.otherCtxs t e x ∧
        t = { s with mem := t.mem, freeCtr := u.freeCtr,
                     eng := { s.eng with ctxs := t.eng.ctxs, rhoBank := t.eng.rhoBank, ecc := t.eng.ecc } })) ∧
    (∀ p : Nat, s.place e x a false = .at_ p → inRegs p = true →
      (f.op = 0x11 → a % 4 = 0 → (s.regQ e).length < 8 → ∃ t : State, exec (.ld e) s = .next t ∧
        t.ctx e x = { (s.ctx e x).retire with rd := (s.ctx e x).rd ++ [(f.a, none)] } ∧
        t.regQ e = s.regQ e ++ [{ addr := p, word := none, ctx := some x.val }] ∧
        (∀ m : Nat, m ≠ e → t.regQ m = s.regQ m) ∧ s.otherCtxs t e x ∧
        t = { s with freeCtr := u.freeCtr, eng := { s.eng with ctxs := t.eng.ctxs, regQ := t.eng.regQ } }) ∧
      (f.op = 0x11 → a % 4 = 0 → 8 ≤ (s.regQ e).length → exec (.ld e) s = .next u) ∧
      (f.op = 0x13 → a % 8 = 0 → ∃ t : State, exec (.lda e) s = .next t ∧ (t.ctx e x).g = (s.ctx e x).g ∧
        (∀ k : Nat, k % 4 ≠ f.a % 4 → (t.ctx e x).accu k = (s.ctx e x).accu k) ∧
        (s.ctx e x).sameFlags (t.ctx e x) ∧ (s.ctx e x).advances (t.ctx e x) ∧ u.bump.onlyCtx t e x)) ∧
    (∀ p : Nat, s.place e x a true = .at_ p → inRegs p = true →
      (f.op = 0x12 → a % 4 = 0 → (s.regQ e).length < 8 → ∃ t : State, exec (.st e) s = .next t ∧
        t.ctx e x = (s.ctx e x).retire ∧ t.regQ e = s.regQ e ++ [{ addr := p, word := some ((s.ctx e x).reg f.a) }] ∧
        (∀ m : Nat, m ≠ e → t.regQ m = s.regQ m) ∧ s.otherCtxs t e x ∧
        t = { s with freeCtr := u.freeCtr, eng := { s.eng with ctxs := t.eng.ctxs, regQ := t.eng.regQ } }) ∧
      (f.op = 0x12 → a % 4 = 0 → 8 ≤ (s.regQ e).length → exec (.st e) s = .next u) ∧
      (f.op = 0x14 → a % 8 = 0 → (s.regQ e).length < 7 → ∃ (t : State) (v w : Word), exec (.sta e) s = .next t ∧
        t.ctx e x = (s.ctx e x).retire ∧ t.regQ e = s.regQ e ++ [{ addr := p, word := some v }, { addr := p + 4, word := some w }] ∧
        (∀ m : Nat, m ≠ e → t.regQ m = s.regQ m) ∧ s.otherCtxs t e x ∧
        t = { s with freeCtr := u.freeCtr + 1, eng := { s.eng with ctxs := t.eng.ctxs, regQ := t.eng.regQ } }) ∧
      (f.op = 0x14 → a % 8 = 0 → 7 ≤ (s.regQ e).length → exec (.sta e) s = .next u)) ∧
    (∀ c : Instr, (c = .ld e ∧ f.op = 0x11 ∧ a % 4 ≠ 0) ∨ (c = .st e ∧ f.op = 0x12 ∧ a % 4 ≠ 0) ∨
        (c = .lda e ∧ f.op = 0x13 ∧ a % 8 ≠ 0) ∨ (c = .sta e ∧ f.op = 0x14 ∧ a % 8 ≠ 0) →
      exec c s = .next (s.violate e x 7 a).settle) ∧
    (∀ (c : Instr) (wr : Bool) (q : Nat), (c = .ld e ∧ f.op = 0x11 ∧ a % 4 = 0 ∧ wr = false) ∨
        (c = .st e ∧ f.op = 0x12 ∧ a % 4 = 0 ∧ wr = true) ∨ (c = .lda e ∧ f.op = 0x13 ∧ a % 8 = 0 ∧ wr = false) ∨
        (c = .sta e ∧ f.op = 0x14 ∧ a % 8 = 0 ∧ wr = true) → s.place e x a wr = .viol q →
      exec c s = .next (u.violate e x q a).settle) ∧
    (∀ p : Nat, inRegs p = false → 2 ≤ s.eccAt p →
      (∀ c : Instr, (c = .ld e ∧ f.op = 0x11 ∧ a % 4 = 0) ∨ (c = .lda e ∧ f.op = 0x13 ∧ a % 8 = 0) →
        s.place e x a false = .at_ p → exec c s = .next ((u.memFind e p).1.violate e x 8 a).settle) ∧
      (f.op = 0x12 → a % 4 = 0 → s.place e x a true = .at_ p →
        exec (.st e) s = .next ((u.memWr32 e p ((s.ctx e x).reg f.a).toNat).1.violate e x 8 a).settle)))

/-- BIQ, FIR, GAIN, MIX and LIM write their samples to the destination; an operand outside data memory is a violation; a stop in the middle loses nothing (09_zuelm_engines_and_gallery.md R206; 09_zuelm_engines_and_gallery.md R208; 09_zuelm_engines_and_gallery.md R209; 09_zuelm_engines_and_gallery.md R221). -/
def Obligations.BlockInstructionsFilterAndScale : Prop :=
  (∀ (e : Nat) (n a : Nat) (v : Int) (s : State) (b0 b1 b2 a1 a2 z1 z2 y : Int),
    b0 = s.dm e a → b1 = s.dm e (a + 4) → b2 = s.dm e (a + 8) → a1 = s.dm e (a + 12) → a2 = s.dm e (a + 16) →
    z1 = s.dm e (a + 20) → z2 = s.dm e (a + 24) →
    y = clampI (-(2 ^ 31)) (2 ^ 31 - 1) ((b0 * v + z1 * 2 ^ 30 + 2 ^ 29) / 2 ^ 30) →
    (State.biqRun e 0 a v s) = (s, v, false) ∧
    ∃ u : State, (State.biqRun e (n + 1) a v s).1 = (State.biqRun e n (a + 28) y u).1 ∧
      (State.biqRun e (n + 1) a v s).2.1 = (State.biqRun e n (a + 28) y u).2.1 ∧
      u = (s.setDm e (a + 20) (clampI (-(2 ^ 31)) (2 ^ 31 - 1) ((b1 * v - a1 * y + z2 * 2 ^ 30 + 2 ^ 29) / 2 ^ 30))).setDm e
        (a + 24) (clampI (-(2 ^ 31)) (2 ^ 31 - 1) ((b2 * v - a2 * y + 2 ^ 29) / 2 ^ 30))) ∧
  (∀ (e : Fin 16) (x : Fin 3) (f : Iw) (s : State) (dst src cs : Nat), s.issues e x f →
    dst = ((s.ctx e x).reg f.a).toNat → src = ((s.ctx e x).reg f.b).toNat → cs = ((s.ctx e x).reg f.c).toNat →
    (f.op = 0x20 → (s.ctx e x).prog = 0 → ∀ k : Nat, k = f.imm % 16 + 1 → s.areasGood e [(dst, f.n), (src, f.n), (cs, 7 * k)] →
      ∃ (t : State) (u : Nat → State), exec (.biq e) s = .next t ∧ s.blockEnds t e x ∧ s.onlyAreas t e dst f.n cs (7 * k) ∧
        u 0 = s ∧ t.mem = (u f.n).mem ∧
        (∀ i : Nat, i < f.n → u (i + 1) = (State.biqRun e k cs ((u i).dm e (src + 4 * i)) (u i)).1.setDm e (dst + 4 * i)
          (State.biqRun e k cs ((u i).dm e (src + 4 * i)) (u i)).2.1) ∧
        ((t.ctx e x).sat = true ↔ (s.ctx e x).sat = true ∨
          ∃ i : Nat, i < f.n ∧ (State.biqRun e k cs ((u i).dm e (src + 4 * i)) (u i)).2.2 = true)) ∧
    (f.op = 0x21 → (s.ctx e x).prog = 0 → ∀ taps : Nat, taps = f.imm % 4096 → (4 * (taps - 1) ≤ src ∨ f.n = 0) →
      s.areasGood e [(dst, f.n), (src - 4 * (taps - 1), if f.n = 0 then 0 else f.n + (taps - 1)), (cs, taps)] →
      ∃ t : State, exec (.fir e) s = .next t ∧ s.blockEnds t e x ∧ s.onlyAreas t e dst f.n dst f.n ∧
        (areasApart dst f.n (src - 4 * (taps - 1)) (f.n + (taps - 1)) → areasApart dst f.n cs taps →
          ∀ (i : Nat) (m : SatV), i < f.n →
            m = macSum ((List.range taps).map fun k => s.dm e (cs + 4 * k) * s.dm e (src + 4 * i - 4 * k)) →
            t.dm e (dst + 4 * i) = clampI (-(2 ^ 31)) (2 ^ 31 - 1) ((m.v + 2 ^ 30) / 2 ^ 31))) ∧
    (f.op = 0x21 → src < 4 * (f.imm % 4096 - 1) → f.n ≠ 0 → exec (.fir e) s = .next (s.violate e x 6 src).settle) ∧
    (f.op = 0x24 → (s.ctx e x).prog = 0 → s.areasGood e [(dst, f.n), (src, f.n)] →
      ∃ t : State, exec (.gain e) s = .next t ∧ s.blockEnds t e x ∧ s.onlyAreas t e dst f.n dst f.n ∧
        (dst = src ∨ areasApart dst f.n src f.n → ∀ q : Nat → Int,
          (∀ i : Nat, q i = (s.dm e (src + 4 * i) * ((s.ctx e x).reg f.c).toInt * 2 ^ (f.imm % 8) + 2 ^ 30) / 2 ^ 31) →
          (∀ i : Nat, i < f.n → t.dm e (dst + 4 * i) = clampI (-(2 ^ 31)) (2 ^ 31 - 1) (q i)) ∧
          ((t.ctx e x).sat = true ↔ (s.ctx e x).sat = true ∨ ∃ i : Nat, i < f.n ∧ (q i < -(2 ^ 31) ∨ 2 ^ 31 ≤ q i)))) ∧
    (f.op = 0x25 → (s.ctx e x).prog = 0 → s.areasGood e [(dst, f.n), (src, f.n)] →
      ∃ t : State, exec (.mix e) s = .next t ∧ s.blockEnds t e x ∧ s.onlyAreas t e dst f.n dst f.n ∧
        (dst = src ∨ areasApart dst f.n src f.n → ∀ i : Nat, i < f.n →
          t.dm e (dst + 4 * i) = clampI (-(2 ^ 31)) (2 ^ 31 - 1) (s.dm e (dst + 4 * i) + clampI (-(2 ^ 31)) (2 ^ 31 - 1)
            ((s.dm e (src + 4 * i) * ((s.ctx e x).reg f.c).toInt * 2 ^ (f.imm % 8) + 2 ^ 30) / 2 ^ 31)))) ∧
    (f.op = 0x26 → (s.ctx e x).prog = 0 → s.areasGood e [(dst, f.n), (src, f.n), (cs, 4)] →
      ∃ (t : State) (u : Nat → State), exec (.lim e) s = .next t ∧ s.blockEnds t e x ∧ s.onlyAreas t e dst f.n cs 4 ∧
        u 0 = s ∧ t.mem = (u f.n).mem ∧
        (∀ (i : Nat) (v gs thr m g : Int), i < f.n → v = (u i).dm e (src + 4 * i) → gs = (u i).dm e (cs + 12) →
          thr = (u i).dm e cs → m = rnd (abs32 v * gs) →
          g = (if thr < m then wrap32 (gs - wrap32 ((gs * (u i).dm e (cs + 4) + 2 ^ 30) / 2 ^ 31))
            else wrap32 (gs + wrap32 (((2 ^ 31 - 1 - gs) * (u i).dm e (cs + 8) + 2 ^ 30) / 2 ^ 31))) →
          u (i + 1) = ((u i).setDm e (cs + 12) g).setDm e (dst + 4 * i) (clampI (-thr) thr (rnd (v * g))))) ∧
    (∀ (c : Instr) (areas : List (Nat × Nat)) (q : Nat × Nat),
      (c = .biq e ∧ f.op = 0x20 ∧ areas = [(dst, f.n), (src, f.n), (cs, 7 * (f.imm % 16 + 1))]) ∨
        (c = .gain e ∧ f.op = 0x24 ∧ areas = [(dst, f.n), (src, f.n)]) ∨
        (c = .mix e ∧ f.op = 0x25 ∧ areas = [(dst, f.n), (src, f.n)]) ∨
        (c = .fir e ∧ f.op = 0x21 ∧ (4 * (f.imm % 4096 - 1) ≤ src ∨ f.n = 0) ∧
          areas = [(dst, f.n), (src - 4 * (f.imm % 4096 - 1), if f.n = 0 then 0 else f.n + (f.imm % 4096 - 1)), (cs, f.imm % 4096)]) ∨
        (c = .lim e ∧ f.op = 0x26 ∧ areas = [(dst, f.n), (src, f.n), (cs, 4)]) →
      (areasBad areas = some q → exec c s = .next (s.violate e x q.1 q.2).settle) ∧
      (areasBad areas = none → s.areasEcc e areas = some q.2 → exec c s = .next (s.violate e x 8 q.2).settle)) ∧
    (∀ (c : Instr) (n : Nat), (c = .biq e ∧ f.op = 0x20) ∨ (c = .fir e ∧ f.op = 0x21) ∨ (c = .gain e ∧ f.op = 0x24) ∨
        (c = .mix e ∧ f.op = 0x25) ∨ (c = .lim e ∧ f.op = 0x26) ∨ (c = .intp e ∧ f.op = 0x28 ∧ f.imm % 8 ≤ 4) ∨
        (c = .cpy e ∧ f.op = 0x29) ∨ (c = .clr e ∧ f.op = 0x2A) ∨ (c = .sqa e ∧ f.op = 0x2B) →
      ∃ t u : State, exec c s = .next t ∧ exec c (s.stopBlock e x n) = .next u ∧ (∀ e' x' : Nat, u.ctx e' x' = t.ctx e' x') ∧
        u = { t with eng := { t.eng with ctxs := u.eng.ctxs } }))

/-- DLW, DLR, PKA, INTP, CPY, CLR and SQA keep delay lines, peaks, interpolation, formats, zeros and sums of squares (09_zuelm_engines_and_gallery.md R206; 09_zuelm_engines_and_gallery.md R208; 09_zuelm_engines_and_gallery.md R209). -/
def Obligations.BlockInstructionsDelayAndMeasure : Prop :=
  (∀ (w : Nat) (l : List Int), (∀ v ∈ l, 0 ≤ v) → pkaMax (l.foldl (pkaPush w) []) = (l.reverse.take w).foldl max 0) ∧
  (∀ (e : Fin 16) (x : Fin 3) (f : Iw) (s : State) (dst src cs : Nat), s.issues e x f →
    dst = ((s.ctx e x).reg f.a).toNat → src = ((s.ctx e x).reg f.b).toNat → cs = ((s.ctx e x).reg f.c).toNat →
    (∀ base len w : Nat, (s.ctx e x).prog = 0 → s.lineAt e cs = (base, len, w) →
      (f.op = 0x22 → s.areasGood e [(cs, 3), (src, f.n), (base, len)] → 0 < len → f.n ≤ len → w < len →
        areasApart base len src f.n → areasApart base len cs 3 →
        ∃ t : State, exec (.dlw e) s = .next t ∧ s.blockEnds t e x ∧ s.onlyAreas t e base len (cs + 8) 1 ∧
          (∀ i : Nat, i < f.n → t.dm e (base + 4 * ((w + i) % len)) = s.dm e (src + 4 * i)) ∧
          (∀ k : Nat, k < len → (∀ i : Nat, i < f.n → k ≠ (w + i) % len) → t.dm e (base + 4 * k) = s.dm e (base + 4 * k)) ∧
          t.dmU e (cs + 8) = (w + f.n) % len) ∧
      (f.op = 0x22 → s.areasGood e [(cs, 3), (src, f.n), (base, len)] → len = 0 → 0 < f.n →
        ∃ t : State, exec (.dlw e) s = .next t ∧ ({ s with freeCtr := s.freeCtr + 1 } : State).blockEnds t e x ∧
          s.onlyAreas t e (cs + 8) 1 (cs + 8) 1) ∧
      (f.op = 0x23 → s.areasGood e [(cs, 3), (dst, f.n), (base, len)] → f.imm + f.n ≤ len → w < len →
        areasApart dst f.n base len →
        ∃ t : State, exec (.dlr e) s = .next t ∧ s.blockEnds t e x ∧ s.onlyAreas t e dst f.n dst f.n ∧
          ∀ i : Nat, i < f.n → t.dm e (dst + 4 * i) = s.dm e (base + 4 * ((w + len - f.imm - f.n + i) % len))) ∧
      (f.op = 0x23 → s.areasGood e [(cs, 3), (dst, f.n), (base, len)] → len < f.imm + f.n →
        ∃ t : State, exec (.dlr e) s = .next t ∧ ({ s with freeCtr := t.freeCtr } : State).blockEnds t e x ∧
          s.onlyAreas t e dst f.n dst f.n)) ∧
    (f.op = 0x27 → (s.ctx e x).prog = 0 → ∀ (w : Nat) (bad : Prop), w = s.dmU e cs →
      (bad ↔ 1024 < w ∨ (s.dmU e (cs + 4) ≠ 0 ∧ s.pkaBuilt e cs ≠ 0 ∧ s.pkaBuilt e cs ≠ w)) →
      (bad → s.areasGood e [(cs, 2), (src, f.n)] →
        ∃ t : State, exec (.pka e) s = .next t ∧ (∀ k : Nat, k % 16 ≠ f.a % 16 → (t.ctx e x).reg k = (s.ctx e x).reg k) ∧
          (t.ctx e x).acc = (s.ctx e x).acc ∧ (s.ctx e x).sameFlags (t.ctx e x) ∧ (s.ctx e x).advances (t.ctx e x) ∧
          s.onlyAreas t e (cs + 4) 2049 (cs + 4) 2049 ∧ ({ s with freeCtr := t.freeCtr } : State).onlyCtxAndMem t e x) ∧
      (¬bad → s.areasGood e [(cs, 2), (src, f.n), (cs, 2 + 2 * w)] → areasApart src f.n cs (2 + 2 * w) → ∀ (l : Peaks) (r : Int),
        l = (List.range f.n).foldl (fun l i => pkaPush w l (abs32 (s.dm e (src + 4 * i)))) (s.pkaLine e cs w) → r = pkaMax l →
        ∃ t : State, exec (.pka e) s = .next t ∧ t.pkaLine e cs w = l ∧ t.dmU e cs = w ∧ t.pkaBuilt e cs = w ∧
          s.onlyAreas t e cs (2 + 2 * w) cs (2 + 2 * w) ∧ ({ s with eng := { s.eng with pkaW := t.eng.pkaW } } : State).onlyCtxAndMem t e x ∧
          (s.ctx e x).regsBecome (t.ctx e x) f.a
            (BitVec.ofInt 32 (if f.imm / 65536 % 2 = 1 then max ((s.ctx e x).reg f.a).toInt r else r)) ∧
          (t.ctx e x).acc = (s.ctx e x).acc ∧ (s.ctx e x).sameFlags (t.ctx e x) ∧ (s.ctx e x).advances (t.ctx e x))) ∧
    (f.op = 0x28 → (s.ctx e x).prog = 0 → ∀ k : Nat, k = f.imm % 8 →
      (4 < k → ∃ j : Nat, j ≤ 4 ∧ (s.areasGood e [(dst, f.n * 2 ^ j), (src, f.n), (cs, 1)] →
        ∃ t : State, exec (.intp e) s = .next t ∧ ({ s with freeCtr := t.freeCtr } : State).blockEnds t e x ∧
          s.onlyAreas t e dst (f.n * 2 ^ j) cs 1)) ∧
      (k ≤ 4 → s.areasGood e [(dst, f.n * 2 ^ k), (src, f.n), (cs, 1)] → areasApart dst (f.n * 2 ^ k) src f.n →
        areasApart dst (f.n * 2 ^ k) cs 1 → areasApart src f.n cs 1 →
        ∃ t : State, exec (.intp e) s = .next t ∧ s.blockEnds t e x ∧ s.onlyAreas t e dst (f.n * 2 ^ k) cs 1 ∧
          (0 < f.n → t.dm e cs = s.dm e (src + 4 * (f.n - 1))) ∧ (f.n = 0 → t.dm e cs = s.dm e cs) ∧
          ∀ (n i : Nat) (p : Int), n < f.n → i < 2 ^ k →
            p = (if n = 0 then s.dm e cs else s.dm e (src + 4 * (n - 1))) →
            t.dm e (dst + 4 * (n * 2 ^ k + i)) =
              wrap32 (p + ((s.dm e (src + 4 * n) - p) * i + (2 ^ k / 2 : Nat)) / (2 ^ k : Nat)))) ∧
    (f.op = 0x29 → (s.ctx e x).prog = 0 → s.areasGood e [(dst, f.n), (src, f.n)] →
      ∃ t : State, exec (.cpy e) s = .next t ∧ s.blockEnds t e x ∧ s.onlyAreas t e dst f.n dst f.n ∧
        (dst = src ∨ areasApart dst f.n src f.n → ∀ i : Nat, i < f.n →
          (f.imm % 4 = 0 → t.dmU e (dst + 4 * i) = s.dmU e (src + 4 * i)) ∧
          (f.imm % 4 = 1 → t.dmU e (dst + 4 * i) = s.dmU e (src + 4 * i) % 2 ^ 16 * 2 ^ 16) ∧
          (f.imm % 4 = 2 → t.dmU e (dst + 4 * i) = s.dmU e (src + 4 * i) % 2 ^ 24 * 2 ^ 8) ∧
          (f.imm % 4 = 3 → t.dm e (dst + 4 * i) = clampI (-32768) 32767 ((s.dm e (src + 4 * i) + 32768) / 65536)))) ∧
    (f.op = 0x2A → (s.ctx e x).prog = 0 → s.areasGood e [(dst, f.n)] →
      ∃ t : State, exec (.clr e) s = .next t ∧ s.blockEnds t e x ∧ (t.ctx e x).sat = (s.ctx e x).sat ∧
        s.onlyAreas t e dst f.n dst f.n ∧ ∀ i : Nat, i < f.n → t.dmU e (dst + 4 * i) = 0) ∧
    (f.op = 0x2B → (s.ctx e x).prog = 0 → s.areasGood e [(src, f.n)] →
      ∃ (t : State) (q : Nat → Int), exec (.sqa e) s = .next t ∧ s.onlyCtx t e x ∧ (t.ctx e x).g = (s.ctx e x).g ∧
        q 0 = (s.ctx e x).accu f.a ∧ (t.ctx e x).accu f.a = q f.n ∧
        (∀ i : Nat, i < f.n → q (i + 1) =
          clampI (-(2 ^ 63)) (2 ^ 63 - 1) (q i + s.dm e (src + 4 * i) * s.dm e (src + 4 * i) / 2 ^ 31)) ∧
        (∀ k : Nat, k % 4 ≠ f.a % 4 → (t.ctx e x).accu k = (s.ctx e x).accu k) ∧ (s.ctx e x).advances (t.ctx e x) ∧
        (s.ctx e x).flagsBecome (t.ctx e x) (s.ctx e x).z (s.ctx e x).n (s.ctx e x).c (s.ctx e x).v (t.ctx e x).sat) ∧
    (∀ (c : Instr) (areas : List (Nat × Nat)) (q : Nat × Nat),
      (c = .cpy e ∧ f.op = 0x29 ∧ areas = [(dst, f.n), (src, f.n)]) ∨ (c = .clr e ∧ f.op = 0x2A ∧ areas = [(dst, f.n)]) ∨
        (c = .sqa e ∧ f.op = 0x2B ∧ areas = [(src, f.n)]) ∨
        (c = .intp e ∧ f.op = 0x28 ∧ f.imm % 8 ≤ 4 ∧ areas = [(dst, f.n * 2 ^ (f.imm % 8)), (src, f.n), (cs, 1)]) ∨
        (c = .dlw e ∧ f.op = 0x22 ∧ areas = [(cs, 3), (src, f.n), ((s.lineAt e cs).1, (s.lineAt e cs).2.1)]) ∨
        (c = .dlr e ∧ f.op = 0x23 ∧ areas = [(cs, 3), (dst, f.n), ((s.lineAt e cs).1, (s.lineAt e cs).2.1)]) ∨
        (c = .pka e ∧ f.op = 0x27 ∧ areas = if s.pkaBad e cs then [(cs, 2), (src, f.n)] else
          [(cs, 2), (src, f.n), (cs, 2 + 2 * s.dmU e cs)]) →
      (areasBad areas = some q → exec c s = .next (s.violate e x q.1 q.2).settle) ∧
      (areasBad areas = none → s.areasEcc e areas = some q.2 → exec c s = .next (s.violate e x 8 q.2).settle)))

/-- DMAI, DMAW, CHK, EVT, SIG, FLG, TBR and an unknown opcode act as R208, R216 and R222 say; a violation freezes its context (09_zuelm_engines_and_gallery.md R202; 09_zuelm_engines_and_gallery.md R207; 09_zuelm_engines_and_gallery.md R208; 09_zuelm_engines_and_gallery.md R216; 09_zuelm_engines_and_gallery.md R217; 09_zuelm_engines_and_gallery.md R221; 09_zuelm_engines_and_gallery.md R222; 02_time_base_and_clocks.md R35). -/
def Obligations.SystemInstructionsReachChannelsTasksAndEvents : Prop :=
  (∀ (e : Fin 16) (x : Fin 3) (f : Iw) (s : State), s.issues e x f →
    (∀ n : Fin 32, f.n % 32 = n.val →
      (f.op = 0x30 → s.dmaOwned e x n = true → s.chState n = chBusy →
        ∃ t : State, exec (.dmai e) s = .next t ∧ (t.ctx e x).dbsy = true ∧ (t.ctx e x).derr = (s.ctx e x).derr ∧
          (t.ctx e x).g = (s.ctx e x).g ∧ (s.ctx e x).advances (t.ctx e x) ∧ s.onlyCtx t e x) ∧
      (f.op = 0x30 → s.dmaOwned e x n = true → (s.chState n = chFrozen ∨ s.chState n = chAborted) → f.n / 32 % 2 = 0 →
        ∃ t : State, exec (.dmai e) s = .next t ∧ (t.ctx e x).derr = true ∧ (t.ctx e x).dbsy = (s.ctx e x).dbsy ∧
          (t.ctx e x).g = (s.ctx e x).g ∧ (s.ctx e x).advances (t.ctx e x) ∧ s.onlyCtx t e x) ∧
      (∀ (a : Nat) (w : Nat → Nat), f.op = 0x30 → s.dmaOwned e x n = true →
        (s.chState n = chIdle ∨ ((s.chState n = chFrozen ∨ s.chState n = chAborted) ∧ f.n / 32 % 2 = 1)) →
        a = ((s.ctx e x).reg f.b).toNat → (∀ i : Nat, w i = s.dmU e (a + 4 * i)) →
        (a % 8 ≠ 0 → exec (.dmai e) s = .next (s.violate e x 7 a).settle) ∧
        (a % 8 = 0 → (a < 0x10000 ∨ 0x20000 < a + 16) → exec (.dmai e) s = .next (s.violate e x 6 a).settle) ∧
        (a % 8 = 0 → 0x10000 ≤ a → a + 16 ≤ 0x20000 → 2 ≤ s.eccAt (localBase e + a) →
          exec (.dmai e) s = .next (s.violate e x 8 a).settle) ∧
        (a % 8 = 0 → 0x10000 ≤ a → a + 16 ≤ 0x20000 → s.eccAt (localBase e + a) < 2 → s.eccAt (localBase e + a + 8) < 2 →
          (w 0 % 4 ≠ 0 ∨ w 1 % 4 ≠ 0 ∨ signedN 16 (w 3) % 4 ≠ 0 ∨ signedN 16 (w 3 / 65536) % 4 ≠ 0) →
          exec (.dmai e) s = .next (s.violate e x 7 a).settle)) ∧
      (∀ (a : Nat) (w : Nat → Nat), f.op = 0x30 → s.dmaOwned e x n = true →
        (s.chState n = chIdle ∨ ((s.chState n = chFrozen ∨ s.chState n = chAborted) ∧ f.n / 32 % 2 = 1)) →
        a = ((s.ctx e x).reg f.b).toNat → a % 8 = 0 → 0x10000 ≤ a → a + 16 ≤ 0x20000 → (∀ i : Nat, w i = s.dmU e (a + 4 * i)) →
        s.eccAt (localBase e + a) < 2 → s.eccAt (localBase e + a + 8) < 2 →
        w 0 % 4 = 0 → w 1 % 4 = 0 → signedN 16 (w 3) % 4 = 0 → signedN 16 (w 3 / 65536) % 4 = 0 →
        ∃ t : State, exec (.dmai e) s = .next (if w 2 % 65536 = 0 then t.dmaComplete n else t) ∧ t.chState n = chBusy ∧ t.get (R.DMA_ST.BCTX n) = x ∧
          t.get (R.DMA_ST.CAUSE n) = 0 ∧ t.get (R.DMA_ST.DONE n) = 0 ∧ t.get (R.DMA_SRC.V n) = w 0 ∧ t.get (R.DMA_DST.V n) = w 1 ∧
          t.dma n = Dma.mk (w 2 % 65536) (signedN 16 (w 3)) (signedN 16 (w 3 / 65536)) ∧
          (t.ctx e x).dbsy = false ∧ (s.ctx e x).advances (t.ctx e x) ∧
          s.onlyRegs t [R.DMA_ST.at n, R.DMA_SRC.at n, R.DMA_DST.at n] ∧
          (∀ k : Nat, k ≠ n → t.dma k = s.dma k) ∧ (t.ctx e x).g = (s.ctx e x).g ∧ s.otherCtxs t e x ∧
          t = { s with regs := t.regs, eng := { s.eng with ctxs := t.eng.ctxs, dmas := t.eng.dmas } }) ∧
      (f.op = 0x31 → s.dmaOwned e x n = true → s.chState n = chBusy → s.get (R.DMA_ST.BCTX n) = x →
        ∃ t : State, exec (.dmaw e) s = .next t ∧ t.cxState e x = 4 ∧ t.running? e = none ∧
          (t.ctx e x).wait = some (.dma n) ∧ (s.ctx e x).sameData (t.ctx e x) ∧ s.onlyFields t [R.ENG_CTX.STATE e x] ∧
          s.otherCtxs t e x ∧
          t = { s with regs := t.regs, eng := { s.eng with ctxs := t.eng.ctxs, run := t.eng.run } }) ∧
      (f.op = 0x31 → s.dmaOwned e x n = true → ¬(s.chState n = chBusy ∧ s.get (R.DMA_ST.BCTX n) = x) →
        ∃ t : State, exec (.dmaw e) s = .next t ∧ ((s.chState n = chFrozen ∨ s.chState n = chAborted) → (t.ctx e x).derr = true) ∧
          (s.chState n = chIdle → s.get (R.DMA_ST.BCTX n) = x → s.get (R.DMA_ST.DONE n) = (s.dma n).cnt → (t.ctx e x).derr = false) ∧
          (t.ctx e x).g = (s.ctx e x).g ∧ (s.ctx e x).advances (t.ctx e x) ∧ s.onlyCtx t e x) ∧
      (∀ c : Instr, (c = .dmai e ∧ f.op = 0x30) ∨ (c = .dmaw e ∧ f.op = 0x31) → s.dmaOwned e x n = false →
        ∃ v : Nat, exec c s = .next (({ s with freeCtr := s.freeCtr + 1 } : State).violate e x 0xA v).settle)) ∧
    (f.op = 0x32 → ∃ u : State, exec (.chk e) s = .next (u.dripCheckIn (f.imm % 16)) ∧
      (s.ctx e x).sameData (u.ctx e x) ∧ (s.ctx e x).advances (u.ctx e x) ∧ s.onlyCtx u e x) ∧
    (f.op = 0x33 → 0x0900 ≤ f.imm % 65536 → f.imm % 65536 ≤ 0x09FF →
      ∃ u : State, exec (.evt e) s = .next (u.raise (f.imm % 65536) (f.n % 4)
          (le 1 e ++ le 1 x ++ le 4 ((s.ctx e x).reg f.b).toNat ++ le 4 ((s.ctx e x).reg f.c).toNat)) ∧
        (s.ctx e x).sameData (u.ctx e x) ∧ (s.ctx e x).advances (u.ctx e x) ∧ s.onlyCtx u e x) ∧
    (f.op = 0x33 → (f.imm % 65536 < 0x0900 ∨ 0x09FF < f.imm % 65536) →
      ∃ v : Nat, exec (.evt e) s = .next (({ s with freeCtr := s.freeCtr + 1 } : State).violate e x 0xB v).settle) ∧
    (f.op = 0x34 → ∃ u : State,
      exec (.sig e) s = .next (if f.imm / 16 % 4 < 3 ∧ u.get (R.ENG_TRG.SRC (f.imm % 16) (f.imm / 16 % 4)) = 2
        then u.activate (f.imm % 16) (f.imm / 16 % 4) else u) ∧
        (s.ctx e x).sameData (u.ctx e x) ∧ (s.ctx e x).advances (u.ctx e x) ∧ s.onlyCtx u e x) ∧
    (f.op = 0x35 → ∃ t : State, exec (.flg e) s = .next t ∧
      (t.ctx e x).sat = ((s.ctx e x).sat && !f.imm.testBit 0 || f.n.testBit 0) ∧
      (∀ k : Nat, k < 4 → (t.ctx e x).u.getLsbD k = ((s.ctx e x).u.getLsbD k && !f.imm.testBit (k + 1) || f.n.testBit (k + 1))) ∧
      (t.ctx e x).dbsy = ((s.ctx e x).dbsy && !f.imm.testBit 5 || f.n.testBit 5) ∧
      (t.ctx e x).derr = ((s.ctx e x).derr && !f.imm.testBit 6 || f.n.testBit 6) ∧
      (t.ctx e x).z = (s.ctx e x).z ∧ (t.ctx e x).n = (s.ctx e x).n ∧ (t.ctx e x).c = (s.ctx e x).c ∧ (t.ctx e x).v = (s.ctx e x).v ∧
      (t.ctx e x).g = (s.ctx e x).g ∧ (t.ctx e x).acc = (s.ctx e x).acc ∧ (s.ctx e x).advances (t.ctx e x) ∧ s.onlyCtx t e x) ∧
    (f.op = 0x36 → ∃ (t : State) (v : Nat), exec (.tbr e) s = .next t ∧ s.nearNow v ∧
      (t.ctx e x).reg f.a = BitVec.ofNat 32 v ∧ (t.ctx e x).reg (f.a + 1) = BitVec.ofNat 32 (v / 2 ^ 32) ∧
      (∀ k : Nat, k % 16 ≠ f.a % 16 → k % 16 ≠ (f.a + 1) % 16 → (t.ctx e x).reg k = (s.ctx e x).reg k) ∧
      (t.ctx e x).acc = (s.ctx e x).acc ∧ (s.ctx e x).sameFlags (t.ctx e x) ∧ (s.ctx e x).advances (t.ctx e x) ∧
      ({ s with freeCtr := s.freeCtr + 1 } : State).onlyCtx t e x)) ∧
  (∀ (e : Fin 16) (s : State), s.issuing e = none → exec (.illegalOpcode e) s = .next s) ∧
  (∀ (e : Fin 16) (x : Nat) (s : State), s.issuing e = some x →
    (opKnown (s.instrAt e (s.ctx e x).pc).op = true → exec (.illegalOpcode e) s = .next s) ∧
    (opKnown (s.instrAt e (s.ctx e x).pc).op = false → exec (.illegalOpcode e) s =
      .next (if 2 ≤ s.eccAt (localBase e + 8 * (s.ctx e x).pc) then s.violate e x 8 (8 * (s.ctx e x).pc) else s.violate e x 4 0).settle)) ∧
  (∀ (e : Fin 16) (x : Fin 3) (cause addr : Nat) (s : State), cause < 16 → (s.ctx e x).pc < 8192 → addr < 2 ^ 32 →
    (s.violate e x cause addr).cxState e x = cxFrozen ∧
      (s.violate e x cause addr).get (R.ENG_VIO.CAUSE e x) = cause ∧
      (s.violate e x cause addr).get (R.ENG_VIO.FPC e x) = (s.ctx e x).pc ∧
      (s.violate e x cause addr).get (R.ENG_VADR.V e x) = (if cause = 4 ∨ cause = 5 ∨ cause = 9 then 0 else addr) ∧
      (s.violate e x cause addr).ctx e x = { s.ctx e x with wait := none } ∧
      (s.violate e x cause addr).running? e ≠ some x.val ∧
      (∀ n : Fin 32, (s.violate e x cause addr).chState n =
        if s.get (R.DMA_CH.ENG n) = e ∧ s.get (R.DMA_ST.BCTX n) = x ∧ s.chState n = chBusy then chAborted else s.chState n) ∧
      s.onlyFields (s.violate e x cause addr) ([R.ENG_CTX.STATE e x, R.ENG_VIO.CAUSE e x, R.ENG_VIO.FPC e x, R.ENG_VADR.V e x] ++
        (List.range 32).map R.DMA_ST.STATE ++ evFields) ∧
      (s.violate e x cause addr) = { s with
        regs := (s.violate e x cause addr).regs, fls := (s.violate e x cause addr).fls,
        freeCtr := (s.violate e x cause addr).freeCtr
        eng := { s.eng with ctxs := (s.violate e x cause addr).eng.ctxs, run := (s.violate e x cause addr).eng.run } })

/-- RUN, RSTRT, POLICY_RESTART, an activation, a switch, a returning read and the end of WAITT move contexts as R200 to R222 say (09_zuelm_engines_and_gallery.md R200; 09_zuelm_engines_and_gallery.md R201; 09_zuelm_engines_and_gallery.md R202; 09_zuelm_engines_and_gallery.md R203; 09_zuelm_engines_and_gallery.md R204; 09_zuelm_engines_and_gallery.md R219; 09_zuelm_engines_and_gallery.md R222). -/
def Obligations.EnginesStartStopSwitchAndRestart : Prop :=
  (∀ (e : Fin 16) (s : State), s.coreRuns = true → s.engRun e = false →
    ∃ t : State, exec (.engRunSet e) s = .next t ∧ t.engRun e = true ∧ t.running? e = none ∧
      (∀ x : Fin 3, t.ctx e x = { pc := s.get (R.ENG_ENTRY.PC e x) } ∧ t.get (R.ENG_CTX.RSTCNT e x) = 0 ∧
        t.cxState e x = if s.bit (R.ENG_CTX.EN e x) then cxReady else cxStop) ∧
      (∀ e' x' : Nat, x' < 3 → e' ≠ e → t.ctx e' x' = s.ctx e' x') ∧
      s.onlyFields t ([R.ENG_CTL.RUN e] ++ (List.range 3).map (fun x => R.ENG_CTX.STATE e x) ++
        (List.range 3).map (fun x => R.ENG_CTX.RSTCNT e x)) ∧
      (∀ m : Nat, (t.regQ m).map (fun q => (q.addr, q.word)) = (s.regQ m).map (fun q => (q.addr, q.word))) ∧
      (∀ x : Fin 3, ∀ q ∈ t.regQ e, q.ctx ≠ some x.val) ∧
      t = { s with regs := t.regs, eng := { s.eng with ctxs := t.eng.ctxs, run := t.eng.run, regQ := t.eng.regQ } }) ∧
  (∀ (e : Fin 16) (s : State), s.coreRuns = true → s.engRun e = true →
    ∃ u : State, exec (.engRunClear e) s = .next u.settle ∧ u.engRun e = false ∧ u.running? e = none ∧
      (∀ x : Fin 3, u.cxState e x = cxStop ∧ u.ctx e x = { s.ctx e x with pend := false, wait := none, rd := [] }) ∧
      (∀ n : Fin 32, u.chState n = if s.get (R.DMA_CH.ENG n) = e ∧ s.chState n = chBusy then chAborted else s.chState n) ∧
      (∀ e' x' : Nat, x' < 3 → e' ≠ e → u.ctx e' x' = s.ctx e' x') ∧
      s.onlyFields u ([R.ENG_CTL.RUN e] ++ (List.range 3).map (fun x => R.ENG_CTX.STATE e x) ++
        (List.range 32).map R.DMA_ST.STATE) ∧
      (∀ m : Nat, (u.regQ m).map (fun q => (q.addr, q.word)) = (s.regQ m).map (fun q => (q.addr, q.word))) ∧
      (∀ x : Fin 3, ∀ q ∈ u.regQ e, q.ctx ≠ some x.val) ∧
      u = { s with regs := u.regs, eng := { s.eng with ctxs := u.eng.ctxs, run := u.eng.run, regQ := u.eng.regQ } }) ∧
  (∀ (e : Fin 16) (s : State), (s.coreRuns = false ∨ s.engRun e = true → exec (.engRunSet e) s = .next s) ∧
    (s.coreRuns = false ∨ s.engRun e = false → exec (.engRunClear e) s = .next s)) ∧
  (∀ (e : Fin 16) (x : Fin 3) (n : Nat) (s : State), s.coreRuns = false →
    exec (.rstrt e x) s = .next s ∧ exec (.policyRestart e x) s = .next s ∧ exec (.tbActivation e x) s = .next s ∧
      exec (.contextSwitch ⟨e, n⟩) s = .next s ∧ exec (.registerReadReturn e x) s = .next s ∧ exec (.waittResume e x) s = .next s) ∧
  (∀ (e : Fin 16) (x : Fin 3) (s : State) (c : Instr), s.coreRuns = true → s.cxState e x = cxFrozen →
    (c = .rstrt e x ∨ (c = .policyRestart e x ∧ s.fpolOf e x = 1)) →
    ∃ u : State, exec c s = .next u.settle ∧ u.cxState e x = cxIdle ∧ u.ctx e x = { pc := s.get (R.ENG_ENTRY.PC e x) } ∧
      u.get (R.ENG_CTX.RSTCNT e x) = (if c = .rstrt e x then s.get (R.ENG_CTX.RSTCNT e x)
        else min 255 (s.get (R.ENG_CTX.RSTCNT e x) + 1)) ∧
      (∀ n : Fin 32, u.chState n =
        if s.get (R.DMA_CH.ENG n) = e ∧ s.get (R.DMA_ST.BCTX n) = x ∧ s.chState n = chBusy then chAborted else s.chState n) ∧
      s.otherCtxs u e x ∧
      s.onlyFields u ([R.ENG_CTX.STATE e x, R.ENG_CTX.RSTCNT e x] ++ (List.range 32).map R.DMA_ST.STATE ++ evFields) ∧
      (∀ m : Nat, (u.regQ m).map (fun q => (q.addr, q.word)) = (s.regQ m).map (fun q => (q.addr, q.word))) ∧
      (∀ q ∈ u.regQ e, q.ctx ≠ some x.val) ∧
      u = { s with regs := u.regs, fls := u.fls, freeCtr := u.freeCtr
                   eng := { s.eng with ctxs := u.eng.ctxs, regQ := u.eng.regQ } }) ∧
  (∀ (e : Fin 16) (x : Fin 3) (s : State), s.coreRuns = true → s.cxState e x ≠ cxFrozen → exec (.rstrt e x) s = .next s.settle) ∧
  (∀ (e : Fin 16) (x : Fin 3) (s : State), (s.cxState e x ≠ cxFrozen ∨ s.fpolOf e x ≠ 1) → exec (.policyRestart e x) s = .next s) ∧
  (∀ (e : Fin 16) (x : Fin 3) (s : State), s.get (R.ENG_TRG.SRC e x) ≠ 1 → exec (.tbActivation e x) s = .next s) ∧
  (∀ (e : Fin 16) (x : Fin 3) (s : State), s.coreRuns = true → s.get (R.ENG_TRG.SRC e x) = 1 →
    (s.cxState e x = cxStop ∨ s.cxState e x = cxFrozen → exec (.tbActivation e x) s = .next s) ∧
    (s.cxState e x = cxIdle → ∃ t : State, exec (.tbActivation e x) s = .next t ∧ t.cxState e x = cxReady ∧
      s.onlyFields t [R.ENG_CTX.STATE e x] ∧ s.onlyRegsDiffer t) ∧
    (s.cxState e x ≠ cxStop → s.cxState e x ≠ cxFrozen → s.cxState e x ≠ cxIdle →
      ∃ t : State, exec (.tbActivation e x) s = .next t ∧ t.ctx e x = { s.ctx e x with pend := true } ∧
        t.get (R.ENG_CTX.OVRN e x) = min 255 (s.get (R.ENG_CTX.OVRN e x) + 1) ∧ s.otherCtxs t e x ∧
        s.onlyFields t ([R.ENG_CTX.OVRN e x] ++ evFields) ∧
        t = { s with regs := t.regs, fls := t.fls, freeCtr := t.freeCtr, eng := { s.eng with ctxs := t.eng.ctxs } })) ∧
  (∀ (e : Fin 16) (x : Fin 3) (n : Nat) (s v : State), s.eclkRuns = true → s.engRun e = true →
    (s.cxState e x = cxReady ∨ s.cxState e x = cxRun) → (∀ y : Fin 3, y < x → s.cxState e y ≠ cxReady ∧ s.cxState e y ≠ cxRun) →
    v = (match s.running? e with
      | some y => if s.cxState e y = cxRun ∧ s.preempted e y = true then s.stopBlock e y n else s
      | none => s) →
    ((v.ctx e x).parBad = false →
      ∃ t : State, exec (.contextSwitch ⟨e, n⟩) s = .next t ∧ t.running? e = some x.val ∧
        (s.running? e ≠ some x.val → t.cxState e x = cxRun) ∧
        (∀ y : Fin 3, y ≠ x → t.cxState e y = if s.running? e = some y.val ∧ s.cxState e y = cxRun then cxReady else s.cxState e y) ∧
        v.onlyFields t ((List.range 3).map (fun y => R.ENG_CTX.STATE e y) ++
          (match s.running? e with | some y => [R.ENG_CTX.STATE e y] | none => [])) ∧
        t = { v with regs := t.regs, eng := { v.eng with run := t.eng.run } }) ∧
    ((s.ctx e x).parBad = true → s.running? e = none →
      ∃ t : State, exec (.contextSwitch ⟨e, n⟩) s = .next t.settle ∧ t.cxState e x = cxFrozen ∧
        t.get (R.ENG_VIO.CAUSE e x) = 9 ∧ t.get (R.ENG_VADR.V e x) = 0 ∧ t.running? e ≠ some x.val ∧ t.mem = s.mem)) ∧
  (∀ (e : Fin 16) (n : Nat) (s : State), (∀ y : Nat, s.running? e = some y → y < 3) →
    (s.eclkRuns = false ∨ s.engRun e = false ∨ (∀ y : Fin 3, s.cxState e y ≠ cxReady ∧ s.cxState e y ≠ cxRun)) →
    exec (.contextSwitch ⟨e, n⟩) s = .next s) ∧
  (∀ (e : Fin 16) (x : Fin 3) (r : Nat) (q : List (Nat × Option Word)) (s : State), (s.ctx e x).rd = (r, none) :: q →
    exec (.registerReadReturn e x) s = .next s) ∧
  (∀ (e : Fin 16) (x : Fin 3) (r : Nat) (w : Word) (q : List (Nat × Option Word)) (s : State), s.coreRuns = true →
    (s.ctx e x).rd = (r, some w) :: q →
    ∃ t : State, exec (.registerReadReturn e x) s = .next t ∧ (s.ctx e x).regsBecome (t.ctx e x) r w ∧ (t.ctx e x).rd = q ∧
      (s.ctx e x).sameFlags (t.ctx e x) ∧ (t.ctx e x).acc = (s.ctx e x).acc ∧ (t.ctx e x).pc = (s.ctx e x).pc ∧ s.onlyCtx t e x) ∧
  (∀ (e : Fin 16) (x : Fin 3) (s : State), (s.ctx e x).rd = [] → exec (.registerReadReturn e x) s = .next s) ∧
  (∀ (e : Fin 16) (x : Fin 3) (w : Word) (s : State), s.coreRuns = true → s.cxState e x = cxWaiting →
    (s.ctx e x).wait = some (.tb w) →
    ∃ t : State, exec (.waittResume e x) s = .next t ∧ t.cxState e x = cxReady ∧ t.ctx e x = { s.ctx e x with wait := none } ∧
      s.otherCtxs t e x ∧ s.onlyFields t [R.ENG_CTX.STATE e x] ∧
      t = { s with regs := t.regs, eng := { s.eng with ctxs := t.eng.ctxs } }) ∧
  (∀ (e : Fin 16) (x : Fin 3) (s : State), ¬(s.cxState e x = cxWaiting ∧ ∃ w : Word, (s.ctx e x).wait = some (.tb w)) →
    exec (.waittResume e x) s = .next s)

/-- A burst moves the elements of the picked channel or freezes it; descriptors, channel settings, DMA_RST and scrub act by R212 to R226 (09_zuelm_engines_and_gallery.md R212; 09_zuelm_engines_and_gallery.md R213; 09_zuelm_engines_and_gallery.md R215; 09_zuelm_engines_and_gallery.md R216; 09_zuelm_engines_and_gallery.md R217; 09_zuelm_engines_and_gallery.md R218; 09_zuelm_engines_and_gallery.md R220; 09_zuelm_engines_and_gallery.md R226). -/
def Obligations.TransfersWindowsAndTheScrubber : Prop :=
  (∀ (m n : Nat) (s : State), s.moverPick m = some n → n / 8 = m ∧ s.chState n = chBusy ∧
    ∀ k : Nat, k / 8 = m → s.chState k = chBusy → s.get (R.DMA_ST.BCTX n) ≤ s.get (R.DMA_ST.BCTX k)) ∧
  (∀ (left a b : Nat) (sa da : Int), (burstOf left a b sa da).length ≤ min left 8 ∧
    ∀ q ∈ burstOf left a b sa da, q.1 / 4096 = a / 4096 ∧ q.2 / 4096 = b / 4096) ∧
  (∀ (m : Fin 4) (s : State), (s.eclkRuns = false ∨ s.moverPick m = none) → exec (.dmaBurst m) s = .next s) ∧
  (∀ (m : Fin 4) (n e x len : Nat) (src dst : Nat → Nat) (l : List (Nat × Nat)) (s : State), s.eclkRuns = true →
    s.moverPick m = some n → e = s.get (R.DMA_CH.ENG n) → x = s.get (R.DMA_ST.BCTX n) → (s.dma n).cnt < 65536 →
    l = burstOf ((s.dma n).cnt - s.get (R.DMA_ST.DONE n)) (s.get (R.DMA_SRC.V n)) (s.get (R.DMA_DST.V n)) (s.dma n).sstr (s.dma n).dstr →
    len = l.length →
    (∀ q ∈ l, s.place e x q.1 false = .at_ (src q.1) ∧ inRegs (src q.1) = false ∧ s.eccAt (src q.1) < 2 ∧
      s.place e x q.2 true = .at_ (dst q.2) ∧ inRegs (dst q.2) = false ∧ s.eccAt (dst q.2) < 2 ∧
      s.overlapBad e x q.1 = false ∧ s.overlapBad e x q.2 = false) →
    ∃ u : State, exec (.dmaBurst m) s = .next u.settle ∧ u.get (R.DMA_ST.DONE n) = s.get (R.DMA_ST.DONE n) + len ∧
      u.get (R.DMA_SRC.V n) = (((s.get (R.DMA_SRC.V n) : Int) + len * (s.dma n).sstr) % 4294967296).toNat ∧
      u.get (R.DMA_DST.V n) = (((s.get (R.DMA_DST.V n) : Int) + len * (s.dma n).dstr) % 4294967296).toNat ∧
      u.chState n = (if (s.dma n).cnt ≤ s.get (R.DMA_ST.DONE n) + len then chIdle else chBusy) ∧
      (∀ a : Nat, (∀ q ∈ l, a < dst q.2 ∨ dst q.2 + 4 ≤ a) → u.rd8 a = s.rd8 a) ∧
      (∀ a b : Nat, l = [(a, b)] → u.rd32 (dst b) = s.rd32 (src a)) ∧
      u = { s with mem := u.mem, regs := u.regs, fls := u.fls, eng := u.eng, freeCtr := u.freeCtr }) ∧
  (∀ (m : Fin 4) (n e x a b p q : Nat) (s : State), s.eclkRuns = true → s.moverPick m = some n →
    e = s.get (R.DMA_CH.ENG n) → x = s.get (R.DMA_ST.BCTX n) →
    burstOf ((s.dma n).cnt - s.get (R.DMA_ST.DONE n)) (s.get (R.DMA_SRC.V n)) (s.get (R.DMA_DST.V n)) (s.dma n).sstr (s.dma n).dstr =
      [(a, b)] →
    s.overlapBad e x a = false → s.overlapBad e x b = false → s.place e x a false = .at_ p → inRegs p = false → s.eccAt p < 2 →
    s.place e x b true = .at_ q → inRegs q = true →
    ((s.regQ (16 + m)).length < 8 → ∃ u : State, exec (.dmaBurst m) s = .next u.settle ∧ u.mem = s.mem ∧
      u.regQ (16 + m) = s.regQ (16 + m) ++ [{ addr := q, word := some (BitVec.ofNat 32 (s.rd32 p)) }] ∧
      u.get (R.DMA_ST.DONE n) = (s.get (R.DMA_ST.DONE n) + 1) % 65536) ∧
    (8 ≤ (s.regQ (16 + m)).length → ∃ u : State, exec (.dmaBurst m) s = .next u.settle ∧
      u = { s with eng := { s.eng with movers := u.eng.movers } })) ∧
  (∀ (m : Fin 4) (n a b c : Nat) (l : List (Nat × Nat)) (s : State), s.eclkRuns = true → s.moverPick m = some n →
    burstOf ((s.dma n).cnt - s.get (R.DMA_ST.DONE n)) (s.get (R.DMA_SRC.V n)) (s.get (R.DMA_DST.V n)) (s.dma n).sstr (s.dma n).dstr =
      (a, b) :: l →
    s.place (s.get (R.DMA_CH.ENG n)) (s.get (R.DMA_ST.BCTX n)) a false = .viol c → 0 < c → c < 16 →
    ∃ (v u : State), exec (.dmaBurst m) s = .next u.settle ∧
      v = { s with freeCtr := v.freeCtr, eng := { s.eng with movers := v.eng.movers } } ∧
      u = v.dmaViolate n c ∧ u.chState n = chFrozen ∧ u.get (R.DMA_ST.CAUSE n) = c ∧
      u.get (R.DMA_ST.DONE n) = s.get (R.DMA_ST.DONE n) ∧ u.get (R.DMA_SRC.V n) = s.get (R.DMA_SRC.V n) ∧ u.mem = s.mem) ∧
  (∀ (w : Word) (e x i : Nat) (s : State), s.coreRuns = true → (e, x, i) = s.winSel → x < 3 →
    (s.winOpen e x = true → winBad { desc := s.eng.winHold, map := w } = false →
      ∃ t : State, exec (.winMapWrite w) s = .next t ∧ t.win e x i = { desc := s.eng.winHold, map := w } ∧
        (∀ e' x' i' : Nat, x' < 3 → i' < 16 → ¬(e' = e ∧ x' = x ∧ i' = i) → t.win e' x' i' = s.win e' x' i') ∧
        t = { s with eng := { s.eng with wins := t.eng.wins } }) ∧
    (s.winOpen e x = true → winBad { desc := s.eng.winHold, map := w } = true →
      ∃ (t : State) (v : Word), exec (.winMapWrite w) s = .next t ∧ t.win e x i = { desc := s.eng.winHold, map := v } ∧
        (∀ e' x' i' : Nat, x' < 3 → i' < 16 → ¬(e' = e ∧ x' = x ∧ i' = i) → t.win e' x' i' = s.win e' x' i') ∧
        t = { s with freeCtr := s.freeCtr + 1, eng := { s.eng with wins := t.eng.wins } }) ∧
    (s.winOpen e x = false → ∃ t : State, exec (.winMapWrite w) s = .next t ∧ t.bit R.WIN_STAT.WREJ = true ∧
      s.onlyFields t [R.WIN_STAT.WREJ] ∧ s.onlyRegsDiffer t)) ∧
  (∀ (n : Fin 32) (w : Word) (s : State), s.coreRuns = true →
    ((s.engRun (s.get (R.DMA_CH.ENG n)) || s.engRun (fldOf w (R.DMA_CH.ENG n))) = false →
      ∃ t : State, exec (.dmaChWrite n w) s = .next t ∧ t.get (R.DMA_CH.ENG n) = fldOf w (R.DMA_CH.ENG n) ∧
        t.get (R.DMA_CH.CTXM n) = fldOf w (R.DMA_CH.CTXM n) ∧
        s.onlyFields t [R.DMA_CH.ENG n, R.DMA_CH.CTXM n] ∧ s.onlyRegsDiffer t) ∧
    ((s.engRun (s.get (R.DMA_CH.ENG n)) || s.engRun (fldOf w (R.DMA_CH.ENG n))) = true →
      ∃ t : State, exec (.dmaChWrite n w) s = .next t ∧ t.bit R.DMA_STAT.WREJ = true ∧
        s.onlyFields t [R.DMA_STAT.WREJ] ∧ s.onlyRegsDiffer t)) ∧
  (∀ (w : Word) (s : State), s.coreRuns = true → ∃ u : State, exec (.dmaRst w) s = .next u.settle ∧
    (∀ n : Fin 32, u.chState n =
      if w.getLsbD n = true ∧ (s.chState n = chFrozen ∨ s.chState n = chAborted) then chIdle else s.chState n) ∧
    s.onlyFields u ((List.range 32).map R.DMA_ST.STATE ++ (List.range 32).map R.DMA_ST.CAUSE) ∧ s.onlyRegsDiffer u) ∧
  (∀ (w : Word) (n : Fin 32) (s : State), s.coreRuns = false →
    exec (.winMapWrite w) s = .next s ∧ exec (.dmaChWrite n w) s = .next s ∧ exec (.dmaRst w) s = .next s) ∧
  (∀ (k : Fin 524288) (f : EccFound) (s : State), s.eclkRuns = false → exec (.galleryScrub k f) s = .next s) ∧
  (∀ (k : Fin 524288) (a : Nat) (f : EccFound) (s : State), s.eclkRuns = true → a = 0x10000000 + 8 * k.val →
    (s.eccAt a = 0 → f = .clean → ∃ t : State, exec (.galleryScrub k f) s = .next t ∧
      t = { s with eng := { s.eng with rhoBank := t.eng.rhoBank } }) ∧
    (s.eccAt a < 2 → (s.eccAt a = 1 ∨ f = .single) → f ≠ .double →
      ∃ t : State, exec (.galleryScrub k f) s = .next t ∧ t.bit R.ENG_GSTAT.COR = true ∧ t.eccAt a = 0 ∧
        t.get R.ENG_GSTAT.CORCNT = min 65535 (s.get R.ENG_GSTAT.CORCNT + 1) ∧
        s.onlyFields t ([R.ENG_GSTAT.COR, R.ENG_GSTAT.CORCNT] ++ evFields) ∧
        t = { s with regs := t.regs, fls := t.fls, freeCtr := t.freeCtr,
                     eng := { s.eng with rhoBank := t.eng.rhoBank, ecc := t.eng.ecc } }) ∧
    ((2 ≤ s.eccAt a ∨ f = .double) → ∃ t : State, exec (.galleryScrub k f) s = .next t ∧ t.eccAt a = 3 ∧
      t.bit R.ENG_GSTAT.UNC = true ∧ t.get R.ENG_GSTAT.MST = 24 ∧ t.get R.ENG_GERR.ADR = a / 8 ∧
      s.onlyFields t ([R.ENG_GSTAT.UNC, R.ENG_GSTAT.MST, R.ENG_GERR.ADR] ++ evFields) ∧
      t = { s with regs := t.regs, fls := t.fls, freeCtr := t.freeCtr,
                   eng := { s.eng with rhoBank := t.eng.rhoBank, ecc := t.eng.ecc } }))

/-- Instruction words and their fields round-trip, an engine fetches the word last written, and each command runs at its own opcode alone (09_zuelm_engines_and_gallery.md R198; 09_zuelm_engines_and_gallery.md R205; 09_zuelm_engines_and_gallery.md R208). -/
def Obligations.EngineWordsRoundTripAndSelectTheirCommand : Prop :=
  (∀ f : Iw, f.op < 64 → f.a < 16 → f.b < 16 → f.c < 16 → f.n < 2 ^ 14 → f.imm < 2 ^ 32 → f.word < 2 ^ 64 ∧ iwOf f.word = f) ∧
  (∀ w : Nat, w < 2 ^ 64 → (iwOf w).word = w) ∧
  (∀ (e pc : Nat) (f : Iw) (s : State), f.op < 64 → f.a < 16 → f.b < 16 → f.c < 16 → f.n < 2 ^ 14 → f.imm < 2 ^ 32 →
    (s.wr64 (localBase e + 8 * pc) f.word).instrAt e pc = f) ∧
  (∀ (e : Fin 16) (l : List (Nat × Instr)),
    l = [(0x00, .nop e), (0x01, .jmp e), (0x02, .call e), (0x03, .ret e), (0x04, .loop e), (0x05, .skip e), (0x06, .wait e),
      (0x07, .waitt e), (0x08, .ldi e), (0x09, .mov e), (0x0A, .add e), (0x0B, .sub e), (0x0C, .and e), (0x0D, .or e),
      (0x0E, .xor e), (0x0F, .shf e), (0x10, .cmp e), (0x11, .ld e), (0x12, .st e), (0x13, .lda e), (0x14, .sta e)] ++
      [(0x15, .mpy e), (0x16, .mac2 e), (0x17, .rnd e), (0x20, .biq e), (0x21, .fir e), (0x22, .dlw e), (0x23, .dlr e),
      (0x24, .gain e), (0x25, .mix e), (0x26, .lim e), (0x27, .pka e), (0x28, .intp e), (0x29, .cpy e), (0x2A, .clr e),
      (0x2B, .sqa e), (0x30, .dmai e), (0x31, .dmaw e), (0x32, .chk e), (0x33, .evt e), (0x34, .sig e), (0x35, .flg e),
      (0x36, .tbr e)] →
    (∀ op : Nat, opKnown op = true ↔ ∃ c : Instr, (op, c) ∈ l) ∧
    (∀ p ∈ l, ∀ s : State, s.issuing e = none → exec p.2 s = .next s) ∧
    (∀ p ∈ l, ∀ (x : Nat) (s : State), s.issuing e = some x →
      ((s.instrAt e (s.ctx e x).pc).op ≠ p.1 ∨ (s.ctx e x).waitsRead (s.instrAt e (s.ctx e x).pc) = true) → exec p.2 s = .next s))

/-- A read of an unassigned offset inside a register block returns zero, and a write to it has no effect (00_scope.md R10). -/
def Obligations.UnassignedOffsetsReadZeroAndIgnoreWrites : Prop :=
  ∀ (m lk a : Nat) (w : Word) (s : State), inRegs a = true → a % 4 = 0 → regRow a = none →
    s.busRead m lk a = (0, s) ∧ s.busWrite m a w = s

/-- The accesses of a cycle are served from the rotation pointer on; a stored word changes as its access codes say (00_scope.md R11; 00_scope.md R12; 01_signal_to_speaker.md R21; 09_zuelm_engines_and_gallery.md R214). -/
def Obligations.RegisterWritesAreServedInOrderUnderTheirAccessCodes : Prop :=
  (∀ (l : List RegAccess) (s : State), s.coreRuns = true → (l.map (fun a => a.master)).Nodup →
    ∃ q : List RegAccess, q.Perm l ∧
      q.Pairwise (fun a b => (a.master.val + 25 - s.eng.rhoR % 25) % 25 < (b.master.val + 25 - s.eng.rhoR % 25) % 25) ∧
      (∀ u : State, s.serve q = u → exec (.registerWrite l) s =
        .next ({ u with eng := { u.eng with
          rhoR := match q.getLast? with | some a => (a.master.val + 1) % 25 | none => s.eng.rhoR } } : State).settle)) ∧
  (∀ (l : List RegAccess) (s : State), s.coreRuns = false → exec (.registerWrite l) s = .next s) ∧
  (∀ (a : RegAccess) (l : List RegAccess) (s : State),
    (a.queued = false → a.read = false → a.hw = 0 →
      s.serve (a :: l) = (s.busWrite a.master.val a.addr.toNat a.value).serve l) ∧
    (a.queued = false → a.read = true → ∃ k : Nat,
      s.serve (a :: l) = (s.busRead a.master.val k a.addr.toNat).2.serve l) ∧
    (a.queued = true → (20 ≤ a.master.val ∨ s.regQ a.master.val = []) → s.serve (a :: l) = s.serve l) ∧
    (∀ (q : QAcc) (r : List QAcc) (u : State), a.queued = true → a.master.val < 20 → s.regQ a.master.val = q :: r →
      u = s.setRegQ a.master.val r →
      (∀ w : Word, q.word = some w → s.serve (a :: l) = (u.busWrite a.master.val q.addr w).serve l) ∧
      (∀ x : Nat, q.word = none → q.ctx = some x →
        s.serve (a :: l) = ((u.busRead a.master.val (3 * a.master.val + x) q.addr).2.modCtx a.master.val x fun c =>
          { c with rd := fillRead (u.busRead a.master.val (3 * a.master.val + x) q.addr).1 c.rd }).serve l))) ∧
  (∀ (m a : Nat) (w : Word) (s : State),
    (s.busBad m a w = none → s.busWrite m a w = s.busWr m a w) ∧
    (∀ r : Nat, s.busBad m a w = some r → ∃ v : Word,
      s.busWrite m a w = ({ s with freeCtr := s.freeCtr + 1 } : State).busWr m (a / 4 * 4) v)) ∧
  (∀ (a i : Nat) (r : RegRow) (w : Word) (s : State), regRow a = some r → i < 32 → r.w1c.testBit i = true → w.getLsbD i = true →
    (∀ f ∈ hwCounters, f.addr = a → i < f.lo ∨ f.hi < i) → ((s.hwUpdate a w).reg a).getLsbD i = true) ∧
  (∀ (a i : Nat) (r : RegRow) (w : Word) (s : State), regRow a = some r → i < 32 →
    ((s.plainWrite a w).reg a).getLsbD i =
      (if r.rw.testBit i ∨ (modeRwl s.sys.mode = true ∧ r.rwl.testBit i) then w.getLsbD i
      else if r.w1c.testBit i ∧ w.getLsbD i then false else (s.reg a).getLsbD i) ∧
    s.onlyRegs (s.plainWrite a w) [a] ∧ s.onlyRegsDiffer (s.plainWrite a w)) ∧
  (∀ (m a : Nat) (w : Word) (s : State), inRegs a = true →
    (blkOf a = 0x40060 ∨ blkOf a = 0x400E0 ∨ blkOf a = 0x400F0 ∨ blkOf a = 0x40120) → s.busWr m a w = s.plainWrite a w) ∧
  (∀ (m a : Nat) (w : Word) (s : State), m < 20 → inRegs a = true →
    (blkOf a = 0x40090 ∨ blkOf a = 0x400A0 ∨ blkOf a = 0x400B0 ∨ blkOf a = 0x40100) → s.busWr m a w = s)

/-- LOAD discovers the flash, tries the copies by GEN, checks headers, tables and sections, clears a failed copy, and ends in SELFTEST or HOLD (12_image_and_start.md R265; 12_image_and_start.md R266; 12_image_and_start.md R268; 12_image_and_start.md R272; 12_image_and_start.md R273; 12_image_and_start.md R275; 12_image_and_start.md R284; 11_modes.md R248). -/
def Obligations.TheLoaderChecksCopiesAndSections : Prop :=
  (∀ (p : FlashParams) (s : State), s.loading .discover = true → (p.sfdp = false ∨ p.statusWrite = false ∨ s.pwr.inh = false) →
    ∃ t : State, exec (.flashDiscovery p) s = .next t ∧
      t.img = { s.img with par := p, phase := .header 0, hdrs := 0, order := [] } ∧
      t.bit R.IMG_STAT.QERR = !p.sfdp ∧ t.get R.IMG_QCFG.DENS = (if p.sfdp then p.dens.toNat else 0) ∧
      t.bit R.IMG_STAT.NOSUSP = (p.sfdp && p.suspend.isNone) ∧
      t = { s with regs := t.regs, fls := t.fls, img := t.img }) ∧
  (∀ (p : FlashParams) (s : State), p.sfdp = true → p.statusWrite = true → s.pwr.inh = true →
    exec (.flashDiscovery p) s = .next s) ∧
  (∀ (s : State) (code : Nat), s.loading (.header 0) = true → s.copyBExists = true →
    code = hdrCheck (s.get R.SYS_ID.SREV) (s.hdrAt 0) →
    ∃ u : State, exec .headerReadDone s = .next u.settle ∧
      u.img = { s.img with phase := .header 1, hdrs := if code = 0 then s.img.hdrs + 1 else s.img.hdrs } ∧
      (code ≠ 0 → u.get R.IMG_CHK.CODE = code ∧ u.get R.IMG_CHK.SIDX = 0xFF ∧ u.get R.IMG_CHK.WHEN = 0 ∧ u.get R.IMG_CHK.CPY = 0) ∧
      u = { s with regs := u.regs, fls := u.fls, img := u.img }) ∧
  (∀ s : State, s.loading (.header 1) = true → hdrCheck (s.get R.SYS_ID.SREV) (s.hdrAt 1) = 0 →
    ∃ u : State, exec .headerReadDone s = .next u.settle ∧
      (s.img.hdrs = 1 → (s.hdrAt 0).gen < (s.hdrAt 1).gen → u.img = { s.img with hdrs := 3, copy := 1, order := [0], phase := .table }) ∧
      (s.img.hdrs = 1 → (s.hdrAt 1).gen ≤ (s.hdrAt 0).gen → u.img = { s.img with hdrs := 3, copy := 0, order := [1], phase := .table }) ∧
      (s.img.hdrs = 0 → u.img = { s.img with hdrs := 2, copy := 1, order := [], phase := .table })) ∧
  (∀ (c : Nat) (s : State), s.loading (.header c) = true → (c = 1 ∨ (c = 0 ∧ s.copyBExists = false)) → s.img.hdrs = 0 →
    hdrCheck (s.get R.SYS_ID.SREV) (s.hdrAt c) ≠ 0 →
    ∃ u : State, exec .headerReadDone s = .next u.settle ∧ u.sys.mode = .hold ∧ u.sys.noImage = true ∧
      u.get R.IMG_STAT.COPY = 3 ∧ u.img.phase = .idle ∧ u.mem = s.mem) ∧
  (∀ (s : State) (code : Nat), s.loading .table = true → s.img.copy < 2 →
    code = s.tableCheck (s.hdrAt s.img.copy) (s.tableAt s.img.copy) →
    ∃ u : State, exec .tableReadDone s = .next u.settle ∧
      (code = 0 → u.img = { s.img with phase := .sect, idx := 0, touched := [] } ∧ s.onlyRegsFlsDiffer { u with img := s.img }) ∧
      (code ≠ 0 → u.bit R.IMG_STAT.CPYREJ = true ∧ u.get R.IMG_CHK.CODE = code ∧ u.get R.IMG_CHK.SIDX = 0xFF ∧
        u.get R.IMG_CHK.CPY = s.img.copy ∧
        (∀ (c : Nat) (l : List Nat), s.img.order = c :: l → u.img = { s.img with copy := c, order := l, phase := .table }) ∧
        (s.img.order = [] → u.sys.mode = .hold ∧ u.get R.IMG_STAT.COPY = 3))) ∧
  (∀ (x : Sec) (l : List Sec) (r : SecRes) (s : State), s.loading .sect = true → l = secsOf (s.tableAt s.img.copy) →
    l[s.img.idx]? = some x → r = s.dripMilestone.readSec l x (s.copyRd s.img.copy x.off x.len) false →
    (r.code = 0 →
      ∃ u : State, exec .sectionReadDone s = .next u.settle ∧
        u = { r.st with img := { r.st.img with
          idx := s.img.idx + 1
          phase := if s.img.idx + 1 = l.length then .complete else .sect } }) ∧
    (r.code ≠ 0 → s.img.idx < 64 → (∀ a ∈ r.st.img.touched, blkOf a ≠ 0x40100) →
      ∃ u : State, exec .sectionReadDone s = .next u.settle ∧ u.img.phase = .clear ∧ u.bit R.IMG_STAT.CPYREJ = true ∧
        u.get R.IMG_CHK.CODE = r.code ∧ u.get R.IMG_CHK.SIDX = s.img.idx ∧ u.coefs = [] ∧ u.eng.wins = [] ∧
        (∀ a : Nat, 0x20000000 ≤ a → a < 0x20200000 → u.rd8 a = 0) ∧
        (∀ a : Nat, (a < 0x20000000 ∨ 0x20200000 ≤ a) → u.rd8 a = r.st.rd8 a))) ∧
  (∀ (l : List Sec) (x : Sec) (data : List Byte) (b : Bool) (s : State), x.typ = 3 → formOk x data = true → x.sub < 16 →
    x.owner < 16 → crc32 data = x.crc → s.fuse.keyed = false → s.engRun x.sub = false →
    (s.readSec l x data b).code = 0 ∧
      (s.readSec l x data b).st.rdBytes (localBase x.sub) data.length = data ∧
      s.onlyBytes (s.readSec l x data b).st (localBase x.sub) data.length ∧
      (s.readSec l x data b).st.get (R.ENG_CTL.DOM x.sub) = x.owner ∧
      s.onlyFields (s.readSec l x data b).st [R.ENG_CTL.DOM x.sub]) ∧
  (∀ s : State, s.loading .clear = true →
    ∃ u : State, exec .copyClearDone s = .next u.settle ∧
      (∀ (c : Nat) (l : List Nat), s.img.order = c :: l → u.img = { s.img with copy := c, order := l, phase := .table } ∧
        s.onlyRegsFlsDiffer { u with img := s.img }) ∧
      (s.img.order = [] → u.sys.mode = .hold ∧ u.get R.IMG_STAT.COPY = 3 ∧ u.img.phase = .idle)) ∧
  (∀ (h : Hdr) (l : List Sec) (s : State), s.loading .complete = true → s.img.copy < 2 → h = s.hdrAt s.img.copy →
    l = secsOf (s.tableAt s.img.copy) → denCounts (denOf (s.copyRd s.img.copy) l) l = true →
    compatOf (s.copyRd s.img.copy) l = h.compat →
    ∃ u : State, exec .loadComplete s = .next u.settle ∧ u.sys.mode = .selftest ∧ u.get R.IMG_STAT.COPY = s.img.copy ∧
      u.get R.IMG_ID.V = h.imgid % 2 ^ 32 ∧ u.bit R.IMG_STAT.AUTH = s.fuse.keyed ∧ u.bit R.DRP_STAT.START = false ∧
      u.fls.evtOn = true ∧ u.fls.csrc = s.bit R.DRP_WIN.CSRC ∧ u.img.phase = .idle ∧ u.bit R.MON_TEST.BUSY = true ∧ u.mem = s.mem ∧
      (∀ x ∈ l, x.typ = 3 → x.start = true → x.sub < 16 → u.engRun x.sub = true)) ∧
  (∀ (l : List Sec) (code : Nat) (s : State), s.loading .complete = true → s.img.copy < 2 → l = secsOf (s.tableAt s.img.copy) →
    ((denCounts (denOf (s.copyRd s.img.copy) l) l = false ∧ code = 8) ∨
      (denCounts (denOf (s.copyRd s.img.copy) l) l = true ∧ code = 0xD ∧
        compatOf (s.copyRd s.img.copy) l ≠ (s.hdrAt s.img.copy).compat)) → (∀ a ∈ s.img.touched, blkOf a ≠ 0x40100) →
    ∃ u : State, exec .loadComplete s = .next u.settle ∧ u.img.phase = .clear ∧ u.get R.IMG_CHK.CODE = code ∧
      u.get R.IMG_CHK.SIDX = 0xFF ∧ u.bit R.IMG_STAT.CPYREJ = true) ∧
  (∀ s : State, s.sys.mode ≠ .load → (∀ p : FlashParams, exec (.flashDiscovery p) s = .next s) ∧
    (∀ c : Instr, c = .headerReadDone ∨ c = .tableReadDone ∨ c = .sectionReadDone ∨ c = .copyClearDone ∨ c = .loadComplete →
      exec c s = .next s))

/-- A reload checks header, table and sections of its domain, ends in PRECHARGE or OFF, and a failed check turns the domain OFF with DREJ (11_modes.md R253; 11_modes.md R259; 12_image_and_start.md R276; 12_image_and_start.md R277; 12_image_and_start.md R278; 12_image_and_start.md R282; 12_image_and_start.md R284). -/
def Obligations.AReloadRewritesOneDomainOrTurnsItOff : Prop :=
  (∀ (d : Fin 4) (k : Nat) (s : State), s.reloading d .rldTable = true → s.img.copy < 2 →
    k = (if s.img.copy = 0 then s.img.hcrcA else s.img.hcrcB) →
    ((s.hdrAt s.img.copy).hcrc = k → hdrCrc (s.hdrAt s.img.copy) (s.tableAt s.img.copy) = k →
      ∃ u : State, exec (.reloadStart d) s = .next u.settle ∧
        (∀ i : Nat, nextSec (reloadSecs (secsOf (s.tableAt s.img.copy)) d) 0 = some i →
          u.img = { s.img with idx := i, phase := .rldSection }) ∧
        (nextSec (reloadSecs (secsOf (s.tableAt s.img.copy)) d) 0 = none → u.img = { s.img with phase := .rldEnd }) ∧
        u.get R.IMG_QCFG.MODE = (readMode s.img.par (s.hdrAt s.img.copy).flags).1 ∧
        s.onlyFields u [R.IMG_QCFG.MODE, R.IMG_QCFG.D, R.IMG_QCFG.QCLK] ∧ u = { s with regs := u.regs, img := u.img }) ∧
    (((s.hdrAt s.img.copy).hcrc ≠ k ∨ hdrCrc (s.hdrAt s.img.copy) (s.tableAt s.img.copy) ≠ k) → (s.dom d).dst = .reload →
      ∃ u : State, exec (.reloadStart d) s = .next u.settle ∧ (u.dom d).dst = .off ∧ u.bitI R.IMG_STAT.DREJ d = true ∧
        u.bitI R.IMG_STAT.RLD d = false ∧ u.get R.IMG_CHK.CODE = 6 ∧ u.get R.IMG_CHK.SIDX = 0xFF ∧ u.get R.IMG_CHK.WHEN = 1 ∧
        u.img.rld = none ∧ u.img.phase = .idle ∧ u.mem = s.mem ∧ (∀ j : Nat, j ≠ d → (u.dom j).dst = (s.dom j).dst))) ∧
  (∀ (d : Fin 4) (x : Sec) (l : List Sec) (r : SecRes) (s : State), s.reloading d .rldSection = true → s.img.copy < 2 →
    l = secsOf (s.tableAt s.img.copy) → l[s.img.idx]? = some x → r = s.readSec l x (s.copyRd s.img.copy x.off x.len) true →
    (r.code = 0 → ∃ u : State, exec (.reloadSectionDone d) s = .next u.settle ∧
      (∀ i : Nat, nextSec (reloadSecs l d) (s.img.idx + 1) = some i →
        u = { r.st with img := { r.st.img with idx := i, phase := .rldSection } }) ∧
      (nextSec (reloadSecs l d) (s.img.idx + 1) = none → u = { r.st with img := { r.st.img with phase := .rldEnd } })) ∧
    (r.code ≠ 0 → s.img.idx < 64 → (r.st.dom d).dst = .reload →
      ∃ u : State, exec (.reloadSectionDone d) s = .next u.settle ∧ (u.dom d).dst = .off ∧ u.bitI R.IMG_STAT.DREJ d = true ∧
        u.bitI R.IMG_STAT.RLD d = false ∧ u.get R.IMG_CHK.CODE = r.code ∧ u.get R.IMG_CHK.SIDX = s.img.idx ∧ u.mem = r.st.mem)) ∧
  (∀ (l : List Sec) (d i k : Nat), nextSec (reloadSecs l d) i = some k → i ≤ k ∧ ∃ x : Sec, l[k]? = some x ∧
    ((secDomain x.typ = true ∧ x.owner = d) ∨ (secEngine x.typ = true ∧ progOwner l x.sub = some d))) ∧
  (∀ (d : Fin 4) (s : State), s.reloading d .rldEnd = true →
    ∃ v : State, exec (.reloadEnd d) s =
        .next (v.enterDst d (if v.bit (R.PWM_STAT.SAFEMIS d) = true ∨ modeOpen v.sys.mode = false then .off else .precharge)).settle ∧
      v.bitI R.IMG_STAT.RLD d = false ∧ v.bitI R.IMG_STAT.DSRC d = (s.img.copy == 1) ∧
      v.get R.IMG_RTIME.V = (s.now - s.img.rldT0) % 2 ^ 32 ∧ v.img.rld = none ∧ v.img.phase = .idle ∧
      v.doms = s.doms ∧ v.sys = s.sys ∧ v.mem = s.mem) ∧
  (∀ (d : Fin 4) (s : State), s.img.rld ≠ some d.val →
    exec (.reloadStart d) s = .next s ∧ exec (.reloadSectionDone d) s = .next s ∧ exec (.reloadEnd d) s = .next s) ∧
  (∀ (w : Word) (s : State), s.coreRuns = true → fldOf w R.IMG_RELOAD.GO = 0 →
    exec (.imgReloadRequest w) s = .next s.settle) ∧
  (∀ (w : Word) (src : Nat) (s : State), s.coreRuns = true → fldOf w R.IMG_RELOAD.GO ≠ 0 → src = fldOf w R.IMG_RELOAD.SRC →
    ∃ u : State, exec (.imgReloadRequest w) s = .next u.settle ∧
      (∀ d : Nat, d < 4 → (fldOf w R.IMG_RELOAD.DMASK).testBit d = true → (s.dom d).dst ≠ .off → (s.dom d).dst ≠ .reload →
        s.sys.reloadQ.contains d = false → src ≠ 3 →
        (src = 0 ∨ src - 1 = b2n (s.bitI R.IMG_STAT.DSRC d) ∨ s.copyUsable (src - 1) = true) →
        u.dom d = { s.dom d with relReq := some { copy := if src = 0 ∨ src - 1 = b2n (s.bitI R.IMG_STAT.DSRC d) then 0 else src, pdn := fldOf w R.IMG_RELOAD.PDN == 1 } }) ∧
      (∀ d : Nat, (4 ≤ d ∨ (fldOf w R.IMG_RELOAD.DMASK).testBit d = false ∨ (s.dom d).dst = .off ∨ (s.dom d).dst = .reload ∨
        s.sys.reloadQ.contains d = true ∨ src = 3 ∨
        (src ≠ 0 ∧ src - 1 ≠ b2n (s.bitI R.IMG_STAT.DSRC d) ∧ s.copyUsable (src - 1) = false)) → u.dom d = s.dom d) ∧
      (∀ d : Nat, d < 4 → (fldOf w R.IMG_RELOAD.DMASK).testBit d = true →
        ((s.dom d).dst = .off ∨ (s.dom d).dst = .reload ∨ (s.sys.reloadQ.contains d = false ∧ (src = 3 ∨
          (src ≠ 0 ∧ src - 1 ≠ b2n (s.bitI R.IMG_STAT.DSRC d) ∧ s.copyUsable (src - 1) = false)))) →
        u.bit R.IMG_STAT.RREJ = true) ∧
      s.onlyFields u (R.IMG_STAT.RREJ :: evFields) ∧
      u = { s with regs := u.regs, fls := u.fls, freeCtr := u.freeCtr, doms := u.doms })

/-- The master sends its frame; a slave passes a frame on with its own fields, loads TB_NOW, locks, takes requests; three missing frames fail the link (02_time_base_and_clocks.md R44; 02_time_base_and_clocks.md R45; 02_time_base_and_clocks.md R46; 02_time_base_and_clocks.md R47; 02_time_base_and_clocks.md R48; 02_time_base_and_clocks.md R49; 11_modes.md R256). -/
def Obligations.TheWeftLinkSendsTakesAndLosesFrames : Prop :=
  (∀ s : State, s.ensOn = true → s.ensPos = 0 →
    ∃ (t : State) (f : WeftFrame), exec .weftSofSend s = .next t ∧
      t = { s with ens := { s.ens with sent := some f, seq := s.ens.seq + 1 } } ∧ f.sym.length = 65 ∧ f.crcOk = true ∧
      f.sym.head? = some 0x1FB ∧ f.sym.getLast? = some 0x1FD ∧
      f.mtb.toNat = s.now % 2 ^ 64 ∧ f.seq = s.ens.seq ∧ f.nMinus1.toNat = s.get R.ENS_CFG.NDEV ∧
      f.cfgchk.toNat = s.get R.ENS_CFG.CFGCHK ∧ f.hopValid = s.ens.hop.isSome ∧
      (∀ h : Nat, s.ens.hop = some h → f.hop.toNat = h % 2 ^ 15) ∧
      (∀ d : Nat, d < 4 → f.rail.getD d 0 = s.railSym d) ∧ f.status.getD 0 0 = s.statusByte ∧
      (∀ (g : WeftFrame) (k : Nat), s.ens.frames.head? = some g → 4 ≤ k → k < 16 → f.rail.getD k 0 = g.rail.getD k 0) ∧
      (∀ (g : WeftFrame) (k : Nat), s.ens.frames.head? = some g → 1 ≤ k → k < 4 → f.status.getD k 0 = g.status.getD k 0)) ∧
  (∀ (f : WeftFrame) (fr : Fin 16) (c : Instr) (s : State), s.ensOn = true → f.crcOk = false →
    ((s.ensPos ≠ 0 ∧ c = .weftFrameArrive f fr) ∨ (s.ensPos = 0 ∧ c = .weftFrameReturn f fr)) →
    ∃ u : State, exec c s = .next u.ensMissing ∧ u.get R.ENS_STAT.CRCERR = min 255 (s.get R.ENS_STAT.CRCERR + 1) ∧
      (s.ensPos ≠ 0 → ∃ g : WeftFrame, u.ens.sent = some g ∧ g.crcOk = false) ∧
      s.onlyFields u [R.ENS_STAT.CRCERR] ∧ u = { s with regs := u.regs, ens := { s.ens with sent := u.ens.sent } }) ∧
  (∀ s : State, s.ensOn = true → exec .weftFrameMissing s = .next s.ensMissing) ∧
  (∀ s : State, s.ensOn = false → exec .weftFrameMissing s = .next s) ∧
  (∀ s : State,
    (¬(s.ensLocked = true ∧ 2 ≤ s.ens.miss) →
      s.ensMissing = { s with ens := { s.ens with miss := min (s.ens.miss + 1) 3, good := 0 } }) ∧
    (s.ensLocked = true → 2 ≤ s.ens.miss → ∃ u : State, s.ensMissing = u.settle ∧ u.get R.ENS_STAT.STATE = 3 ∧
      u.bit R.ENS_STAT.LOST = true ∧ u.ens.frames = s.ens.frames ∧ u.ens.mute = false ∧ u.mon = { s.mon with ensSrc := false } ∧
      s.onlyFields u [R.ENS_STAT.STATE, R.ENS_STAT.LOST] ∧ u = { s with regs := u.regs, ens := u.ens, mon := u.mon })) ∧
  (∀ (f : WeftFrame) (fr : Fin 16) (s : State), s.ensOn = true → s.ensPos ≠ 0 → f.crcOk = true → s.get R.ENS_STAT.STATE = 1 →
    (f.cfgchk.toNat ≠ s.get R.ENS_CFG.CFGCHK → ∃ t : State, exec (.weftFrameArrive f fr) s = .next t ∧
      t.bit R.ENS_STAT.CFGMIS = true ∧ t.ens.good = 0 ∧ t.ens.miss = 0 ∧
      s.onlyFields t [R.ENS_STAT.CFGMIS, R.ENS_HOPDLY.H] ∧ t = { s with regs := t.regs, ens := t.ens }) ∧
    (f.cfgchk.toNat = s.get R.ENS_CFG.CFGCHK → f.hopValid = true → s.ens.loaded = false →
      (s.allQuiet = true → ∃ t : State, exec (.weftFrameArrive f fr) s = .next t ∧
        t.now = (f.mtb.toNat + (2 * (s.ensPos * f.hop.toNat + (s.ensPos - 1) * 640) + 16) / 32) % 2 ^ 64 ∧
        t.ens.loaded = true ∧ t.bit R.ENS_STAT.NOLOAD = false ∧ t.get R.ENS_HOPDLY.H = f.hop.toNat ∧
        s.onlyFields t [R.ENS_STAT.NOLOAD, R.ENS_HOPDLY.H] ∧
        t = { s with regs := t.regs, tb := { s.tb with now := t.now }, ens := t.ens, adc := t.adc, thm := t.thm,
                     balls := t.balls, doms := t.doms, pwr := t.pwr }) ∧
      (s.allQuiet = false → ∃ t : State, exec (.weftFrameArrive f fr) s = .next t ∧ t.bit R.ENS_STAT.NOLOAD = true ∧
        t.ens.loaded = false ∧ s.onlyFields t [R.ENS_STAT.NOLOAD, R.ENS_HOPDLY.H] ∧ t = { s with regs := t.regs, ens := t.ens })) ∧
    (f.cfgchk.toNat = s.get R.ENS_CFG.CFGCHK → f.hopValid = true → s.ens.loaded = true → s.ens.errs.length < 15 →
      ((s.weftErr f fr).natAbs ≤ 16 → s.ens.good < 7 → ∃ t : State, exec (.weftFrameArrive f fr) s = .next t ∧
        t.ens.good = s.ens.good + 1 ∧ s.onlyFields t [R.ENS_HOPDLY.H] ∧ t = { s with regs := t.regs, ens := t.ens }) ∧
      (16 < (s.weftErr f fr).natAbs → ∃ t : State, exec (.weftFrameArrive f fr) s = .next t ∧
        t.ens.good = 0 ∧ s.onlyFields t [R.ENS_HOPDLY.H] ∧ t = { s with regs := t.regs, ens := t.ens }) ∧
      ((s.weftErr f fr).natAbs ≤ 16 → 7 ≤ s.ens.good → ∃ u : State, exec (.weftFrameArrive f fr) s = .next u.settle ∧
        u.get R.ENS_STAT.STATE = 2 ∧ s.onlyFields u [R.ENS_STAT.STATE, R.ENS_HOPDLY.H] ∧
        u = { s with regs := u.regs, ens := u.ens }))) ∧
  (∀ (f : WeftFrame) (fr : Fin 16) (s : State), s.weftErr f fr = ((16 * s.now + fr.val : Nat) : Int) -
    ((16 * ((f.mtb.toNat + (2 * (s.ensPos * f.hop.toNat + (s.ensPos - 1) * 640) + 16) / 32) % 2 ^ 64) : Nat) : Int)) ∧
  (∀ (f : WeftFrame) (fr : Fin 16) (s : State), s.ensOn = true → s.ensPos ≠ 0 → f.crcOk = true → s.get R.ENS_STAT.STATE = 2 →
    s.ens.errs.length < 15 →
    ∃ (u : State) (g : WeftFrame), exec (.weftFrameArrive f fr) s = .next u.settle ∧ u.ens.sent = some g ∧ g.crcOk = true ∧
      (∀ d : Nat, d < 4 → g.rail.getD (4 * s.ensPos + d) 0 = s.railSym d) ∧ g.status.getD s.ensPos 0 = s.statusByte ∧
      (∀ k : Nat, k < 16 → k / 4 ≠ s.ensPos → g.rail.getD k 0 = f.rail.getD k 0) ∧
      (∀ n : Nat, n < 4 → n ≠ s.ensPos → g.status.getD n 0 = f.status.getD n 0) ∧
      u.ens.frames = (g :: s.ens.frames).take 4 ∧ u.ens.miss = 0 ∧
      (u.ens.mute = true ↔ ∃ n : Nat, n ≤ s.get R.ENS_CFG.NDEV ∧ n ≠ s.ensPos ∧ (g.status.getD n 0).getLsbD 6 = true) ∧
      (u.mon.ensSrc = true ↔ ∃ n : Nat, n ≤ s.get R.ENS_CFG.NDEV ∧ n ≠ s.ensPos ∧ (g.status.getD n 0).getLsbD 7 = true) ∧
      s.onlyFields u [R.ENS_HOPDLY.H] ∧ u = { s with regs := u.regs, ens := u.ens, mon := u.mon }) ∧
  (∀ (f : WeftFrame) (fr : Fin 16) (rtt n : Nat) (x : Int) (s : State), s.ensOn = true → s.ensPos = 0 → f.crcOk = true →
    s.get R.ENS_STAT.STATE = 1 → s.ens.hop = none → n = s.get R.ENS_CFG.NDEV + 1 → rtt = 16 * s.now + fr.val - 16 * f.mtb.toNat →
    x = ((s.ens.rtts ++ [rtt]).foldl (· + ·) 0 : Nat) - (16 * ((n : Int) - 1) * 640) →
    (s.ens.rtts.length < 15 → exec (.weftFrameReturn f fr) s =
      .next { s with ens := { s.ens with miss := 0, frames := (f :: s.ens.frames).take 4, rtts := s.ens.rtts ++ [rtt] } }) ∧
    (15 ≤ s.ens.rtts.length → ∃ u : State, exec (.weftFrameReturn f fr) s = .next u.settle ∧ u.get R.ENS_STAT.STATE = 2 ∧
      u.ens.hop = some ((2 * x + 16 * n) / (32 * n)).toNat ∧ u.get R.ENS_HOPDLY.H = ((2 * x + 16 * n) / (32 * n)).toNat % 2 ^ 16 ∧
      u.ens.frames = (f :: s.ens.frames).take 4 ∧
      s.onlyFields u [R.ENS_STAT.STATE, R.ENS_HOPDLY.H] ∧ u = { s with regs := u.regs, ens := u.ens, mon := u.mon })) ∧
  (∀ (f : WeftFrame) (fr : Fin 16) (s : State),
    (s.ensOn = false ∨ s.ensPos = 0 → exec (.weftFrameArrive f fr) s = .next s) ∧
    (s.ensOn = false ∨ s.ensPos ≠ 0 → exec (.weftFrameReturn f fr) s = .next s ∧ exec .weftSofSend s = .next s))

/-- Syncs write the mapping and the eighth sets VALID; a new grandmaster, a lost neighbour, link or Sync clears it; holdover ends in LOST streams (02_time_base_and_clocks.md R41; 10_audio_inputs.md R229; 10_audio_inputs.md R230; 10_audio_inputs.md R231; 10_audio_inputs.md R243; 10_audio_inputs.md R245). -/
def Obligations.TheT1PortKeepsTimeAndItsNeighbour : Prop :=
  (∀ s : State, s.netOn = true → exec (.ethernetFrameRejected .other) s = .next s ∧
    ∃ t : State, exec (.ethernetFrameRejected .badFcs) s = .next t ∧ t.get R.NET_STAT.FCSCNT = min 255 (s.get R.NET_STAT.FCSCNT + 1) ∧
      s.onlyFields t [R.NET_STAT.FCSCNT] ∧ s.onlyRegsDiffer t) ∧
  (∀ (e : EthHdr) (s : State), s.gptpFrame e = true ↔
    s.netOn = true ∧ (e.tag = none ∨ ∃ v : BitVec 12, e.tag = some v ∧ v.toNat = s.get R.NET_CFG.VID ∧ v ≠ 0) ∧
      e.etherType = 0x88F7 ∧ e.dst = 0x0180C200000E) ∧
  (∀ (e : EthHdr) (dn : BitVec 8) (tbAt sec ns : Nat) (rate : BitVec 32) (s : State), s.gptpFrame e = true →
    dn.toNat = s.get R.NET_CFG.GDOM →
    ((s.bit R.NET_STAT.ASCAP = true ∧ 7 ≤ s.net.syncs) ∨ s.bit R.TB_MAP_STAT.VALID = true →
      ∃ t : State, exec (.gptpSync ⟨e, dn⟩ tbAt ⟨sec, ns⟩ rate) s = .next t ∧
      t.get R.TB_MAP_TB_LO.V = tbAt % 2 ^ 32 ∧ t.get R.TB_MAP_TB_HI.V = tbAt / 2 ^ 32 % 2 ^ 32 ∧
      t.get R.TB_MAP_SEC_LO.V = sec % 2 ^ 32 ∧ t.get R.TB_MAP_SEC_HI.V = sec / 2 ^ 32 % 2 ^ 16 ∧
      t.get R.TB_MAP_NS.V = ns % 2 ^ 32 ∧ t.reg R.TB_MAP_RATE.at = rate ∧
      t.get R.TB_MAP_STAT.GEN = (s.get R.TB_MAP_STAT.GEN + 1) % 2 ^ 16 ∧ t.bit R.TB_MAP_STAT.VALID = true ∧
      t.bit R.NET_STAT.HOLD = (if s.bit R.NET_STAT.ASCAP = true ∧ 7 ≤ s.net.syncs then false else s.bit R.NET_STAT.HOLD) ∧
      t.net = { s.net with syncs := if s.bit R.NET_STAT.ASCAP then min (s.net.syncs + 1) 8 else 0 } ∧
      s.onlyRegs t [R.TB_MAP_TB_LO.at, R.TB_MAP_TB_HI.at, R.TB_MAP_SEC_LO.at, R.TB_MAP_SEC_HI.at, R.TB_MAP_NS.at,
        R.TB_MAP_RATE.at, R.TB_MAP_STAT.at, R.NET_STAT.at] ∧
      t = { s with regs := t.regs, net := t.net }) ∧
    ((s.bit R.NET_STAT.ASCAP = false ∨ s.net.syncs < 7) → s.bit R.TB_MAP_STAT.VALID = false →
      exec (.gptpSync ⟨e, dn⟩ tbAt ⟨sec, ns⟩ rate) s =
        .next { s with net := { s.net with syncs := if s.bit R.NET_STAT.ASCAP then s.net.syncs + 1 else 0 } })) ∧
  (∀ (e : EthHdr) (dn : BitVec 8) (tbAt sec ns dl : Nat) (rate : BitVec 32) (g : BitVec 64) (b : Bool) (s : State),
    (s.gptpFrame e = false ∨ dn.toNat ≠ s.get R.NET_CFG.GDOM →
      exec (.gptpSync ⟨e, dn⟩ tbAt ⟨sec, ns⟩ rate) s = .next s ∧ exec (.gptpAnnounce ⟨⟨e, dn⟩, g⟩) s = .next s) ∧
    (s.gptpFrame e = false → exec (.pdelayRespReceived e ⟨dl, b⟩) s = .next s)) ∧
  (∀ (e : EthHdr) (dn : BitVec 8) (g : BitVec 64) (s : State), s.gptpFrame e = true → dn.toNat = s.get R.NET_CFG.GDOM →
    (s.net.gm = none → exec (.gptpAnnounce ⟨⟨e, dn⟩, g⟩) s = .next { s with net := { s.net with gm := some g } }) ∧
    (s.net.gm = some g → exec (.gptpAnnounce ⟨⟨e, dn⟩, g⟩) s = .next s) ∧
    (∀ h : BitVec 64, s.net.gm = some h → h ≠ g → ∃ t : State, exec (.gptpAnnounce ⟨⟨e, dn⟩, g⟩) s = .next t ∧
      t.net = { s.net with gm := some g, syncs := 0 } ∧ t.bit R.NET_STAT.GMCHG = true ∧ t.bit R.TB_MAP_STAT.VALID = false ∧
      t.bit R.NET_STAT.HOLD = (s.bit R.NET_STAT.HOLD || s.bit R.TB_MAP_STAT.VALID) ∧
      s.onlyFields t ([R.NET_STAT.GMCHG, R.NET_STAT.HOLD, R.TB_MAP_STAT.VALID] ++ evFields) ∧
      t = { s with regs := t.regs, fls := t.fls, freeCtr := t.freeCtr, net := t.net })) ∧
  (∀ s : State, s.netOn = true →
    exec .pdelayReqReceived s = .next { s with net := { s.net with pdelayAnswered := s.net.pdelayAnswered + 1 } }) ∧
  (∀ s : State, s.netOn = true → s.net.pdelaySent < allowedLost →
    exec .pdelayReqSend s = .next { s with net := { s.net with pdelaySent := s.net.pdelaySent + 1 } }) ∧
  (∀ (c : Instr) (s : State), s.netOn = true →
    ((c = .pdelayReqSend ∧ s.net.pdelaySent = allowedLost ∧ s.bit R.NET_STAT.ASCAP = true) ∨ c = .phyLink false ∨ c = .syncTimeout ∨
      (∃ (e : EthHdr) (d : Nat) (b : Bool), c = .pdelayRespReceived e ⟨d, b⟩ ∧ s.gptpFrame e = true ∧ (b = false ∨ 800 < d))) →
    ∃ t : State, exec c s = .next t ∧ t.net.syncs = 0 ∧ t.bit R.TB_MAP_STAT.VALID = false ∧
      t.bit R.NET_STAT.HOLD = (s.bit R.NET_STAT.HOLD || s.bit R.TB_MAP_STAT.VALID) ∧
      t.bit R.NET_STAT.ASCAP = (if c = .syncTimeout then s.bit R.NET_STAT.ASCAP else false) ∧
      t.bit R.NET_STAT.LINK = (if c = .phyLink false then false else s.bit R.NET_STAT.LINK) ∧
      s.onlyFields t ([R.NET_STAT.LINK, R.NET_STAT.ASCAP, R.NET_STAT.HOLD, R.TB_MAP_STAT.VALID] ++ evFields) ∧
      t = { s with regs := t.regs, fls := t.fls, freeCtr := t.freeCtr, net := t.net }) ∧
  (∀ (e : EthHdr) (d : Nat) (s : State), s.gptpFrame e = true → d ≤ 800 →
    ∃ t : State, exec (.pdelayRespReceived e ⟨d, true⟩) s = .next t ∧ t.net = { s.net with delay := d, pdelaySent := 0 } ∧
      t.bit R.NET_STAT.ASCAP = true ∧ s.onlyFields t [R.NET_STAT.ASCAP] ∧ t = { s with regs := t.regs, net := t.net }) ∧
  (∀ s : State, s.netOn = true → ∃ t : State, exec (.phyLink true) s = .next t ∧ t.bit R.NET_STAT.LINK = true ∧
    s.onlyFields t [R.NET_STAT.LINK] ∧ s.onlyRegsDiffer t) ∧
  (∀ s : State, s.netOn = true → s.bit R.NET_STAT.HOLD = true →
    ∃ t : State, exec .holdoverEnd s = .next t ∧ t.bit R.NET_STAT.HOLD = false ∧
      (∀ n : Nat, n < 4 → t.sst n = if s.sst n = stWait ∨ s.sst n = stRun then stLost else s.sst n) ∧
      s.onlyFields t ([R.NET_STAT.HOLD] ++ (List.range 4).map R.NET_SST.STATE ++ evFields) ∧
      t = { s with regs := t.regs, fls := t.fls, freeCtr := t.freeCtr, net := { s.net with strms := t.net.strms } }) ∧
  (∀ s : State, s.netOn = true → s.bit R.NET_STAT.HOLD = false → exec .holdoverEnd s = .next s) ∧
  (∀ (c : Instr) (s : State), s.netOn = false →
    (c = .pdelayReqSend ∨ c = .syncTimeout ∨ c = .holdoverEnd ∨ (∃ b : Bool, c = .phyLink b) ∨
      (∃ w : FrameReject, c = .ethernetFrameRejected w)) → exec c s = .next s)

/-- A packet is checked and stored, frames are released into the ring or zero-filled, streams are lost and enabled, TDM frames land, fail or stop (10_audio_inputs.md R232; 10_audio_inputs.md R233; 10_audio_inputs.md R234; 10_audio_inputs.md R235; 10_audio_inputs.md R236; 10_audio_inputs.md R239; 10_audio_inputs.md R240; 10_audio_inputs.md R242; 10_audio_inputs.md R243; 10_audio_inputs.md R244). -/
def Obligations.StreamsAndTdmPortsFillTheirRings : Prop :=
  (∀ (p : AvtpPacket) (s : State), s.avtpFrame p.eth = true →
    (∀ c : Nat, s.avtpFail p (s.strmOf p.streamId) = some c → ∃ t : State, exec (.avtpPacket p) s = .next t ∧
      t.bit R.NET_STAT.FMTERR = true ∧ s.onlyFields t (R.NET_STAT.FMTERR :: evFields) ∧ s.onlyRegsFlsDiffer t) ∧
    (s.avtpFail p (s.strmOf p.streamId) = none →
      (s.strmOf p.streamId = none → exec (.avtpPacket p) s = .next s) ∧
      (∀ k : Nat, s.strmOf p.streamId = some k →
        (s.bit R.TB_MAP_STAT.VALID = false → s.bit R.NET_STAT.HOLD = false → ∃ t : State, exec (.avtpPacket p) s = .next t ∧
          t.net.pkts = s.net.pkts ∧ (t.strm k).seqNo = some p.seqNum ∧ s.onlyFields t [R.NET_SST.SEQGAP k] ∧
          t = { s with regs := t.regs, net := t.net, freeCtr := t.freeCtr }) ∧
        ((s.bit R.TB_MAP_STAT.VALID = true ∨ s.bit R.NET_STAT.HOLD = true) → 64 ≤ s.net.pkts.length →
          ∃ t : State, exec (.avtpPacket p) s = .next t ∧ t.bit R.NET_STAT.OVF = true ∧ (t.strm k).seqNo = some p.seqNum ∧
          t.net.pkts = s.net.pkts ∧ s.onlyFields t ([R.NET_SST.SEQGAP k, R.NET_STAT.OVF] ++ evFields) ∧
          t = { s with regs := t.regs, fls := t.fls, net := t.net, freeCtr := t.freeCtr }) ∧
        ((s.bit R.TB_MAP_STAT.VALID = true ∨ s.bit R.NET_STAT.HOLD = true) → s.net.pkts.length < 64 → p.tv = true →
          ∃ (t : State) (arr : Nat) (l : List (Int × List Word)), exec (.avtpPacket p) s = .next t ∧ s.nearNow arr ∧
          l = (p.frames.zipIdx.map fun q => (s.tbAt3 (3 * nearestPt p.timestamp.toNat (s.gptpAt arr) + q.2 * fsThird p.rate),
            q.1.map (avtpSample p.format))).filter (fun q => decide (((arr + s.get R.NET_CFG.LMARG * 256 : Nat) : Int) ≤ q.1)) ∧
          t.net.pkts = (if l = [] then s.net.pkts else s.net.pkts ++ [Pkt.mk k arr l (decide (l.length < p.frames.length))]) ∧
          (t.strm k).seqNo = some p.seqNum ∧
          (∀ j : BitVec 8, (s.strm k).seqNo = some j → t.get (R.NET_SST.SEQGAP k) =
            (if j + 1 = p.seqNum then s.get (R.NET_SST.SEQGAP k) else min 255 (s.get (R.NET_SST.SEQGAP k) + 1))) ∧
          s.onlyFields t [R.NET_SST.SEQGAP k, R.NET_SST.LATE k] ∧ t = { s with regs := t.regs, net := t.net, freeCtr := t.freeCtr })))) ∧
  (∀ (p : AvtpPacket) (s : State), s.avtpFrame p.eth = false → exec (.avtpPacket p) s = .next s) ∧
  (∀ (n : Fin 4) (s : State), s.netOn = true → s.sst n ≠ stOff →
    (firstRel n (s.purge n).net.pkts = none → exec (.frameRelease n) s = .next (s.purge n)) ∧
    (∀ (r : Int) (ws : List Word) (rest : List Pkt) (ch : Nat), firstRel n (s.purge n).net.pkts = some r →
      takeRel n r (s.purge n).net.pkts = (ws, rest) → ch = s.get (R.NET_SCFG.NCH n) + 1 → (∀ k : Nat, s.eccAt k = 0) →
      ∃ (t : State) (a : Nat), exec (.frameRelease n) s = .next t ∧ t.net.pkts = rest ∧ t.sst n = stRun ∧
        (ringOk (s.get (R.NET_RBASE.V n)) (s.get (R.NET_SCFG.LEN n)) ch = true →
          a = ringSlot (s.get (R.NET_RBASE.V n)) (s.get (R.NET_SCFG.LEN n)) ch (s.get (R.NET_WIDX.V n))) ∧
        0x10000000 ≤ a ∧ a + 4 * ch ≤ 0x10400000 ∧
        t.get (R.NET_WIDX.V n) = (s.get (R.NET_WIDX.V n) + 1) % 2 ^ 32 ∧ t.get (R.NET_RTS.V n) = r.toNat % 2 ^ 32 ∧
        (∀ k : Nat, k < ch → t.rd32 (a + 4 * k) = (ws.getD k 0).toNat) ∧ s.onlyBytes t a (4 * ch) ∧
        (t.strm n).last = some r.toNat ∧
        t = { s with mem := t.mem, regs := t.regs, fls := t.fls, net := t.net, eng := { s.eng with rhoBank := t.eng.rhoBank }, freeCtr := t.freeCtr })) ∧
  (∀ (n : Fin 4) (s : State), s.netOn = false ∨ s.sst n = stOff → exec (.frameRelease n) s = .next s) ∧
  (∀ (n : Fin 4) (due ch : Nat) (s : State), s.netOn = true → s.zeroDue n = some due → (∀ k : Nat, s.eccAt k = 0) →
    ch = s.get (R.NET_SCFG.NCH n) + 1 →
    ∃ (t : State) (a : Nat), exec (.zeroFill n) s = .next t ∧
      (ringOk (s.get (R.NET_RBASE.V n)) (s.get (R.NET_SCFG.LEN n)) ch = true →
        a = ringSlot (s.get (R.NET_RBASE.V n)) (s.get (R.NET_SCFG.LEN n)) ch (s.get (R.NET_WIDX.V n))) ∧
      0x10000000 ≤ a ∧ a + 4 * ch ≤ 0x10400000 ∧
      t.get (R.NET_SST.UNDER n) = min 255 (s.get (R.NET_SST.UNDER n) + 1) ∧
      t.get (R.NET_WIDX.V n) = (s.get (R.NET_WIDX.V n) + 1) % 2 ^ 32 ∧ t.get (R.NET_RTS.V n) = due % 2 ^ 32 ∧
      (∀ k : Nat, k < ch → t.rd32 (a + 4 * k) = 0) ∧ s.onlyBytes t a (4 * ch) ∧ t.net.pkts = s.net.pkts ∧
      s.onlyFields t [R.NET_SST.UNDER n, R.NET_WIDX.V n, R.NET_RTS.V n] ∧
      t = { s with mem := t.mem, regs := t.regs, net := t.net, eng := { s.eng with rhoBank := t.eng.rhoBank }, freeCtr := t.freeCtr }) ∧
  (∀ (n : Fin 4) (s : State), s.netOn = false ∨ s.zeroDue n = none → exec (.zeroFill n) s = .next s) ∧
  (∀ (n : Fin 4) (s : State),
    (s.netOn = true → s.sst n = stRun → ∃ t : State, exec (.streamLoss n) s = .next t ∧ t.sst n = stLost ∧
      s.onlyFields t ([R.NET_SST.STATE n] ++ evFields) ∧ t.net.pkts = s.net.pkts ∧
      t = { s with regs := t.regs, fls := t.fls, freeCtr := t.freeCtr, net := t.net }) ∧
    (s.netOn = false ∨ s.sst n ≠ stRun → exec (.streamLoss n) s = .next s)) ∧
  (∀ (n : Fin 4) (w : Word) (s : State), s.coreRuns = true →
    ∃ t : State, exec (.streamEnable n w) s = .next t ∧
      (s.scfgBad n w = false → t.bit (R.NET_SCFG.EN n) = decide (fldOf w (R.NET_SCFG.EN n) ≠ 0) ∧
        t.get (R.NET_SCFG.LEN n) = fldOf w (R.NET_SCFG.LEN n)) ∧
      (s.bit (R.NET_SCFG.EN n) ≠ t.bit (R.NET_SCFG.EN n) →
        t.sst n = (if t.bit (R.NET_SCFG.EN n) then stWait else stOff) ∧ t.strm n = {} ∧
          t.net.pkts = s.net.pkts.filter (fun p => p.n != n.val)) ∧
      (s.bit (R.NET_SCFG.EN n) = t.bit (R.NET_SCFG.EN n) → t.sst n = s.sst n ∧ t.net = s.net) ∧
      s.onlyRegs t [R.NET_SCFG.at n, R.NET_SST.at n] ∧
      t = { s with regs := t.regs, net := t.net, freeCtr := s.freeCtr + (if s.scfgBad n w then 1 else 0) }) ∧
  (∀ (n : Fin 4) (w : Word) (s : State), s.coreRuns = false → exec (.streamEnable n w) s = .next s) ∧
  (∀ (port : TdmPort) (i : Nat) (l0 l1 : List Word) (clocks : Nat) (mclk : Bool) (s : State), i = portNo port → s.tdmEn i = true →
    (s.tdmBad i = true → ∃ t : State, exec (.tdmFrame port l0 l1 ⟨clocks, mclk⟩) s = .next t ∧
      t.reg (tdmRegs i).cfg = s.reg (tdmRegs i).cfg) ∧
    (s.tdmBad i = false → ∃ (t : State) (v : Nat), exec (.tdmFrame port l0 l1 ⟨clocks, mclk⟩) s = .next t ∧
      (t.tdm i).last = some v ∧ (mclk = false → (i = 0 ∨ s.bit R.TDM_BCFG.MST = false) → s.nearNow v) ∧
      (mclk = true → (s.tdm i).last ≠ none → v = ((s.now : Int) + (s.tdm i).skew).toNat) ∧
      ((s.tdm i).last = none → t.mem = s.mem ∧ t.get (tdmRegs i).widx = s.get (tdmRegs i).widx) ∧
      ((s.tdm i).last ≠ none → clocks ≠ s.tdmClocks i → t.bit (tdmRegs i).fserr = true ∧ (t.tdm i).good = 0 ∧
        t.mem = s.mem ∧ t.get (tdmRegs i).widx = s.get (tdmRegs i).widx) ∧
      ((s.tdm i).last ≠ none → clocks = s.tdmClocks i → (∀ k : Nat, s.eccAt k = 0) →
        t.get (tdmRegs i).widx = (s.get (tdmRegs i).widx + 1) % 2 ^ 32 ∧ (t.tdm i).good = min ((s.tdm i).good + 1) 16 ∧
        (s.get (tdmRegs i).state = stWait ∨ (s.get (tdmRegs i).state = stLost ∧ 15 ≤ (s.tdm i).good) →
          t.get (tdmRegs i).state = stRun) ∧
        ((i = 1 ∨ s.bit R.TDM_ACFG.D1EN = false) → ∃ a : Nat,
          (ringOk (s.get (tdmRegs i).base) (s.get (tdmRegs i).len) (s.tdmWords i) = true →
            a = ringSlot (s.get (tdmRegs i).base) (s.get (tdmRegs i).len) (s.tdmWords i) (s.get (tdmRegs i).widx)) ∧
          0x10000000 ≤ a ∧ a + 4 * s.tdmWords i ≤ 0x10400000 ∧
          (∀ k : Nat, k < s.tdmWords i → t.rd32 (a + 4 * k) = (s.tdmWord i (l0.getD k 0)).toNat) ∧
          s.onlyBytes t a (4 * s.tdmWords i)) ∧
        (∀ a b : Nat, i = 0 → s.bit R.TDM_ACFG.D1EN = true →
          ringOk (s.get R.TDM_ARBASE0.V) (s.get R.TDM_ALEN.V) (s.tdmWords 0) = true →
          ringOk (s.get R.TDM_ARBASE1.V) (s.get R.TDM_ALEN.V) (s.tdmWords 0) = true →
          a = ringSlot (s.get R.TDM_ARBASE0.V) (s.get R.TDM_ALEN.V) (s.tdmWords 0) (s.get R.TDM_AWIDX.V) →
          b = ringSlot (s.get R.TDM_ARBASE1.V) (s.get R.TDM_ALEN.V) (s.tdmWords 0) (s.get R.TDM_AWIDX.V) →
          areasApart a (s.tdmWords 0) b (s.tdmWords 0) →
          (∀ k : Nat, k < s.tdmWords 0 → t.rd32 (a + 4 * k) = (s.tdmWord 0 (l0.getD k 0)).toNat ∧
            t.rd32 (b + 4 * k) = (s.tdmWord 0 (l1.getD k 0)).toNat) ∧
          (∀ k : Nat, (k < a ∨ a + 4 * s.tdmWords 0 ≤ k) → (k < b ∨ b + 4 * s.tdmWords 0 ≤ k) → t.rd8 k = s.rd8 k))))) ∧
  (∀ (port : TdmPort) (i : Nat) (l0 l1 : List Word) (clocks : Nat) (mclk : Bool) (s : State), i = portNo port → s.tdmEn i = false →
    exec (.tdmFrame port l0 l1 ⟨clocks, mclk⟩) s = .next s ∧ exec (.tdmLoss port) s = .next s) ∧
  (∀ (port : TdmPort) (i : Nat) (s : State), i = portNo port → s.tdmEn i = true → (s.tdm i).last ≠ none →
    s.tdmBad i = true → ∃ t : State, exec (.tdmLoss port) s = .next t ∧ t.reg (tdmRegs i).cfg = s.reg (tdmRegs i).cfg) ∧
  (∀ (port : TdmPort) (i : Nat) (s : State), i = portNo port → s.tdmEn i = true → (s.tdm i).last ≠ none → s.tdmBad i = false →
    (∀ k : Nat, s.eccAt k = 0) →
    ∃ t : State, exec (.tdmLoss port) s = .next t ∧
      (s.get (tdmRegs i).state = stRun ∨ s.get (tdmRegs i).state = stWait →
        t.get (tdmRegs i).state = stLost ∧ t.bit (tdmRegs i).lost = true) ∧
      (t.tdm i).last = (s.tdm i).last ∧ (t.tdm i).good = 0 ∧ t.get (tdmRegs i).widx = (s.get (tdmRegs i).widx + 1) % 2 ^ 32 ∧
      ((i = 1 ∨ s.bit R.TDM_ACFG.D1EN = false) → ∃ a : Nat,
        (ringOk (s.get (tdmRegs i).base) (s.get (tdmRegs i).len) (s.tdmWords i) = true →
          a = ringSlot (s.get (tdmRegs i).base) (s.get (tdmRegs i).len) (s.tdmWords i) (s.get (tdmRegs i).widx)) ∧
        0x10000000 ≤ a ∧ a + 4 * s.tdmWords i ≤ 0x10400000 ∧
        (∀ k : Nat, k < s.tdmWords i → t.rd32 (a + 4 * k) = 0) ∧ s.onlyBytes t a (4 * s.tdmWords i)) ∧
      (∀ a b : Nat, i = 0 → s.bit R.TDM_ACFG.D1EN = true →
        ringOk (s.get R.TDM_ARBASE0.V) (s.get R.TDM_ALEN.V) (s.tdmWords 0) = true →
        ringOk (s.get R.TDM_ARBASE1.V) (s.get R.TDM_ALEN.V) (s.tdmWords 0) = true →
        a = ringSlot (s.get R.TDM_ARBASE0.V) (s.get R.TDM_ALEN.V) (s.tdmWords 0) (s.get R.TDM_AWIDX.V) →
        b = ringSlot (s.get R.TDM_ARBASE1.V) (s.get R.TDM_ALEN.V) (s.tdmWords 0) (s.get R.TDM_AWIDX.V) →
        (∀ k : Nat, k < s.tdmWords 0 → t.rd32 (a + 4 * k) = 0 ∧ t.rd32 (b + 4 * k) = 0) ∧
        (∀ k : Nat, (k < a ∨ a + 4 * s.tdmWords 0 ≤ k) → (k < b ∨ b + 4 * s.tdmWords 0 ≤ k) → t.rd8 k = s.rd8 k))) ∧
  (∀ (port : TdmPort) (i : Nat) (s : State), i = portNo port → (s.tdm i).last = none → exec (.tdmLoss port) s = .next s) ∧
  (∀ s : State, s.tdmEn 1 = true → s.bit R.TDM_BCFG.MST = true →
    ∃ t : State, exec .tdmbMasterFrame s = .next t ∧ (s.tdmBad 1 = false → (t.tdm 1).out.length = s.tdmWords 1) ∧
      t.get R.TDM_BRIDX.V = (s.get R.TDM_BRIDX.V + 1) % 2 ^ 32 ∧ t.mem = s.mem) ∧
  (∀ s : State, (s.tdmEn 1 = false ∨ s.bit R.TDM_BCFG.MST = false) → exec .tdmbMasterFrame s = .next s)

/-- A control frame fills the mailbox of its first entry; time-outs, error states and the segments of messages do what R350 to R371 say (16_service_and_vehicle_bus.md R348; 16_service_and_vehicle_bus.md R350; 16_service_and_vehicle_bus.md R351; 16_service_and_vehicle_bus.md R352; 16_service_and_vehicle_bus.md R353; 16_service_and_vehicle_bus.md R368; 16_service_and_vehicle_bus.md R369; 16_service_and_vehicle_bus.md R371; 02_time_base_and_clocks.md R35). -/
def Obligations.ControlFramesAndTheTransportOfMessages : Prop :=
  (∀ (f : CanFrame) (s : State), s.canOn = true → f.remote = false → (f.fd = false ∨ s.bit R.CAN_CFG.FDEN = true) →
    (∀ (i a : Nat), (List.range s.ctlCount).find? (s.ctlMatch f) = some i → s.ctlTakes f i = true → i < 32 → a = s.ctlWord i 3 →
      (a % 8 = 0 → 0x10000000 ≤ a → a + 72 ≤ 0x10400000 → (∀ k : Nat, k < 72 → s.eccAt (a + k) = 0) → s.mailboxShared a = false →
        ∃ (u : State) (v : Nat), exec (.controlFrameReceived ⟨f, false⟩) s = .next u.settle ∧ s.nearNow v ∧
          u.rd32 a = (s.rd32 a + 1) % 2 ^ 32 ∧ u.rd32 (a + 4) = v % 2 ^ 32 ∧
          (∀ k : Nat, k < 64 → u.rd8 (a + 8 + k) = f.data.getD k 0) ∧ s.onlyBytes u a 72 ∧ u.bitI R.CAN_TMO.V i = false ∧
          s.onlyFields u [R.CAN_TMO.V] ∧
          u = { s with mem := u.mem, regs := u.regs, freeCtr := s.freeCtr + 2, eng := { s.eng with rhoBank := u.eng.rhoBank } }) ∧
      (∃ (u : State) (b : Nat), exec (.controlFrameReceived ⟨f, false⟩) s = .next u.settle ∧
        (a % 8 = 0 → 0x10000000 ≤ a → a + 72 ≤ 0x10400000 → b = a) ∧
        b % 8 = 0 ∧ 0x10000000 ≤ b ∧ b + 72 ≤ 0x10400000 ∧ s.onlyBytes u b 72 ∧ u.bitI R.CAN_TMO.V i = false ∧
        s.onlyFields u ([R.CAN_TMO.V, R.ENG_GSTAT.UNC, R.ENG_GSTAT.MST, R.ENG_GERR.ADR] ++ evFields) ∧
        u = { s with mem := u.mem, regs := u.regs, fls := u.fls, freeCtr := u.freeCtr
                     eng := { s.eng with rhoBank := u.eng.rhoBank, ecc := u.eng.ecc } }) ∧
      (∃ u : State, exec (.controlFrameReceived ⟨f, true⟩) s = .next u.settle ∧ u.bit R.CAN_STAT.RXOVF = true ∧
        s.onlyFields u [R.CAN_STAT.RXOVF] ∧ s.onlyRegsDiffer u)) ∧
    (((List.range s.ctlCount).find? (s.ctlMatch f) = none ∨
      (∃ i : Nat, (List.range s.ctlCount).find? (s.ctlMatch f) = some i ∧ s.ctlTakes f i = false)) →
        ∀ full : Bool, exec (.controlFrameReceived ⟨f, full⟩) s = .next s.settle)) ∧
  (∀ (f : CanFrame) (full : Bool) (s : State), (s.canOn = false ∨ f.remote = true ∨ (f.fd = true ∧ s.bit R.CAN_CFG.FDEN = false)) →
    exec (.controlFrameReceived ⟨f, full⟩) s = .next s) ∧
  (∀ (i : Fin 32) (s : State), s.canInService = true → s.bit R.CAN_CFG.EN = true → i.val < s.ctlCount →
    s.ctlWord i 2 / 65536 ≠ 0 →
    (s.bitI R.CAN_TMO.V i = true → exec (.controlFrameTimeout i) s = .next s) ∧
    (s.bitI R.CAN_TMO.V i = false → ∃ t : State, exec (.controlFrameTimeout i) s = .next t ∧ t.bitI R.CAN_TMO.V i = true ∧
      (∀ k : Nat, k < 32 → k ≠ i → t.bitI R.CAN_TMO.V k = s.bitI R.CAN_TMO.V k) ∧ s.onlyFields t (R.CAN_TMO.V :: evFields) ∧
      s.onlyRegsFlsDiffer t)) ∧
  (∀ (i : Fin 32) (s : State), (s.canInService = false ∨ s.bit R.CAN_CFG.EN = false ∨ s.ctlCount ≤ i.val ∨ s.ctlWord i 2 / 65536 = 0) →
    exec (.controlFrameTimeout i) s = .next s) ∧
  (∀ (tec recv : BitVec 8) (s : State), s.canOn = true →
    (∃ t : State, exec (.busOff tec recv) s = .next t ∧ t.get R.CAN_STAT.STATE = 2 ∧ t.bit R.CAN_STAT.BOFF = true ∧
      t.get R.CAN_STAT.TEC = tec.toNat ∧ t.get R.CAN_STAT.REC = recv.toNat ∧ t.dsu = { s.dsu with rx := none, tx := none } ∧
      s.onlyFields t ([R.CAN_STAT.STATE, R.CAN_STAT.BOFF, R.CAN_STAT.TEC, R.CAN_STAT.REC] ++ evFields) ∧
      t = { s with regs := t.regs, fls := t.fls, dsu := t.dsu, freeCtr := t.freeCtr }) ∧
    (s.get R.CAN_STAT.STATE ≠ 0 → exec (.errorPassive tec recv) s = .next s) ∧
    (s.get R.CAN_STAT.STATE ≠ 1 → exec (.errorActive tec recv) s = .next s) ∧
    (s.get R.CAN_STAT.STATE = 0 → ∃ t : State, exec (.errorPassive tec recv) s = .next t ∧ t.get R.CAN_STAT.STATE = 1 ∧
      t.bit R.CAN_STAT.EPASS = true ∧ t.get R.CAN_STAT.TEC = tec.toNat ∧ t.get R.CAN_STAT.REC = recv.toNat ∧
      s.onlyFields t ([R.CAN_STAT.STATE, R.CAN_STAT.EPASS, R.CAN_STAT.TEC, R.CAN_STAT.REC] ++ evFields) ∧ s.onlyRegsFlsDiffer t) ∧
    (s.get R.CAN_STAT.STATE = 1 → ∃ t : State, exec (.errorActive tec recv) s = .next t ∧ t.get R.CAN_STAT.STATE = 0 ∧
      t.get R.CAN_STAT.TEC = tec.toNat ∧ t.get R.CAN_STAT.REC = recv.toNat ∧
      s.onlyFields t [R.CAN_STAT.STATE, R.CAN_STAT.TEC, R.CAN_STAT.REC] ∧ s.onlyRegsDiffer t)) ∧
  (∀ (tec recv : BitVec 8) (s : State), s.canOn = false → exec (.busOff tec recv) s = .next s ∧
    exec (.errorPassive tec recv) s = .next s ∧ exec (.errorActive tec recv) s = .next s) ∧
  (∀ s : State, (s.canInService = false ∨ s.bit R.CAN_CFG.EN = false ∨ s.get R.CAN_STAT.STATE ≠ 2) →
    exec .busOffRecovery s = .next s) ∧
  (∀ s : State, s.canInService = true → s.bit R.CAN_CFG.EN = true → s.get R.CAN_STAT.STATE = 2 →
    ∃ t : State, exec .busOffRecovery s = .next t ∧ t.get R.CAN_STAT.STATE = 0 ∧ t.get R.CAN_STAT.TEC = 0 ∧ t.get R.CAN_STAT.REC = 0 ∧
      s.onlyFields t [R.CAN_STAT.STATE, R.CAN_STAT.TEC, R.CAN_STAT.REC] ∧ s.onlyRegsDiffer t) ∧
  (∀ (len : Nat) (data flow : List Byte) (fd : Bool) (s : State), s.reqOn = true → fd = decide (6 < data.length) →
    flow = [0x30, BitVec.ofNat 8 (s.get R.CAN_TPCFG.BS), BitVec.ofNat 8 (s.get R.CAN_TPCFG.STMIN)] →
    (data.length < len → len ≤ 4095 → (fd = true → s.bit R.CAN_CFG.FDEN = true) →
      exec (.firstFrame (.first len data)) s = .next { s with dsu := { s.dsu with
        rx := some { len := len, buf := data, sn := 1, left := s.get R.CAN_TPCFG.BS, fd := fd }, fc := flow, out := [s.frameOf fd flow] } }) ∧
    (len ≤ data.length ∨ 4095 < len ∨ (fd = true ∧ s.bit R.CAN_CFG.FDEN = false) → exec (.firstFrame (.first len data)) s = .next s)) ∧
  (∀ (fd : Bool) (l : List Byte) (s : State), (s.frameOf fd l).id = s.get R.CAN_DIAG.RSPID ∧ (s.frameOf fd l).fd = fd ∧
    (s.frameOf fd l).brs = (fd && s.bit R.CAN_CFG.BRS) ∧
    (∀ k : Nat, k < l.length → (s.frameOf fd l).data[k]? = l[k]?) ∧
    (∀ k : Nat, l.length ≤ k → k < (s.frameOf fd l).data.length → (s.frameOf fd l).data[k]? = some (BitVec.ofNat 8 (s.get R.CAN_CFG.PAD))) ∧
    (l.length ≤ (if fd then 64 else 8) → (s.frameOf fd l).data.length ∈ (if fd then [8, 12, 16, 20, 24, 32, 48, 64] else [8]))) ∧
  (∀ (sn : BitVec 4) (data : List Byte) (r : TpRx) (s : State), s.reqOn = true → s.dsu.rx = some r →
    ((sn.toNat ≠ r.sn ∨ r.len ≤ r.buf.length + data.length) →
      exec (.firstFrame (.consecutive sn data)) s = .next { s with dsu := { s.dsu with rx := none } }) ∧
    (sn.toNat = r.sn → r.buf.length + data.length < r.len → r.left ≠ 1 →
      exec (.firstFrame (.consecutive sn data)) s = .next { s with dsu := { s.dsu with
        rx := some { r with buf := r.buf ++ data, sn := (r.sn + 1) % 16, left := r.left - 1 } } }) ∧
    (sn.toNat = r.sn → r.buf.length + data.length < r.len → r.left = 1 →
      ∀ flow : List Byte, flow = [0x30, BitVec.ofNat 8 (s.get R.CAN_TPCFG.BS), BitVec.ofNat 8 (s.get R.CAN_TPCFG.STMIN)] →
      exec (.firstFrame (.consecutive sn data)) s = .next { s with dsu := { s.dsu with
        rx := some { r with buf := r.buf ++ data, sn := (r.sn + 1) % 16, left := s.get R.CAN_TPCFG.BS },
        fc := flow, out := [s.frameOf r.fd flow] } })) ∧
  (∀ (p : TpFrame) (sn : BitVec 4) (data : List Byte) (s : State), (s.reqOn = false ∨ (s.dsu.rx = none ∧ p = .consecutive sn data)) →
    exec (.firstFrame p) s = .next s) ∧
  (∀ (bs stmin : BitVec 8) (s : State), (s.diagOn = false ∨ s.dsu.tx = none) → exec (.flowControlFrame bs stmin) s = .next s) ∧
  (∀ (bs stmin : BitVec 8) (x : TpTx) (s : State), s.diagOn = true → s.dsu.tx = some x →
    ∃ (t : State) (l : List (List Byte)), exec (.flowControlFrame bs stmin) s = .next t ∧
      t.dsu = { s.dsu with
        tx := if bs = 0 ∨ x.rest.length ≤ bs.toNat * cfData x.fd then none
          else some { x with rest := x.rest.drop (bs.toNat * cfData x.fd), sn := (x.sn + bs.toNat) % 16 }
        out := l.map (s.frameOf x.fd) } ∧
      (l.flatMap fun m => m.drop 1) = (if bs = 0 then x.rest else x.rest.take (bs.toNat * cfData x.fd)) ∧
      (∀ (k : Nat) (m : List Byte), l[k]? = some m → m.head? = some (BitVec.ofNat 8 (0x20 + (x.sn + k) % 16)) ∧
        m.length ≤ 1 + cfData x.fd ∧ (k + 1 < l.length → m.length = 1 + cfData x.fd)) ∧
      t = { s with dsu := t.dsu }) ∧
  (∀ s : State, exec (.transportTimeout .nBs) s = .next { s with dsu := { s.dsu with tx := none } } ∧
    exec (.transportTimeout .nCr) s = .next { s with dsu := { s.dsu with rx := none } }) ∧
  (∀ (sid : BitVec 8) (p : PendReq) (s : State), s.diagOn = true → s.dsu.pend = some p → p.sid = sid.toNat →
    ∃ t : State, exec (.responsePending sid) s = .next t ∧ t.dsu = { s.dsu with rsp := [0x7F, sid, 0x78], out := t.dsu.out } ∧
      t.sentOne p.kind [0x03, 0x7F, sid, 0x78] ∧
      t.get R.DSU_STAT.LASTNRC = 0x78 ∧ s.onlyDsu t) ∧
  (∀ (sid : BitVec 8) (s : State), (s.diagOn = false ∨ ∀ p : PendReq, s.dsu.pend = some p → p.sid ≠ sid.toNat) →
    exec (.responsePending sid) s = .next s)

/-- The sessions change as R354 says; a return to the default session locks security, sets DTC setting on and fails a download (16_service_and_vehicle_bus.md R353; 16_service_and_vehicle_bus.md R354; 16_service_and_vehicle_bus.md R355; 16_service_and_vehicle_bus.md R363; 16_service_and_vehicle_bus.md R367; 16_service_and_vehicle_bus.md R370; 16_service_and_vehicle_bus.md R371; 11_modes.md R251). -/
def Obligations.SessionsOpenCloseAndReset : Prop :=
  (∀ (q : ReqKind) (s : State), s.takes q 2 → s.get R.DSU_STAT.SESS ≠ 0 →
    (∃ u : State, exec (.extendedSession q) s = .next u.settle ∧ u.get R.DSU_STAT.SESS = 3 ∧
      u.repliesSub q [0x50, 0x03, 0x00, 0x32, 0x01, 0xF4] ∧
      s.onlyFields u ([R.DSU_STAT.SESS] ++ evFields) ∧ u = { s with regs := u.regs, fls := u.fls, dsu := u.dsu }) ∧
    (s.get R.DSU_STAT.SESS = 3 → ∃ u : State, exec (.programmingSession q) s = .next u.settle ∧ u.get R.DSU_STAT.SESS = 2 ∧
      u.repliesSub q [0x50, 0x02, 0x00, 0x32, 0x01, 0xF4] ∧
      s.onlyFields u ([R.DSU_STAT.SESS] ++ evFields) ∧ u = { s with regs := u.regs, fls := u.fls, dsu := u.dsu }) ∧
    (s.get R.DSU_STAT.SESS ≠ 3 → ∃ t : State, exec (.programmingSession q) s = .next t ∧ t.refuses q 0x10 0x22 ∧ s.onlyDsu t) ∧
    (∃ u : State, exec (.defaultSession q) s = .next u.settle ∧ u.get R.DSU_STAT.SESS = 1 ∧
      u.repliesSub q [0x50, 0x01, 0x00, 0x32, 0x01, 0xF4] ∧
      (s.get R.DSU_STAT.SESS ≠ 1 → u.bit R.DSU_STAT.SEC = false ∧ u.bit R.DSU_STAT.DTCOFF = false ∧ u.bit R.IMG_STAT.DLACT = false) ∧
      (s.get R.DSU_STAT.SESS = 1 → u.regs = s.regs) ∧
      s.onlyFields u ([R.DSU_STAT.SESS, R.DSU_STAT.SEC, R.DSU_STAT.DTCOFF, R.DSU_DTCON.V, R.IMG_STAT.DLACT, R.IMG_STAT.DLFAIL] ++ evFields) ∧
      u = { s with regs := u.regs, fls := u.fls, img := u.img, dsu := u.dsu })) ∧
  (∀ s : State, s.coreRuns = true → s.get R.DSU_STAT.SESS ≠ 1 →
    ∃ u : State, exec .s3Expire s = .next u.settle ∧ u.get R.DSU_STAT.SESS = 1 ∧ u.bit R.DSU_STAT.SEC = false ∧
      u.bit R.DSU_STAT.DTCOFF = false ∧ u.bit R.IMG_STAT.DLACT = false ∧ u.dsu = s.dsu ∧
      (s.bit R.IMG_STAT.DLACT = true → u.bit R.IMG_STAT.DLFAIL = true) ∧
      s.onlyFields u ([R.DSU_STAT.SESS, R.DSU_STAT.SEC, R.DSU_STAT.DTCOFF, R.DSU_DTCON.V, R.IMG_STAT.DLACT, R.IMG_STAT.DLFAIL] ++ evFields) ∧
      u = { s with regs := u.regs, fls := u.fls, img := u.img }) ∧
  (∀ s : State, (s.coreRuns = false ∨ s.get R.DSU_STAT.SESS = 1) → exec .s3Expire s = .next s) ∧
  (∀ (q : ReqKind) (s : State), s.takes q 2 → s.get R.DSU_STAT.SESS ≠ 0 →
    (∃ t : State, exec (.testerPresent q) s = .next t ∧ t.repliesSub q [0x7E, 0x00] ∧ t = { s with dsu := t.dsu }) ∧
    (∃ t : State, exec (.ecuReset q) s = .next t ∧ t.repliesSub q [0x51, 0x01] ∧ t.dsu.resetPend = true ∧ t = { s with dsu := t.dsu })) ∧
  (∀ s : State, s.coreRuns = true → s.dsu.resetPend = true →
    ∃ t : State, exec .ecuResetDelay s = .next t ∧ s.coreIsReset t R.SYS_RSTCAUSE.ECU) ∧
  (∀ s : State, (s.coreRuns = false ∨ s.dsu.resetPend = false) → exec .ecuResetDelay s = .next s) ∧
  (∀ (q : ReqKind) (sid : BitVec 8) (s : State), s.takes q 1 → s.get R.DSU_STAT.SESS ≠ 0 →
    ∃ t : State, exec (.serviceNotSupported q sid) s = .next t ∧ t.refuses q sid.toNat 0x11 ∧ s.onlyDsu t) ∧
  (∀ (q : ReqKind) (s : State), s.frameTaken q = true ↔
    q.id.toNat = s.get (if q.functional then R.CAN_FUNC.ID else R.CAN_DIAG.REQID) ∧ (q.fd = true → s.bit R.CAN_CFG.FDEN = true)) ∧
  (∀ (q : ReqKind) (c : Instr) (s : State), (s.reqOn = false ∨ s.frameTaken q = false) →
    (c = .extendedSession q ∨ c = .programmingSession q ∨ c = .defaultSession q ∨ c = .testerPresent q ∨ c = .ecuReset q ∨
      (∃ sid : BitVec 8, c = .serviceNotSupported q sid)) → exec c s = .next s)

/-- DTC reports list the codes of counted records; DTC setting, clearing, identifiers and memory accesses act by session, security and format (16_service_and_vehicle_bus.md R355; 16_service_and_vehicle_bus.md R358; 16_service_and_vehicle_bus.md R359; 16_service_and_vehicle_bus.md R360; 16_service_and_vehicle_bus.md R361; 16_service_and_vehicle_bus.md R362; 16_service_and_vehicle_bus.md R363; 16_service_and_vehicle_bus.md R364; 15_drip_and_flowstone.md R344; 01_signal_to_speaker.md R27). -/
def Obligations.TroubleCodesAndDataAreReadAndWritten : Prop :=
  (∀ (mask : BitVec 8) (s : State),
    (s.dtcCodes mask).Pairwise (fun a b => a.1 < b.1) ∧
    (∀ (c : BitVec 16) (b : Byte), (c, b) ∈ s.dtcCodes mask ↔
      (∃ r ∈ s.dtcRecs, r.code = c) ∧ b &&& mask ≠ 0 ∧
        b = (if ∃ r ∈ s.dtcRecs, r.code = c ∧ seqLe s.fls.startSeq r.seq = true then 0x09 else 0x08))) ∧
  (∀ (q : ReqKind) (mask : BitVec 8) (s : State), s.takes q 3 → s.get R.DSU_STAT.SESS ≠ 0 →
    (∃ t : State, exec (.reportNumberOfDtc q mask) s = .next t ∧ s.onlyDsu t ∧
      t.replies q ([0x59, 0x01, 0x09, 0x01] ++ be 2 (s.dtcCodes mask).length)) ∧
    ((s.dtcCodes mask).length ≤ 1022 → ∃ t : State, exec (.reportDtcByStatusMask q mask) s = .next t ∧ s.onlyDsu t ∧
      t.replies q ([0x59, 0x02, 0x09] ++ (s.dtcCodes mask).flatMap fun p => 0xA1 :: be 2 p.1.toNat ++ [p.2]))) ∧
  (∀ (q : ReqKind) (dtc : BitVec 24) (record : BitVec 8) (l : List FRec) (s : State), s.takes q 6 → s.get R.DSU_STAT.SESS ≠ 0 →
    l = s.dtcRecs.filter (fun r => r.code == BitVec.ofNat 16 dtc.toNat) →
    ((dtc.toNat / 65536 ≠ 0xA1 ∨ l = []) → ∃ t : State, exec (.reportDtcExtDataRecord q dtc record) s = .next t ∧
      t.refuses q 0x19 0x31 ∧ s.onlyDsu t) ∧
    (dtc.toNat / 65536 = 0xA1 → l ≠ [] → record = 0x01 → ∃ t : State, exec (.reportDtcExtDataRecord q dtc record) s = .next t ∧
      s.onlyDsu t ∧ t.replies q ([0x59, 0x06] ++ be 3 dtc.toNat ++ [s.dtcStatus s.dtcRecs (BitVec.ofNat 16 dtc.toNat), 0x01] ++
        be 2 (min 0xFFFF l.length) ++ be 2 (min 0xFFFF ((l.map fun r => r.supp.toNat).sum))))) ∧
  (∀ (q : ReqKind) (s : State), s.takes q 2 → s.get R.DSU_STAT.SESS = 3 →
    (∃ t : State, exec (.dtcSettingOff q) s = .next t ∧ t.bit R.DSU_STAT.DTCOFF = true ∧ t.repliesSub q [0xC5, 0x02] ∧
      (s.bit R.DSU_STAT.DTCOFF = false → t.get R.DSU_DTCOFF.V = s.fls.lastSeq.toNat ∧ t.get R.DSU_DTCON.V = 0xFFFFFFFF) ∧
      s.onlyFields t ([R.DSU_STAT.DTCOFF, R.DSU_DTCOFF.V, R.DSU_DTCON.V] ++ evFields) ∧
      t = { s with regs := t.regs, fls := t.fls, dsu := t.dsu }) ∧
    (∃ t : State, exec (.dtcSettingOn q) s = .next t ∧ t.bit R.DSU_STAT.DTCOFF = false ∧ t.repliesSub q [0xC5, 0x01] ∧
      (s.bit R.DSU_STAT.DTCOFF = true → t.get R.DSU_DTCON.V = s.fls.lastSeq.toNat) ∧
      s.onlyFields t ([R.DSU_STAT.DTCOFF, R.DSU_DTCON.V] ++ evFields) ∧
      t = { s with regs := t.regs, fls := t.fls, dsu := t.dsu })) ∧
  (∀ (q : ReqKind) (group : BitVec 24) (s : State), s.takes q 4 → s.get R.DSU_STAT.SESS = 3 → s.bit R.DSU_STAT.SEC = true →
    (group ≠ 0xFFFFFF → ∃ t : State, exec (.clearDiagnosticInformation q group) s = .next t ∧ t.refuses q 0x14 0x31 ∧ s.onlyDsu t) ∧
    (group = 0xFFFFFF → (s.sys.mode = .service ∨ s.sys.mode = .hold) →
      ∃ t : State, exec (.clearDiagnosticInformation q group) s = .next t ∧ t.bit R.FLS_STAT.CLRPEND = true ∧
        t.dsu.pend = some { sid := 0x14, kind := q } ∧ s.onlyFields t [R.FLS_STAT.CLRPEND] ∧
        t = { s with regs := t.regs, fls := t.fls, dsu := t.dsu }) ∧
    (group = 0xFFFFFF → s.sys.mode ≠ .service → s.sys.mode ≠ .hold →
      ∃ t : State, exec (.clearDiagnosticInformation q group) s = .next t ∧ t.bit R.FLS_STAT.CLRREJ = true ∧ t.refuses q 0x14 0x22 ∧
        s.onlyFields t [R.FLS_STAT.CLRREJ, R.DSU_STAT.LASTNRC] ∧ t = { s with regs := t.regs, dsu := t.dsu })) ∧
  (∀ (q : ReqKind) (d : BitVec 16) (l : List Nat) (s : State), s.takes q 3 → s.get R.DSU_STAT.SESS ≠ 0 →
    (didRegs d.toNat = some l → ∃ u : State, exec (.readDataByIdentifier q [d]) s = .next u.settle ∧ u = { s with dsu := u.dsu, eng := { s.eng with rhoR := 24 } } ∧
      u.replies q (0x62 :: be 2 d.toNat ++ l.flatMap fun a => le 4 (s.busVal 80 a).toNat)) ∧
    (d.toNat < 0xFD00 → s.didEntry d.toNat = none → ∃ u : State, exec (.readDataByIdentifier q [d]) s = .next u.settle ∧
      u.refuses q 0x22 0x31 ∧ s.onlyDsu u)) ∧
  (∀ (q : ReqKind) (l : List (BitVec 16)) (s : State), s.takes q (1 + 2 * l.length) → s.get R.DSU_STAT.SESS ≠ 0 →
    (l = [] ∨ 4 < l.length) → ∃ u : State, exec (.readDataByIdentifier q l) s = .next u.settle ∧ u.refuses q 0x22 0x13 ∧ s.onlyDsu u) ∧
  (∀ (q : ReqKind) (fmt : BitVec 8) (addr size : Word) (s : State), s.takes q 10 → s.get R.DSU_STAT.SESS ≠ 0 →
    ((memOk fmt addr size = false ∨ inPrivate addr.toNat size.toNat = true) →
      ∃ u : State, exec (.readMemoryByAddress q fmt addr size) s = .next u.settle ∧ u.refuses q 0x23 0x31 ∧ s.onlyDsu u) ∧
    (memOk fmt addr size = true → (∀ k : Nat, k < size.toNat / 4 → s.eccAt (addr.toNat + 4 * k) = 0 ∧
        (inGallery (addr.toNat + 4 * k) = true ∨ inLocal (addr.toNat + 4 * k) = true)) →
      ∃ u : State, exec (.readMemoryByAddress q fmt addr size) s = .next u.settle ∧
        u = { s with dsu := u.dsu, eng := { s.eng with rhoBank := u.eng.rhoBank } } ∧
        u.replies q (0x63 :: s.rdBytes addr.toNat size.toNat)) ∧
    (memOk fmt addr size = true → inPrivate addr.toNat size.toNat = false → size = 4 →
      (inGallery addr.toNat = true → 2 ≤ s.eccAt addr.toNat →
        ∃ u : State, exec (.readMemoryByAddress q fmt addr size) s = .next u.settle ∧ u.refuses q 0x23 0x10 ∧
          u.bit R.ENG_GSTAT.UNC = true ∧ u.get R.ENG_GSTAT.MST = 23) ∧
      (inGallery addr.toNat = false → inLocal addr.toNat = false → inRegs addr.toNat = false →
        ∃ u : State, exec (.readMemoryByAddress q fmt addr size) s = .next u.settle ∧ u.refuses q 0x23 0x31 ∧ s.onlyDsu u) ∧
      (inRegs addr.toNat = true → s.busRdBad 23 addr.toNat = none →
        ∃ u : State, exec (.readMemoryByAddress q fmt addr size) s = .next u.settle ∧
          u.replies q (0x63 :: le 4 (s.busVal 80 addr.toNat).toNat) ∧ u.eng.rhoR = 24))) ∧
  (∀ (q : ReqKind) (fmt : BitVec 8) (addr size : Word) (data : List Byte) (s : State), s.takes q (10 + data.length) →
    s.get R.DSU_STAT.SESS = 3 →
    (inPrivate addr.toNat size.toNat = true → ∃ u : State, exec (.writeMemoryByAddress q fmt addr size data) s = .next u.settle ∧
      u.refuses q 0x3D 0x31 ∧ s.onlyDsu u) ∧
    (inPrivate addr.toNat size.toNat = false → s.bit R.DSU_STAT.SEC = false →
      ∃ u : State, exec (.writeMemoryByAddress q fmt addr size data) s = .next u.settle ∧ u.refuses q 0x3D 0x33 ∧ s.onlyDsu u) ∧
    (s.bit R.DSU_STAT.SEC = true → memOk fmt addr size = true → data.length = size.toNat →
      (∀ k : Nat, k < size.toNat / 4 → s.plainWord (addr.toNat + 4 * k)) →
      ∃ u : State, exec (.writeMemoryByAddress q fmt addr size data) s = .next u.settle ∧ u.rdBytes addr.toNat size.toNat = data ∧
        s.onlyBytes u addr.toNat size.toNat ∧ u.replies q ([0x7D, fmt] ++ be 4 addr.toNat ++ be 4 size.toNat) ∧
        s.onlyFields u evFields ∧ u = { s with mem := u.mem, regs := u.regs, fls := u.fls, dsu := u.dsu
                                               eng := { s.eng with rhoBank := u.eng.rhoBank } })) ∧
  (∀ (q : ReqKind) (did : BitVec 16) (data : List Byte) (x : DidEntry) (s : State), s.takes q (3 + data.length) →
    s.get R.DSU_STAT.SESS = 3 → s.didEntry did.toNat = some x → inPrivate x.src x.len = false → x.kind = 2 →
    (s.bit R.DSU_STAT.SEC = false → ∃ u : State, exec (.writeDataByIdentifier q did data) s = .next u.settle ∧
      u.refuses q 0x2E 0x33 ∧ s.onlyDsu u) ∧
    (s.bit R.DSU_STAT.SEC = true → data.length ≠ x.len → ∃ u : State, exec (.writeDataByIdentifier q did data) s = .next u.settle ∧
      u.refuses q 0x2E 0x13 ∧ s.onlyDsu u) ∧
    (s.bit R.DSU_STAT.SEC = true → data.length = x.len → x.len % 4 = 0 → (∀ k : Nat, k < x.len / 4 → s.plainWord (x.src + 4 * k)) →
      ∃ u : State, exec (.writeDataByIdentifier q did data) s = .next u.settle ∧ u.rdBytes x.src x.len = data ∧
        s.onlyBytes u x.src x.len ∧ u.replies q (0x6E :: be 2 did.toNat) ∧ s.onlyFields u evFields ∧
        u = { s with mem := u.mem, regs := u.regs, fls := u.fls, dsu := u.dsu, eng := { s.eng with rhoBank := u.eng.rhoBank } })) ∧
  (∀ (q : ReqKind) (c : Instr) (sid n : Nat) (s : State), s.takes q n → s.get R.DSU_STAT.SESS ≠ 3 →
    ((c = .dtcSettingOn q ∧ sid = 0x85 ∧ n = 2) ∨ (c = .dtcSettingOff q ∧ sid = 0x85 ∧ n = 2) ∨
      (∃ g : BitVec 24, c = .clearDiagnosticInformation q g ∧ sid = 0x14 ∧ n = 4) ∨
      (∃ (f : BitVec 8) (a z : Word) (l : List Byte), c = .writeMemoryByAddress q f a z l ∧ sid = 0x3D ∧ n = 10 + l.length) ∨
      (∃ (d : BitVec 16) (l : List Byte), c = .writeDataByIdentifier q d l ∧ sid = 0x2E ∧ n = 3 + l.length)) →
    ∃ t : State, exec c s = .next t ∧ t.refuses q sid 0x7F ∧ s.onlyDsu t) ∧
  (∀ (q : ReqKind) (c : Instr) (n : Nat) (s : State), ¬ s.takes q n →
    ((∃ m : BitVec 8, n = 3 ∧ (c = .reportNumberOfDtc q m ∨ c = .reportDtcByStatusMask q m)) ∨
      (∃ (d : BitVec 24) (r : BitVec 8), n = 6 ∧ c = .reportDtcExtDataRecord q d r) ∨
      (n = 2 ∧ (c = .dtcSettingOn q ∨ c = .dtcSettingOff q)) ∨ (∃ g : BitVec 24, n = 4 ∧ c = .clearDiagnosticInformation q g) ∨
      (∃ l : List (BitVec 16), n = 1 + 2 * l.length ∧ c = .readDataByIdentifier q l) ∨
      (∃ (f : BitVec 8) (a z : Word), n = 10 ∧ c = .readMemoryByAddress q f a z) ∨
      (∃ (f : BitVec 8) (a z : Word) (l : List Byte), n = 10 + l.length ∧ c = .writeMemoryByAddress q f a z l) ∨
      (∃ (d : BitVec 16) (l : List Byte), n = 3 + l.length ∧ c = .writeDataByIdentifier q d l)) →
    exec c s = .next s)

/-- Seeds, keys and lockout, the routines and their results, and a download from its request to its exit act as R356 to R367 and R280 to R281 say (16_service_and_vehicle_bus.md R355; 16_service_and_vehicle_bus.md R356; 16_service_and_vehicle_bus.md R357; 16_service_and_vehicle_bus.md R364; 16_service_and_vehicle_bus.md R365; 16_service_and_vehicle_bus.md R366; 16_service_and_vehicle_bus.md R367; 12_image_and_start.md R279; 12_image_and_start.md R280; 12_image_and_start.md R281). -/
def Obligations.SecurityRoutinesAndDownloads : Prop :=
  (∀ (q : ReqKind) (s : State), s.takes q 2 → (s.get R.DSU_STAT.SESS = 2 ∨ s.get R.DSU_STAT.SESS = 3) →
    (s.bit R.DSU_STAT.LOCK = true → ∃ t : State, exec (.requestSeed q) s = .next t ∧ t.refuses q 0x27 0x37 ∧ s.onlyDsu t) ∧
    (s.bit R.DSU_STAT.LOCK = false → ∃ (t : State) (seed : List Byte), exec (.requestSeed q) s = .next t ∧ seed.length = 16 ∧
      t.dsu.seed = some seed ∧ t.replies q ([0x67, 0x01] ++ seed) ∧ t = { s with dsu := t.dsu } ∧
      (s.bit R.DSU_STAT.SEC = true → seed = List.replicate 16 0) ∧
      (s.bit R.DSU_STAT.SEC = false →
        seed = le 4 (s.busVal 80 R.SYS_ID.at).toNat ++ le 4 s.fls.cnt.starts ++ le 8 s.now))) ∧
  (∀ (q : ReqKind) (key seed : List Byte) (s : State), s.takes q (2 + key.length) →
    (s.get R.DSU_STAT.SESS = 2 ∨ s.get R.DSU_STAT.SESS = 3) → s.bit R.DSU_STAT.LOCK = false → key.length = 16 →
    (s.dsu.seed = none → ∃ t : State, exec (.sendKey q key) s = .next t ∧ t.refuses q 0x27 0x24 ∧ s.onlyDsu t) ∧
    (s.dsu.seed = some seed →
      (cmac s.saKey seed = key → ∃ t : State, exec (.sendKey q key) s = .next t ∧ t.bit R.DSU_STAT.SEC = true ∧ t.dsu.seed = none ∧
        t.pwr = { s.pwr with saCnt := 0, saLock := false } ∧ t.replies q [0x67, 0x02] ∧
        s.onlyFields t (R.DSU_STAT.SEC :: evFields) ∧ t = { s with regs := t.regs, fls := t.fls, pwr := t.pwr, dsu := t.dsu }) ∧
      (cmac s.saKey seed ≠ key → ∃ t : State, exec (.sendKey q key) s = .next t ∧ t.dsu.seed = none ∧
        t.pwr = { s.pwr with saCnt := min 7 (s.pwr.saCnt + 1) } ∧
        (s.pwr.saCnt < 2 → t.refuses q 0x27 0x35 ∧ t.bit R.DSU_STAT.LOCK = false) ∧
        (2 ≤ s.pwr.saCnt → t.refuses q 0x27 0x36 ∧ t.bit R.DSU_STAT.LOCK = true) ∧
        s.onlyFields t ([R.DSU_STAT.LOCK, R.DSU_STAT.LASTNRC] ++ evFields) ∧
        t = { s with regs := t.regs, fls := t.fls, pwr := t.pwr, dsu := t.dsu }))) ∧
  (∀ s : State, s.coreRuns = true → ∃ t : State, exec .lockoutEnd s = .next t ∧ t.bit R.DSU_STAT.LOCK = false ∧
    t.pwr = { s.pwr with saLock := false } ∧ s.onlyFields t [R.DSU_STAT.LOCK] ∧ t = { s with regs := t.regs, pwr := t.pwr }) ∧
  (∀ s : State, s.coreRuns = false → exec .lockoutEnd s = .next s ∧ exec .flashProgramEraseDone s = .next s) ∧
  (∀ (q : ReqKind) (c : BitVec 8) (zinc zamp : Word) (zcnt : BitVec 24) (ms : BitVec 16) (i : Instr) (n cnt rid : Nat) (s : State),
    s.takes q n → s.get R.DSU_STAT.SESS = 3 → s.bit R.DSU_STAT.SEC = true →
    ((i = .impedanceMeasureRoutine q c zinc zamp zcnt ∧ n = 16 ∧ cnt = zcnt.toNat ∧ rid = 0xFE00) ∨
      (i = .testToneRoutine q c zinc zamp ms ∧ n = 15 ∧ cnt = min (ms.toNat * (393216 / s.audioH (c.toNat / 4))) 0xFFFFF ∧ rid = 0xFE01)) →
    ((15 < c.toNat ∨ cnt = 0) → ∃ u : State, exec i s = .next u.settle ∧ u.refuses q 0x31 0x31 ∧ s.onlyDsu u) ∧
    (c.toNat ≤ 15 → cnt ≠ 0 → s.zReady c.toNat = false → ∃ u : State, exec i s = .next u.settle ∧ u.refuses q 0x31 0x22 ∧ s.onlyDsu u) ∧
    (c.toNat ≤ 15 → cnt ≠ 0 → s.zReady c.toNat = true → (s.dom (c.toNat / 4)).zrun = false → (s.dom (c.toNat / 4)).dst ≠ .reload →
      ∃ u : State, exec i s = .next u.settle ∧ u.repliesSub q [0x71, 0x01, 0xFE, BitVec.ofNat 8 rid] ∧
        tblGet (fun _ => false) u.dsu.started rid = true ∧ u.reg (R.LFC_ZINC.at (c.toNat / 4)) = zinc ∧
        u.reg (R.LFC_ZAMP.at (c.toNat / 4)) = zamp ∧ u.get (R.LFC_ZCFG.CH (c.toNat / 4)) = c.toNat % 4 ∧ u.mem = s.mem)) ∧
  (∀ (q : ReqKind) (opt : BitVec 8) (s : State), s.takes q 5 → (s.get R.DSU_STAT.SESS = 2 ∨ s.get R.DSU_STAT.SESS = 3) →
    s.bit R.DSU_STAT.SEC = true →
    (opt.toNat % 16 = 0 → ∃ u : State, exec (.domainReloadRoutine q opt) s = .next u.settle ∧
      u.repliesSub q [0x71, 0x01, 0xFE, 0x02] ∧ u.doms = s.doms) ∧
    (∀ d : Fin 4, opt.toNat % 16 = 2 ^ d.val → ((s.dom d).dst = .off ∨ (s.dom d).dst = .reload) →
      ∃ u : State, exec (.domainReloadRoutine q opt) s = .next u.settle ∧ u.refuses q 0x31 0x22 ∧ u.bit R.IMG_STAT.RREJ = true ∧
        u.doms = s.doms) ∧
    (∀ d : Fin 4, opt.toNat = 2 ^ d.val → (s.dom d).dst ≠ .off → (s.dom d).dst ≠ .reload → s.sys.reloadQ.contains d.val = false →
      ∃ u : State, exec (.domainReloadRoutine q opt) s = .next u.settle ∧ u.repliesSub q [0x71, 0x01, 0xFE, 0x02] ∧
        (u.dom d).relReq = some { copy := 0, pdn := false } ∧ (∀ j : Nat, j ≠ d → u.dom j = s.dom j) ∧ u.mem = s.mem)) ∧
  (∀ (q : ReqKind) (s : State), s.takes q 4 → s.get R.DSU_STAT.SESS = 3 → s.bit R.DSU_STAT.SEC = true →
    ((s.sys.mode = .service ∨ s.sys.mode = .hold) → ∃ t : State, exec (.recorderClearRoutine q) s = .next t ∧
      t.bit R.FLS_STAT.CLRPEND = true ∧ t.dsu.pend = some { sid := 0x31, kind := q } ∧
      t = { s with regs := t.regs, fls := t.fls, dsu := t.dsu }) ∧
    (s.sys.mode ≠ .service → s.sys.mode ≠ .hold → ∃ t : State, exec (.recorderClearRoutine q) s = .next t ∧
      t.bit R.FLS_STAT.CLRREJ = true ∧ t.refuses q 0x31 0x22 ∧ t = { s with regs := t.regs, dsu := t.dsu })) ∧
  (∀ (q : ReqKind) (rid : BitVec 16) (c : BitVec 8) (s : State), s.takes q 5 → s.get R.DSU_STAT.SESS = 3 → s.bit R.DSU_STAT.SEC = true →
    (s.routineResults rid.toNat c.toNat = none → ∃ t : State, exec (.requestResults q rid c) s = .next t ∧ t.refuses q 0x31 0x31 ∧ s.onlyDsu t) ∧
    (∀ l : List Byte, s.routineResults rid.toNat c.toNat = some l → l.length ≤ 64 →
      (tblGet (fun _ => false) s.dsu.started rid.toNat = false → ∃ t : State, exec (.requestResults q rid c) s = .next t ∧
        t.refuses q 0x31 0x24 ∧ s.onlyDsu t) ∧
      (tblGet (fun _ => false) s.dsu.started rid.toNat = true → ∃ t : State, exec (.requestResults q rid c) s = .next t ∧
        t.repliesSub q ([0x71, 0x03] ++ be 2 rid.toNat ++ l) ∧ t = { s with dsu := t.dsu }))) ∧
  (∀ (q : ReqKind) (rid : BitVec 16) (s : State), s.takes q 4 → s.get R.DSU_STAT.SESS = 3 → s.bit R.DSU_STAT.SEC = true →
    ∃ t : State, exec (.stopRoutine q rid) s = .next t ∧ t.refuses q 0x31 0x12 ∧ s.onlyDsu t) ∧
  (∀ (q : ReqKind) (addr size : Word) (c : Nat) (s : State), s.takes q 11 → s.get R.DSU_STAT.SESS = 2 → s.inReload = false →
    (s.dlRefusal { kind := q, dfi := 0, fmt := 0x44, addr := addr, size := size } = 0 → dlTarget addr.toNat = some c →
      ∃ u : State, exec (.requestDownload q 0 0x44 addr size) s = .next u.settle ∧ u.bit R.IMG_STAT.DLACT = true ∧
        u.get R.IMG_DLCNT.V = 0 ∧ u.img.dlSize = size.toNat ∧ u.img.dlCopy = c ∧ u.img.dlBuf = [] ∧
        u.bit (if c = 0 then R.IMG_STAT.VA else R.IMG_STAT.VB) = false ∧ u.replies q [0x74, 0x20, 0x0F, 0xFF] ∧
        (∀ k : Nat, k < sectorSize s.img.par → tblGet flashDflt u.img.flash (0x400000 * c + k) = 0xFF) ∧
        (∀ k : Nat, (k < 0x400000 * c ∨ 0x400000 * c + sectorSize s.img.par ≤ k) → tblGet flashDflt u.img.flash k = tblGet flashDflt s.img.flash k) ∧
        u = { s with regs := u.regs, img := u.img, dsu := u.dsu }) ∧
    (∀ n : Nat, s.dlRefusal { kind := q, dfi := 0, fmt := 0x44, addr := addr, size := size } = n → n ≠ 0 →
      ∃ u : State, exec (.requestDownload q 0 0x44 addr size) s = .next u.settle ∧ u.refuses q 0x34 n ∧
        u.img = { s.img with dlWait := none })) ∧
  (∀ (q : ReqKind) (dfi fmt : BitVec 8) (addr size : Word) (s : State), s.takes q 11 → s.get R.DSU_STAT.SESS = 2 →
    s.bit R.DSU_STAT.SEC = true →
    ((dfi ≠ 0 ∨ fmt ≠ 0x44) → ∃ u : State, exec (.requestDownload q dfi fmt addr size) s = .next u.settle ∧ u.refuses q 0x34 0x31 ∧
      u.img = { s.img with dlWait := none }) ∧
    (s.inReload = true → dfi = 0 → fmt = 0x44 → ∃ u : State, exec (.requestDownload q dfi fmt addr size) s = .next u.settle ∧
      u.img = { s.img with dlWait := some (.request { kind := q, dfi := 0, fmt := 0x44, addr := addr, size := size }) } ∧
      u.dsu = { s.dsu with rx := none, pend := some { sid := 0x34, kind := q } } ∧ u = { s with img := u.img, dsu := u.dsu })) ∧
  (∀ (q : ReqKind) (ctr : BitVec 8) (data : List Byte) (n : Nat) (s : State), s.takes q (2 + data.length) → s.get R.DSU_STAT.SESS = 2 →
    s.bit R.DSU_STAT.SEC = true → n = s.get R.IMG_DLCNT.V → data.length < 2 ^ 12 → n < 2 ^ 31 →
    (s.bit R.IMG_STAT.DLACT = false → ∃ t : State, exec (.transferData q ctr data) s = .next t ∧ t.refuses q 0x36 0x24 ∧ s.onlyDsu t) ∧
    (s.bit R.IMG_STAT.DLACT = true →
      (s.img.dlGot = true → ctr = s.img.dlCtr → ∃ t : State, exec (.transferData q ctr data) s = .next t ∧ t.replies q [0x76, ctr] ∧ s.onlyDsu t) ∧
      ((s.img.dlGot = false ∨ ctr ≠ s.img.dlCtr) → ctr ≠ s.img.dlCtr + 1 → ∃ t : State, exec (.transferData q ctr data) s = .next t ∧ t.refuses q 0x36 0x73 ∧ s.onlyDsu t) ∧
      (ctr = s.img.dlCtr + 1 → s.img.dlSize < n + data.length →
        ∃ t : State, exec (.transferData q ctr data) s = .next t ∧ t.refuses q 0x36 0x71 ∧ s.onlyDsu t) ∧
      (ctr = s.img.dlCtr + 1 → n + data.length ≤ s.img.dlSize → s.inReload = true →
        ∃ t : State, exec (.transferData q ctr data) s = .next t ∧ t.img = { s.img with dlWait := some (.data q ctr data) } ∧
          t.dsu = { s.dsu with rx := none, pend := some { sid := 0x36, kind := q } } ∧ t = { s with img := t.img, dsu := t.dsu }) ∧
      (ctr = s.img.dlCtr + 1 → n + data.length ≤ s.img.dlSize → s.inReload = false → s.pwr.inh = true → 256 < n + data.length →
        ∃ t : State, exec (.transferData q ctr data) s = .next t ∧ t.refuses q 0x36 0x72 ∧ t.bit R.IMG_STAT.DLACT = false ∧
          t.bit R.IMG_STAT.DLFAIL = true ∧ t.img.flash = s.img.flash ∧ t = { s with regs := t.regs, fls := t.fls, img := t.img, dsu := t.dsu }) ∧
      (ctr = s.img.dlCtr + 1 → n + data.length ≤ s.img.dlSize → s.inReload = false → s.pwr.inh = false → s.img.dlBuf.length = min n 256 →
        ∃ t : State, exec (.transferData q ctr data) s = .next t ∧ t.get R.IMG_DLCNT.V = n + data.length ∧ t.img.dlCtr = ctr ∧
          t.img.dlBuf.length = min (n + data.length) 256 ∧ t.img.dlBuf = s.img.dlBuf ++ data.take (256 - n) ∧
          (∀ k : Nat, k < data.length → 256 ≤ n + k → n + k < 0x400000 →
            tblGet flashDflt t.img.flash (copyBase s.img.dlCopy + n + k) = data.getD k 0) ∧
          t.replies q [0x76, ctr] ∧ t = { s with regs := t.regs, img := t.img, dsu := t.dsu }))) ∧
  (∀ (q : ReqKind) (h : Hdr) (s : State), s.takes q 1 → s.get R.DSU_STAT.SESS = 2 → s.bit R.DSU_STAT.SEC = true →
    h = hdrOf (s.dlRd 0 64) →
    (s.bit R.IMG_STAT.DLACT = false → ∃ t : State, exec (.requestTransferExit q) s = .next t ∧ t.refuses q 0x37 0x24 ∧ s.onlyDsu t) ∧
    (s.bit R.IMG_STAT.DLACT = true → s.inReload = true → ∃ t : State, exec (.requestTransferExit q) s = .next t ∧
      t.img = { s.img with dlWait := some (.exit q) } ∧ t.dsu = { s.dsu with rx := none, pend := some { sid := 0x37, kind := q } } ∧
      t = { s with img := t.img, dsu := t.dsu }) ∧
    (s.bit R.IMG_STAT.DLACT = true → s.inReload = false → s.copyCheck s.dlRd = none → s.get R.IMG_DLCNT.V = s.img.dlSize → s.genAbove h.gen = true →
      s.pwr.inh = false → s.img.dlCopy < 2 →
      ∃ t : State, exec (.requestTransferExit q) s = .next t ∧ t.bit R.IMG_STAT.DLACT = false ∧ t.replies q [0x77] ∧
        t.bit (if s.img.dlCopy = 0 then R.IMG_STAT.VA else R.IMG_STAT.VB) = true ∧
        t.get (if s.img.dlCopy = 0 then R.IMG_GENA.V else R.IMG_GENB.V) = h.gen % 2 ^ 32 ∧ t.img.dlBuf = [] ∧
        t = { s with regs := t.regs, fls := t.fls, img := t.img, dsu := t.dsu }) ∧
    (s.bit R.IMG_STAT.DLACT = true → s.inReload = false → (s.copyCheck s.dlRd ≠ none ∨ s.get R.IMG_DLCNT.V ≠ s.img.dlSize ∨ s.genAbove h.gen = false ∨ s.pwr.inh = true) →
      ∃ t : State, exec (.requestTransferExit q) s = .next t ∧ t.bit R.IMG_STAT.DLACT = false ∧ t.bit R.IMG_STAT.DLFAIL = true ∧
        t.refuses q 0x37 0x72 ∧ t.img.flash = s.img.flash ∧ t = { s with regs := t.regs, fls := t.fls, img := t.img, dsu := t.dsu })) ∧
  (∀ s : State, s.coreRuns = true → s.img.fSusp = false →
    exec .flashProgramEraseDone s = .next { s with img := { s.img with fBusy := false } }) ∧
  (∀ s : State, s.img.fSusp = true → exec .flashProgramEraseDone s = .next s) ∧
  (∀ (q : ReqKind) (c : Instr) (sid n : Nat) (s : State), s.takes q n → s.get R.DSU_STAT.SESS = 1 →
    ((c = .requestSeed q ∧ sid = 0x27 ∧ n = 2) ∨ (∃ l : List Byte, c = .sendKey q l ∧ sid = 0x27 ∧ n = 2 + l.length) ∨
      (∃ o : BitVec 8, c = .domainReloadRoutine q o ∧ sid = 0x31 ∧ n = 5) ∨ (c = .recorderClearRoutine q ∧ sid = 0x31 ∧ n = 4) ∨
      (∃ (d f : BitVec 8) (a z : Word), c = .requestDownload q d f a z ∧ sid = 0x34 ∧ n = 11) ∨
      (∃ (k : BitVec 8) (l : List Byte), c = .transferData q k l ∧ sid = 0x36 ∧ n = 2 + l.length) ∨
      (c = .requestTransferExit q ∧ sid = 0x37 ∧ n = 1)) →
    ∃ t : State, exec c s = .next t ∧ t.refuses q sid 0x7F ∧ s.onlyDsu t) ∧
  (∀ (q : ReqKind) (c : Instr) (n : Nat) (s : State), ¬ s.takes q n →
    ((n = 2 ∧ c = .requestSeed q) ∨ (∃ l : List Byte, n = 2 + l.length ∧ c = .sendKey q l) ∨
      (∃ (k : BitVec 8) (zi za : Word) (zc : BitVec 24), n = 16 ∧ c = .impedanceMeasureRoutine q k zi za zc) ∨
      (∃ (k : BitVec 8) (zi za : Word) (ms : BitVec 16), n = 15 ∧ c = .testToneRoutine q k zi za ms) ∨
      (∃ o : BitVec 8, n = 5 ∧ c = .domainReloadRoutine q o) ∨ (n = 4 ∧ c = .recorderClearRoutine q) ∨
      (∃ r : BitVec 16, n = 4 ∧ c = .stopRoutine q r) ∨
      (∃ (d f : BitVec 8) (a z : Word), n = 11 ∧ c = .requestDownload q d f a z) ∨
      (∃ (k : BitVec 8) (l : List Byte), n = 2 + l.length ∧ c = .transferData q k l) ∨ (n = 1 ∧ c = .requestTransferExit q)) →
    exec c s = .next s)

/-- A Drip cycle ends good, failed or in expiry as R325 to R331 say; the recorder commits, scans, clears and copies slots as R335 to R344 say (15_drip_and_flowstone.md R324; 15_drip_and_flowstone.md R325; 15_drip_and_flowstone.md R326; 15_drip_and_flowstone.md R327; 15_drip_and_flowstone.md R330; 15_drip_and_flowstone.md R331; 15_drip_and_flowstone.md R335; 15_drip_and_flowstone.md R337; 15_drip_and_flowstone.md R340; 15_drip_and_flowstone.md R341; 15_drip_and_flowstone.md R342; 15_drip_and_flowstone.md R344). -/
def Obligations.DripAndFlowstone : Prop :=
  (∀ s : State,
    ((s.dripCauses).testBit 2 = true ↔ ∃ i : Nat, s.fls.dripExp.testBit i = true ∧ (s.get R.DRP_CYC.EXC).testBit i = false ∧
      (s.get R.DRP_CHKIN.SEEN).testBit i = false) ∧
    ((s.dripCauses).testBit 3 = true ↔ ∃ i : Nat, s.fls.dripExp.testBit i = true ∧ (s.get R.DRP_CYC.EXC).testBit i = false ∧
      (s.get R.DRP_CYC.DBL).testBit i = true) ∧
    ((s.dripCauses).testBit 4 = true ↔ ∃ i : Nat, s.fls.unexp.testBit i = true ∧ (s.get R.DRP_CYC.EXC).testBit i = false) ∧
    s.dripCauses < 32 ∧ s.dripCauses % 4 = 0) ∧
  (∀ (w : Word) (t : Nat) (s : State),
    (s.coreRuns = false → exec (.drpKick w) s = .next s) ∧
    (s.coreRuns = true → (s.fls.dripOn = false ∨ s.bit R.DRP_STAT.START = true) → exec (.drpKick w) s = .next s.settle) ∧
    (s.coreRuns = true → s.fls.dripOn = true → s.bit R.DRP_STAT.START = false → t = s.get R.DRP_STAT.TOKEN →
      ∃ e n c : Nat, (e = 1 ∨ e = 2) ∧ n = s.get R.DRP_CNT.C + e - min e s.fls.dripSkip ∧
      c = s.dripCauses + (if s.bit R.DRP_STAT.ARMED = true ∧ w.toNat = 0xFFFF0000 + (t ^^^ 0xFFFF) then
          (if n < 64 * max (s.get R.DRP_WIN.TMIN) 1 then 1 else 0) else 2) ∧
      (64 * s.get R.DRP_WIN.TMAX < n →
        exec (.drpKick w) s = .next ({ s with freeCtr := s.freeCtr + 1 } : State).settle) ∧
      (n ≤ 64 * s.get R.DRP_WIN.TMAX → s.bit R.DRP_STAT.ARMED = false → w.toNat = t → ∃ u : State, exec (.drpKick w) s = .next u.settle ∧
        u.bit R.DRP_STAT.ARMED = true ∧ s.onlyFields u [R.DRP_STAT.ARMED] ∧ u = { s with regs := u.regs, freeCtr := s.freeCtr + 1 }) ∧
      (n ≤ 64 * s.get R.DRP_WIN.TMAX → (s.bit R.DRP_STAT.ARMED = true ∨ w.toNat ≠ t) →
        (c = 0 → ∃ u : State, exec (.drpKick w) s = .next u.settle ∧ u.get R.DRP_STAT.FAILCNT = 0 ∧ u.get R.DRP_CNT.C = 0 ∧
          u.bit R.DRP_STAT.ARMED = false ∧ u.get R.DRP_CHKIN.SEEN = 0 ∧ u.get R.DRP_CYC.DBL = 0 ∧
          u.get R.DRP_CYC.EXC = s.excusedNow ∧ u.get R.DRP_STAT.TOKEN = (if t % 2 = 1 then (t / 2) ^^^ 0xB400 else t / 2) ∧
          u.fls = { s.fls with unexp := 0, dripSkip := e, dripExp := s.get R.DRP_CHKIN.EXP } ∧
          s.onlyFields u [R.DRP_STAT.FAILCNT, R.DRP_CNT.C, R.DRP_STAT.ARMED, R.DRP_CHKIN.SEEN, R.DRP_CYC.DBL, R.DRP_CYC.EXC, R.DRP_STAT.TOKEN] ∧
          s.onlyRegsFlsDiffer u) ∧
        (c ≠ 0 → s.get R.DRP_STAT.FAILCNT + 1 < max (s.get R.DRP_WIN.FLIM) 1 → ∃ u : State, exec (.drpKick w) s = .next u.settle ∧
          u.get R.DRP_STAT.FAILCNT = s.get R.DRP_STAT.FAILCNT + 1 ∧ u.get R.DRP_STAT.LASTC = c ∧ u.bit R.DRP_STAT.FAIL = true ∧
          u.get R.DRP_CNT.C = 0 ∧ u.bit R.DRP_STAT.ARMED = false ∧ u.get R.DRP_CHKIN.SEEN = 0 ∧ u.get R.DRP_CYC.DBL = 0 ∧
          u.get R.DRP_CYC.EXC = s.excusedNow ∧ u.get R.DRP_STAT.TOKEN = (if t % 2 = 1 then (t / 2) ^^^ 0xB400 else t / 2) ∧
          s.onlyFields u ([R.DRP_STAT.FAILCNT, R.DRP_STAT.LASTC, R.DRP_STAT.FAIL, R.DRP_CNT.C, R.DRP_STAT.ARMED, R.DRP_CHKIN.SEEN,
            R.DRP_CYC.DBL, R.DRP_CYC.EXC, R.DRP_STAT.TOKEN] ++ evFields) ∧ s.onlyRegsFlsDiffer u) ∧
        (c ≠ 0 → max (s.get R.DRP_WIN.FLIM) 1 ≤ s.get R.DRP_STAT.FAILCNT + 1 →
          ∃ u : State, exec (.drpKick w) s = .next u.settle ∧ s.coreIsReset u R.SYS_RSTCAUSE.DRIP)))) ∧
  (∀ s : State, s.coreRuns = true → s.fls.dripOn = true →
    (∃ u : State, exec .dripExpire s = .next u.settle ∧ s.coreIsReset u R.SYS_RSTCAUSE.DRIP) ∧
    (∃ u : State, exec (.dripClockStop .rc) s = .next u.settle ∧ s.coreIsReset u R.SYS_RSTCAUSE.DRIP) ∧
    (s.fls.csrc = true → ∃ u : State, exec (.dripClockStop .cclk) s = .next u.settle ∧
      s.coreIsReset u R.SYS_RSTCAUSE.DRIP) ∧
    (s.fls.csrc = false → exec (.dripClockStop .cclk) s = .next s)) ∧
  (∀ (k : DripClock) (s : State), (s.coreRuns = false ∨ s.fls.dripOn = false) →
    exec .dripExpire s = .next s ∧ exec (.dripClockStop k) s = .next s) ∧
  (∀ s : State, s.coreRuns = true → s.sys.mode = .hold → s.get R.IMG_STAT.COPY = 3 → s.fls.dripOn = true →
    (s.bit R.DRP_STAT.START = true → ∃ t : State, exec .holdDripCycle s = .next t ∧ t.get R.DRP_CNT.C = 0 ∧
      t.get R.DRP_STAT.TOKEN = dripNext (s.get R.DRP_STAT.TOKEN) ∧ t.fls = { s.fls with unexp := 0, dripSkip := 0 } ∧
      s.onlyFields t [R.DRP_CNT.C, R.DRP_STAT.ARMED, R.DRP_CHKIN.SEEN, R.DRP_CYC.DBL, R.DRP_CYC.EXC, R.DRP_STAT.TOKEN] ∧
      s.onlyRegsFlsDiffer t) ∧
    (s.bit R.DRP_STAT.START = false → exec .holdDripCycle s = .next s)) ∧
  (∀ s : State, (s.coreRuns = false ∨ s.sys.mode ≠ .hold ∨ s.get R.IMG_STAT.COPY ≠ 3 ∨ s.fls.dripOn = false) →
    exec .holdDripCycle s = .next s) ∧
  (∀ (code : BitVec 16) (s : State), (s.coreRuns = false ∨ evtExempt code.toNat = true ∨ (s.bucketDP code.toNat).2 = 0) →
    exec (.tokenRefill code) s = .next s) ∧
  (∀ (code : BitVec 16) (s : State), s.coreRuns = true → evtExempt code.toNat = false → (s.bucketDP code.toNat).2 ≠ 0 →
    ((s.bucket code.toNat).tok < (s.bucketDP code.toNat).1 → ∃ t : State, exec (.tokenRefill code) s = .next t ∧
      t.bucket code.toNat = { (s.bucket code.toNat) with tok := (s.bucket code.toNat).tok + 1, ms := 0 } ∧
      (∀ k : Nat, k ≠ code.toNat → t.bucket k = s.bucket k) ∧ t = { s with fls := { s.fls with buckets := t.fls.buckets } }) ∧
    ((s.bucketDP code.toNat).1 ≤ (s.bucket code.toNat).tok → exec (.tokenRefill code) s = .next s)) ∧
  (∀ (m : MediaOutcome) (s : State), (s.commitReady = false ∨ s.fls.stage = []) → exec (.flowstoneCommit m) s = .next s) ∧
  (∀ (r x : FRec) (l : List FRec) (i : Nat) (s : State), s.commitReady = true → s.fls.stage = r :: l →
    s.bit R.FLS_STAT.DEGRADED = false → r.code ≠ 0x0B62 → r.code ≠ 0x0B63 →
    x = { r with pl := false, seq := s.fls.cnt.nextSeq } →
    (((i < 7168 ∧ s.blockRetired i = false ∧ slotEmpty s.fls.cnt.clrSeq (tblGet (fun _ => .blank) s.fls.main i) = true ∧
        (∀ j : Nat, j < i → s.blockRetired j = true ∨ slotEmpty s.fls.cnt.clrSeq (tblGet (fun _ => .blank) s.fls.main j) = false)) ∨
      ((∀ j : Nat, j < 7168 → s.blockRetired j = true ∨ slotEmpty s.fls.cnt.clrSeq (tblGet (fun _ => .blank) s.fls.main j) = false) ∧
        ∃ y : FRec, (i, .rcd y) ∈ s.fls.main ∧ s.blockRetired i = false ∧ y.sev ≤ r.sev ∧
          (∀ (j : Nat) (z : FRec), (j, .rcd z) ∈ s.fls.main → s.blockRetired j = false → z.sev ≤ r.sev →
            (j = i ∧ z = y) ∨ seqLe z.seq y.seq = false))) →
      (∃ t : State, exec (.flowstoneCommit .good) s = .next t ∧ tblGet (fun _ => .blank) t.fls.main i = .rcd x ∧
        (∀ j : Nat, j ≠ i → tblGet (fun _ => .blank) t.fls.main j = tblGet (fun _ => .blank) s.fls.main j) ∧
        t.fls.tal = s.fls.tal ∧ t.fls.stage = l ∧ t.fls.mirror = (x :: s.fls.mirror).take 64 ∧ t.fls.lastSeq = s.fls.cnt.nextSeq ∧
        t.fls.cnt = { s.fls.cnt with nextSeq := s.fls.cnt.nextSeq + 1, nret := s.fls.retired.length } ∧
        (if s.fls.cntNext then t.fls.cntB else t.fls.cntA) = some t.fls.cnt ∧ t = { s with fls := t.fls }) ∧
      (∀ k : Nat, s.spillSlot r.sev = some k → ∃ t : State, exec (.flowstoneCommit .slotFails) s = .next t ∧
        t.fls.retired = s.fls.retired ++ [i / 32] ∧ t.fls.mapA = some t.fls.retired ∧ t.fls.mapB = some t.fls.retired ∧
        tblGet (fun _ => .blank) t.fls.tal k = .rcd x ∧ t.fls.cnt.nextSeq = s.fls.cnt.nextSeq + 1 ∧
        t.get R.FLS_STAT.RETCNT = min 255 t.fls.retired.length ∧ s.onlyFields t (R.FLS_STAT.RETCNT :: evFields) ∧ s.onlyRegsFlsDiffer t) ∧
      (∃ t : State, exec (.flowstoneCommit .mapFails) s = .next t ∧ t.bit R.FLS_STAT.DEGRADED = true ∧
        s.onlyFields t (R.FLS_STAT.DEGRADED :: evFields) ∧ s.onlyRegsFlsDiffer t) ∧
      (∀ k : Nat, s.spillSlot r.sev = some k → ∃ t : State, exec (.flowstoneCommit .spillFails) s = .next t ∧
        t.bit R.FLS_STAT.DEGRADED = true ∧ tblGet (fun _ => .blank) t.fls.tal k = .bad ∧
        s.onlyFields t ([R.FLS_STAT.DEGRADED, R.FLS_STAT.RETCNT] ++ evFields) ∧ s.onlyRegsFlsDiffer t)) ∧
    ((∀ j : Nat, j < 7168 → s.blockRetired j = true ∨ slotEmpty s.fls.cnt.clrSeq (tblGet (fun _ => .blank) s.fls.main j) = false) →
      (∀ (j : Nat) (z : FRec), (j, .rcd z) ∈ s.fls.main → s.blockRetired j = true ∨ r.sev < z.sev) →
      ∀ m : MediaOutcome, ∃ t : State, exec (.flowstoneCommit m) s = .next t ∧ t.bit R.FLS_STAT.DROPNE = true ∧
        t.get R.FLS_CNT.DROPNE = min 0xFFFF (s.get R.FLS_CNT.DROPNE + 1) ∧
        t.fls = { s.fls with stage := l, cnt := { s.fls.cnt with dropNe := min 0xFFFFFFFF (s.fls.cnt.dropNe + 1) } } ∧
        s.onlyFields t [R.FLS_STAT.DROPNE, R.FLS_CNT.DROPNE] ∧ s.onlyRegsFlsDiffer t)) ∧
  (∀ (r : FRec) (l : List FRec) (m : MediaOutcome) (s : State), s.commitReady = true → s.fls.stage = r :: l →
    s.bit R.FLS_STAT.DEGRADED = true → s.fls.mirror.length < 64 → ∃ t : State, exec (.flowstoneCommit m) s = .next t ∧
      t.fls = { s.fls with stage := l, lastSeq := s.fls.cnt.nextSeq, cnt := { s.fls.cnt with nextSeq := s.fls.cnt.nextSeq + 1 }, mirror := { r with pl := false, seq := s.fls.cnt.nextSeq } :: s.fls.mirror } ∧
      t = { s with fls := t.fls }) ∧
  (∀ s : State, (s.fls.scanPend = false ∨ s.pwr.vauxGood = false) → exec .flowstoneScanDone s = .next s) ∧
  (∀ s : State, s.fls.scanPend = true → s.pwr.vauxGood = true → ∃ t : State, exec .flowstoneScanDone s = .next t ∧
    t.bit R.FLS_STAT.READY = true ∧
    (t.bit R.FLS_STAT.DEGRADED = true ↔ (s.fls.mapA = none ∧ s.fls.mapB = none) ∨ (s.fls.cntA = none ∧ s.fls.cntB = none)) ∧
    (t.bit R.FLS_STAT.BADCRC = true ↔ s.bit R.FLS_STAT.BADCRC = true ∨ s.anyBad = true) ∧
    (∀ c : Counters, newestCopy s.fls.cntA s.fls.cntB = some c → t.fls.cnt.clrSeq = c.clrSeq ∧
      (∀ q : BitVec 32, s.newestFound = some q → t.fls.cnt.nextSeq = seqMax c.nextSeq (q + 1)) ∧
      (s.newestFound = none → t.fls.cnt.nextSeq = c.nextSeq)) ∧
    (s.fls.cntA = none → s.fls.cntB = none → t.fls.cnt.clrSeq = 0 ∧
      (∀ q : BitVec 32, s.newestFound = some q → t.fls.cnt.nextSeq = q + 1) ∧ (s.newestFound = none → t.fls.cnt.nextSeq = 1)) ∧
    t.fls.scanPend = false ∧ t.fls.main = s.fls.main ∧ t.fls.tal = s.fls.tal ∧ t.fls.mirror = s.fls.mirror ∧
    s.onlyFields t ([R.FLS_STAT.READY, R.FLS_STAT.DEGRADED, R.FLS_STAT.BADCRC, R.FLS_STAT.RETCNT] ++ evFields) ∧ s.onlyRegsFlsDiffer t) ∧
  (∀ (b : Bool) (s : State), s.coreRuns = true →
    ((s.sys.mode = .service ∨ s.sys.mode = .hold) → ∃ t : State, exec (.flsClear b) s = .next t ∧
      t.bit R.FLS_STAT.CLRPEND = true ∧ (s.bit R.FLS_STAT.CLRPEND = false → t.fls.clrTester = b) ∧
      s.onlyFields t [R.FLS_STAT.CLRPEND] ∧ t = { s with regs := t.regs, fls := { s.fls with clrTester := t.fls.clrTester } }) ∧
    (s.sys.mode ≠ .service → s.sys.mode ≠ .hold → ∃ t : State, exec (.flsClear b) s = .next t ∧
      t.bit R.FLS_STAT.CLRREJ = true ∧ s.onlyFields t [R.FLS_STAT.CLRREJ] ∧ s.onlyRegsDiffer t)) ∧
  (∀ s : State, (s.bit R.FLS_STAT.CLRPEND = false ∨ s.commitReady = false) → exec .clearTakesEffect s = .next s) ∧
  (∀ (c : BitVec 32) (s : State), s.bit R.FLS_STAT.CLRPEND = true → s.commitReady = true → c = s.fls.cnt.nextSeq - 1 →
    ∃ t : State, exec .clearTakesEffect s = .next t ∧ t.bit R.FLS_STAT.CLRPEND = false ∧ t.fls.cnt.clrSeq = c ∧
      t.fls.stage = s.fls.stage ∧ t.fls.retired = s.fls.retired ∧
      (∀ (i : Nat) (r : FRec), tblGet (fun _ => .blank) t.fls.main i = .rcd r → seqLe r.seq c = false) ∧
      (∀ (i : Nat) (r : FRec), 64 ≤ i → tblGet (fun _ => .blank) t.fls.tal i = .rcd r → seqLe r.seq c = false) ∧
      (∀ i : Nat, i < 64 → tblGet (fun _ => .blank) t.fls.tal i = tblGet (fun _ => .blank) s.fls.tal i) ∧
      ((s.evtEntry 0x0B61).any (fun e => e.dis) = true → t.fls.mirror = [] ∧ t.fls.cnt.nextSeq = s.fls.cnt.nextSeq) ∧
      ((s.evtEntry 0x0B61).any (fun e => e.dis) = false →
        (s.bit R.FLS_STAT.DEGRADED = true ∨ ∃ i : Nat, i < 7168 ∧ s.blockRetired i = false ∧ tblGet (fun _ => .blank) s.fls.main i = .blank) →
        t.fls.mirror = [{ s.clearRec c with seq := s.fls.cnt.nextSeq }] ∧ t.fls.cnt.nextSeq = s.fls.cnt.nextSeq + 1) ∧
      (s.dsu.pend = none → t.dsu = s.dsu) ∧
      (∀ q : ReqKind, s.dsu.pend = some { sid := 0x14, kind := q } → t.replies q [0x54]) ∧
      (∀ q : ReqKind, s.dsu.pend = some { sid := 0x31, kind := q } → t.repliesSub q [0x71, 0x01, 0xFE, 0x03]) ∧
      s.onlyFields t [R.FLS_STAT.CLRPEND, R.FLS_STAT.DROPNE, R.FLS_CNT.DROPNE] ∧
      t = { s with regs := t.regs, fls := t.fls, dsu := t.dsu }) ∧
  (∀ (w : Word) (s : State), s.coreRuns = true →
    (fldOf w R.FLS_CURSOR.SLOT < areaSlots (fldOf w R.FLS_CURSOR.AREA) → ∃ t : State, exec (.flsCursorWrite w) s = .next t ∧
      t.get R.FLS_CURSOR.AREA = fldOf w R.FLS_CURSOR.AREA ∧ t.get R.FLS_CURSOR.SLOT = fldOf w R.FLS_CURSOR.SLOT ∧
      t.get R.FLS_CURSOR.AINC = fldOf w R.FLS_CURSOR.AINC ∧ t.bit R.FLS_CURSOR.RDY = false ∧
      s.onlyFields t [R.FLS_CURSOR.AREA, R.FLS_CURSOR.SLOT, R.FLS_CURSOR.AINC, R.FLS_CURSOR.RDY] ∧
      t = { s with regs := t.regs, fls := { s.fls with copyPend := true } }) ∧
    (areaSlots (fldOf w R.FLS_CURSOR.AREA) ≤ fldOf w R.FLS_CURSOR.SLOT → ∃ t : State, exec (.flsCursorWrite w) s = .next t ∧
      t.get R.FLS_CURSOR.SLOT < areaSlots (t.get R.FLS_CURSOR.AREA) ∧ t.get R.FLS_CURSOR.AINC = fldOf w R.FLS_CURSOR.AINC ∧
      t.bit R.FLS_CURSOR.RDY = false ∧
      s.onlyFields t [R.FLS_CURSOR.AREA, R.FLS_CURSOR.SLOT, R.FLS_CURSOR.AINC, R.FLS_CURSOR.RDY] ∧
      t = { s with regs := t.regs, fls := { s.fls with copyPend := true }, freeCtr := s.freeCtr + 1 })) ∧
  (∀ (w : Word) (b : Bool) (s : State), s.coreRuns = false →
    exec (.flsCursorWrite w) s = .next s ∧ exec .flsData7Read s = .next s ∧ exec (.flsClear b) s = .next s) ∧
  (∀ (p : Nat × Option (List Byte)) (s : State), s.coreRuns = true → s.fls.copyPend = true →
    p = s.areaRead (s.get R.FLS_CURSOR.AREA) (s.get R.FLS_CURSOR.SLOT) →
    ∃ t : State, exec .flsCopyDone s = .next t ∧ t.bit R.FLS_CURSOR.RDY = true ∧ t.get R.FLS_CURSOR.STATE = p.1 ∧
      t.fls = { s.fls with copyPend := false } ∧
      (∀ (l : List Byte) (i : Nat), p.2 = some l → i < 8 → t.get (R.FLS_DATA.V i) = leVal ((l.drop (4 * i)).take 4)) ∧
      s.onlyFields t ([R.FLS_CURSOR.RDY, R.FLS_CURSOR.STATE] ++ (List.range 8).map R.FLS_DATA.V) ∧
      t = { s with regs := t.regs, fls := t.fls, freeCtr := t.freeCtr }) ∧
  (∀ (i : Nat) (r : FRec) (s : State), s.blockRetired i = false → tblGet (fun _ => .blank) s.fls.main i = .rcd r →
    s.areaRead 0 i = (if seqLe r.seq s.fls.cnt.clrSeq = true then (1, some []) else (0, some (recBytes r))) ∧
    ((recBytes r).length = 32 ∧ (recBytes r).drop 30 = le 2 (crc16 ((recBytes r).take 30)))) ∧
  (∀ s : State, (s.fls.copyPend = false ∨ s.coreRuns = false) → exec .flsCopyDone s = .next s) ∧
  (∀ s : State, s.coreRuns = true →
    (s.bit R.FLS_CURSOR.AINC = true → ∃ t : State, exec .flsData7Read s = .next t ∧
      t.get R.FLS_CURSOR.SLOT = (if areaSlots (s.get R.FLS_CURSOR.AREA) ≤ s.get R.FLS_CURSOR.SLOT + 1 then 0 else s.get R.FLS_CURSOR.SLOT + 1) ∧
      t.bit R.FLS_CURSOR.RDY = false ∧ s.onlyFields t [R.FLS_CURSOR.SLOT, R.FLS_CURSOR.RDY] ∧
      t = { s with regs := t.regs, fls := { s.fls with copyPend := true } }) ∧
    (s.bit R.FLS_CURSOR.AINC = false → exec .flsData7Read s = .next s))

/-- Every step ends in a next state; it keeps memory canonical, the loader out of IMG, the session legal, and leaves the fuses (00_scope.md R8; 12_image_and_start.md R268; 16_service_and_vehicle_bus.md R354; 16_service_and_vehicle_bus.md R370; 01_signal_to_speaker.md R24). -/
def Obligations.EveryStepKeepsTheInvariant : Prop :=
  (∀ s : State, ∃ t : State, step s = .next t) ∧
  (∀ s t : State, s.inv → step s = .next t → t.inv ∧ t.fuse = s.fuse ∧ t.pending = s.pending.tail)

/-- The state after reset satisfies the invariant: canonical memory, nothing written by records, the default session, an empty queue (12_image_and_start.md R268; 16_service_and_vehicle_bus.md R354; 16_service_and_vehicle_bus.md R370). -/
def Obligations.ResetSatisfiesTheInvariant : Prop :=
  State.reset.inv ∧ State.reset.mem = [] ∧ State.reset.get R.DSU_STAT.SESS = 1 ∧ State.reset.pending = []
end

