-- ==== Sys2Proof/Laws/Tbl.lean ====
section
/-! SUPPORT. Reading a sparse table after writing it, and its canonical form under every operation. No law needs the table to be canonical. -/

namespace Sys2Proof.Machine

variable {α : Type}

theorem tblGet_tblErase_same (dflt : Nat → α) (t : Tbl α) (k : Nat) : tblGet dflt (tblErase t k) k = dflt k := by
  induction t with
  | nil => rfl
  | cons e t ih =>
    obtain ⟨a, v⟩ := e
    by_cases h : a = k <;> simp [tblErase, tblGet, h, ih]

theorem tblGet_tblErase_other (dflt : Nat → α) (t : Tbl α) {k j : Nat} (h : j ≠ k) :
    tblGet dflt (tblErase t k) j = tblGet dflt t j := by
  induction t with
  | nil => rfl
  | cons e t ih =>
    obtain ⟨a, v⟩ := e
    by_cases ha : a = k
    · have hj : ¬ a = j := fun hj => h (hj ▸ ha)
      simp [tblErase, tblGet, ha, ih, Ne.symm h]
    · simp [tblErase, tblGet, ha, ih]

theorem tblGet_tblPut_same (dflt : Nat → α) (t : Tbl α) (k : Nat) (x : α) : tblGet dflt (tblPut t k x) k = x := by
  induction t with
  | nil => simp [tblPut, tblGet]
  | cons e t ih =>
    obtain ⟨a, v⟩ := e
    by_cases ha : a = k
    · simp [tblPut, tblGet, ha]
    · by_cases hk : k < a <;> simp [tblPut, tblGet, ha, hk, ih]

theorem tblGet_tblPut_other (dflt : Nat → α) (t : Tbl α) {k j : Nat} (x : α) (h : j ≠ k) :
    tblGet dflt (tblPut t k x) j = tblGet dflt t j := by
  induction t with
  | nil => simp [tblPut, tblGet, Ne.symm h]
  | cons e t ih =>
    obtain ⟨a, v⟩ := e
    by_cases ha : a = k
    · simp [tblPut, tblGet, ha, Ne.symm h]
    · by_cases hk : k < a <;> simp [tblPut, tblGet, ha, hk, ih, Ne.symm h]

/-- A read of the key that was written. -/
@[simp] theorem tblGet_tblSet_same [DecidableEq α] (dflt : Nat → α) (t : Tbl α) (k : Nat) (x : α) :
    tblGet dflt (tblSet dflt t k x) k = x := by
  unfold tblSet
  split
  · rename_i h; rw [h, tblGet_tblErase_same]
  · exact tblGet_tblPut_same dflt t k x

/-- A read of another key. -/
theorem tblGet_tblSet_other [DecidableEq α] (dflt : Nat → α) (t : Tbl α) {k j : Nat} (x : α) (h : j ≠ k) :
    tblGet dflt (tblSet dflt t k x) j = tblGet dflt t j := by
  unfold tblSet
  split
  · exact tblGet_tblErase_other dflt t h
  · exact tblGet_tblPut_other dflt t x h

/-- A read after a write, in one equation. -/
theorem tblGet_tblSet [DecidableEq α] (dflt : Nat → α) (t : Tbl α) (k j : Nat) (x : α) :
    tblGet dflt (tblSet dflt t k x) j = if j = k then x else tblGet dflt t j := by
  split
  · rename_i h; rw [h, tblGet_tblSet_same]
  · rename_i h; exact tblGet_tblSet_other dflt t x h

@[simp] theorem tblGet_tblMod_same [DecidableEq α] (dflt : Nat → α) (t : Tbl α) (k : Nat) (f : α → α) :
    tblGet dflt (tblMod dflt t k f) k = f (tblGet dflt t k) := tblGet_tblSet_same dflt t k _

theorem tblGet_tblMod_other [DecidableEq α] (dflt : Nat → α) (t : Tbl α) {k j : Nat} (f : α → α) (h : j ≠ k) :
    tblGet dflt (tblMod dflt t k f) j = tblGet dflt t j := tblGet_tblSet_other dflt t _ h

/-! ### The canonical form -/

theorem tblAbove_weaken {b c : Nat} (hbc : c ≤ b) (t : Tbl α) (h : tblAbove b t = true) : tblAbove c t = true := by
  induction t with
  | nil => rfl
  | cons e t ih =>
    obtain ⟨a, v⟩ := e
    simp only [tblAbove, Bool.and_eq_true, decide_eq_true_eq] at h ⊢
    exact ⟨by omega, ih h.2⟩

theorem tblAbove_tblErase {b : Nat} (t : Tbl α) (k : Nat) (h : tblAbove b t = true) : tblAbove b (tblErase t k) = true := by
  induction t with
  | nil => rfl
  | cons e t ih =>
    obtain ⟨a, v⟩ := e
    simp only [tblAbove, Bool.and_eq_true, decide_eq_true_eq] at h
    by_cases ha : a = k
    · simpa [tblErase, ha] using ih h.2
    · simp [tblErase, ha, tblAbove, h.1, ih h.2]

theorem tblAbove_tblPut {b : Nat} (t : Tbl α) (k : Nat) (x : α) (hb : b < k) (h : tblAbove b t = true) :
    tblAbove b (tblPut t k x) = true := by
  induction t with
  | nil => simp [tblPut, tblAbove, hb]
  | cons e t ih =>
    obtain ⟨a, v⟩ := e
    have h' := h
    simp only [tblAbove, Bool.and_eq_true, decide_eq_true_eq] at h
    by_cases ha : a = k
    · simp [tblPut, ha, tblAbove, hb, h.2]
    · by_cases hk : k < a
      · simp [tblPut, ha, hk, tblAbove, hb, h.1, h.2]
      · simp [tblPut, ha, hk, tblAbove, h.1, ih h.2]

theorem tblWf_tblErase [DecidableEq α] (dflt : Nat → α) (t : Tbl α) (k : Nat) (h : tblWf dflt t = true) :
    tblWf dflt (tblErase t k) = true := by
  induction t with
  | nil => rfl
  | cons e t ih =>
    obtain ⟨a, v⟩ := e
    simp only [tblWf, Bool.and_eq_true, decide_eq_true_eq] at h
    by_cases ha : a = k
    · simpa [tblErase, ha] using ih h.2
    · simp only [tblErase, ha, if_false, tblWf, Bool.and_eq_true, decide_eq_true_eq]
      exact ⟨⟨tblAbove_tblErase t k h.1.1, h.1.2⟩, ih h.2⟩

theorem tblWf_tblPut [DecidableEq α] (dflt : Nat → α) (t : Tbl α) (k : Nat) (x : α) (hx : x ≠ dflt k)
    (h : tblWf dflt t = true) : tblWf dflt (tblPut t k x) = true := by
  induction t with
  | nil => simp [tblPut, tblWf, tblAbove, hx]
  | cons e t ih =>
    obtain ⟨a, v⟩ := e
    simp only [tblWf, Bool.and_eq_true, decide_eq_true_eq] at h
    by_cases ha : a = k
    · subst ha
      simp [tblPut, tblWf, h.1.1, hx, h.2]
    · by_cases hk : k < a
      · simp [tblPut, ha, hk, tblWf, tblAbove, h.1.1, h.1.2, h.2, hx, tblAbove_weaken (Nat.le_of_lt hk) t h.1.1]
      · have hak : a < k := by omega
        simp [tblPut, ha, hk, tblWf, h.1.2, ih h.2, tblAbove_tblPut t k x hak h.1.1]

/-- A write keeps the canonical form. -/
theorem tblWf_tblSet [DecidableEq α] (dflt : Nat → α) (t : Tbl α) (k : Nat) (x : α) (h : tblWf dflt t = true) :
    tblWf dflt (tblSet dflt t k x) = true := by
  unfold tblSet
  split
  · exact tblWf_tblErase dflt t k h
  · rename_i hx; exact tblWf_tblPut dflt t k x hx h

theorem tblAbove_filter {b : Nat} (t : Tbl α) (p : Nat × α → Bool) (h : tblAbove b t = true) :
    tblAbove b (List.filter p t) = true := by
  induction t with
  | nil => rfl
  | cons e t ih =>
    obtain ⟨a, v⟩ := e
    simp only [tblAbove, Bool.and_eq_true, decide_eq_true_eq] at h
    by_cases hp : p (a, v) = true
    · simp [hp, tblAbove, h.1, ih h.2]
    · simpa [hp] using ih h.2

/-- Entries struck out by a test keep the canonical form. -/
theorem tblWf_filter [DecidableEq α] (dflt : Nat → α) (t : Tbl α) (p : Nat × α → Bool) (h : tblWf dflt t = true) :
    tblWf dflt (List.filter p t) = true := by
  induction t with
  | nil => rfl
  | cons e t ih =>
    obtain ⟨a, v⟩ := e
    simp only [tblWf, Bool.and_eq_true, decide_eq_true_eq] at h
    by_cases hp : p (a, v) = true
    · simp [hp, tblWf, tblAbove_filter t p h.1.1, h.1.2, ih h.2]
    · simpa [hp] using ih h.2

end Sys2Proof.Machine
end

