-- ==== Sys2Proof/Laws/Reg.lean ====
section
/-! SUPPORT. Reading registers, fields, table entries and memory after writing them. -/

namespace Sys2Proof.Machine

/-! ### Registers -/

@[simp] theorem State.reg_setReg_same (s : State) (a : Nat) (w : Word) : (s.setReg a w).reg a = w := by
  simp [State.reg, State.setReg]

theorem State.reg_setReg_other (s : State) {a b : Nat} (w : Word) (h : b ≠ a) : (s.setReg a w).reg b = s.reg b := by
  simp [State.reg, State.setReg, tblGet_tblSet_other, h]

theorem State.reg_setReg (s : State) (a b : Nat) (w : Word) : (s.setReg a w).reg b = if b = a then w else s.reg b := by
  split
  · rename_i h; rw [h, State.reg_setReg_same]
  · rename_i h; exact State.reg_setReg_other s w h

/-- Another register after a field was written. -/
theorem State.reg_set_other (s : State) (f : Fld) (v : Nat) {b : Nat} (h : b ≠ f.addr) : (s.set f v).reg b = s.reg b :=
  State.reg_setReg_other s _ h

@[simp] theorem State.reg_set_same (s : State) (f : Fld) (v : Nat) : (s.set f v).reg f.addr = fldPut (s.reg f.addr) f v :=
  State.reg_setReg_same s _ _

/-! ### Bits of a field -/

theorem testBit_setBits (v i n x j : Nat) :
    (setBits v i n x).testBit j = if i ≤ j ∧ j < i + n then x.testBit (j - i) else v.testBit j := by
  have hv : v = v % 2 ^ i + 2 ^ i * (v / 2 ^ i % 2 ^ n) + 2 ^ (i + n) * (v / 2 ^ (i + n)) := by
    have h1 := Nat.mod_add_div v (2 ^ i)
    have h2 := Nat.mod_add_div (v / 2 ^ i) (2 ^ n)
    rw [Nat.div_div_eq_div_mul, ← Nat.pow_add] at h2
    calc v = v % 2 ^ i + 2 ^ i * (v / 2 ^ i) := h1.symm
      _ = v % 2 ^ i + 2 ^ i * (v / 2 ^ i % 2 ^ n + 2 ^ n * (v / 2 ^ (i + n))) := by rw [h2]
      _ = _ := by rw [Nat.mul_add, ← Nat.mul_assoc, ← Nat.pow_add, Nat.add_assoc]
  have hs : setBits v i n x = 2 ^ i * (2 ^ n * (v / 2 ^ (i + n)) + x % 2 ^ n) + v % 2 ^ i := by
    have e1 : setBits v i n x = v % 2 ^ i + 2 ^ (i + n) * (v / 2 ^ (i + n)) + x % 2 ^ n * 2 ^ i := by
      unfold setBits bitsAt
      have : v - v / 2 ^ i % 2 ^ n * 2 ^ i = v % 2 ^ i + 2 ^ (i + n) * (v / 2 ^ (i + n)) := by
        rw [Nat.mul_comm (v / 2 ^ i % 2 ^ n) (2 ^ i)]
        omega
      rw [this]
    rw [e1, Nat.mul_add, ← Nat.mul_assoc, ← Nat.pow_add, Nat.mul_comm (x % 2 ^ n) (2 ^ i)]
    omega
  rw [hs, Nat.testBit_two_pow_mul_add _ (Nat.mod_lt _ (Nat.two_pow_pos i))]
  by_cases h1 : j < i
  · have hno : ¬ (i ≤ j ∧ j < i + n) := by omega
    simp [h1, hno, Nat.testBit_mod_two_pow]
  · rw [Nat.testBit_two_pow_mul_add _ (Nat.mod_lt _ (Nat.two_pow_pos n))]
    by_cases h2 : j - i < n
    · have hyes : i ≤ j ∧ j < i + n := by omega
      simp [h1, h2, hyes, Nat.testBit_mod_two_pow]
    · have hno : ¬ (i ≤ j ∧ j < i + n) := by omega
      have e : j - i - n = j - (i + n) := by omega
      have e2 : i + n + (j - (i + n)) = j := by omega
      simp [h1, h2, hno, e, Nat.testBit_div_two_pow, e2, Nat.add_comm]

theorem testBit_bitsAt (v i n j : Nat) : (bitsAt v i n).testBit j = (decide (j < n) && v.testBit (i + j)) := by
  simp [bitsAt, Nat.testBit_mod_two_pow, Nat.testBit_div_two_pow, Nat.add_comm]

/-- Bit i of a word after a field was put into it. -/
theorem getLsbD_fldPut (w : Word) (f : Fld) (v i : Nat) (hi : i < 32) :
    (fldPut w f v).getLsbD i = if f.lo ≤ i ∧ i < f.lo + (f.hi + 1 - f.lo) then v.testBit (i - f.lo) else w.getLsbD i := by
  simp only [fldPut, BitVec.getLsbD_ofNat, hi, decide_true, Bool.true_and, testBit_setBits]
  split
  · rfl
  · rw [BitVec.testBit_toNat]

/-- A field read after it was written. -/
theorem fldOf_fldPut_same (w : Word) (f : Fld) (v : Nat) (h : f.hi < 32) :
    fldOf (fldPut w f v) f = v % 2 ^ (f.hi + 1 - f.lo) := by
  apply Nat.eq_of_testBit_eq
  intro j
  rw [fldOf, testBit_bitsAt, Nat.testBit_mod_two_pow]
  by_cases hj : j < f.hi + 1 - f.lo
  · rw [BitVec.testBit_toNat, getLsbD_fldPut _ _ _ _ (by omega)]
    simp [hj]
  · simp [hj]

/-- Another field of the same register after a field was written. -/
theorem fldOf_fldPut_other (w : Word) (f g : Fld) (v : Nat) (hg : g.hi < 32) (hd : g.hi < f.lo ∨ f.hi < g.lo) :
    fldOf (fldPut w f v) g = fldOf w g := by
  apply Nat.eq_of_testBit_eq
  intro j
  simp only [fldOf, testBit_bitsAt]
  by_cases hj : j < g.hi + 1 - g.lo
  · rw [BitVec.testBit_toNat, getLsbD_fldPut _ _ _ _ (by omega), BitVec.testBit_toNat, if_neg (by omega)]
  · simp [hj]

/-- A field after it was written. -/
theorem State.get_set_same (s : State) (f : Fld) (v : Nat) (h : f.hi < 32) :
    (s.set f v).get f = v % 2 ^ (f.hi + 1 - f.lo) := by
  rw [State.get, State.reg_set_same, fldOf_fldPut_same _ _ _ h]

/-- A field of another register after a field was written. -/
theorem State.get_set_reg (s : State) (f g : Fld) (v : Nat) (h : g.addr ≠ f.addr) : (s.set f v).get g = s.get g := by
  rw [State.get, State.reg_set_other s f v h, State.get]

/-- A disjoint field after a field was written. -/
theorem State.get_set_other (s : State) (f g : Fld) (v : Nat) (hg : g.hi < 32)
    (hd : g.addr ≠ f.addr ∨ g.hi < f.lo ∨ f.hi < g.lo) : (s.set f v).get g = s.get g := by
  by_cases ha : g.addr = f.addr
  · have hd' : g.hi < f.lo ∨ f.hi < g.lo := by
      rcases hd with h | h
      · exact absurd ha h
      · exact h
    rw [State.get, ha, State.reg_set_same, fldOf_fldPut_other _ _ _ _ hg hd', State.get, ha]
  · exact State.get_set_reg s f g v ha

theorem State.bit_setB_same (s : State) (f : Fld) (b : Bool) (h : f.hi < 32) (h1 : f.lo ≤ f.hi) : (s.setB f b).bit f = b := by
  have hp : 1 < 2 ^ (f.hi + 1 - f.lo) := Nat.one_lt_two_pow (by omega)
  rw [State.bit, State.setB, State.get_set_same _ _ _ h]
  cases b
  · simp [b2n]
  · simp [b2n, Nat.mod_eq_of_lt hp]

theorem State.bit_setB_other (s : State) (f g : Fld) (b : Bool) (hg : g.hi < 32)
    (hd : g.addr ≠ f.addr ∨ g.hi < f.lo ∨ f.hi < g.lo) : (s.setB f b).bit g = s.bit g := by
  rw [State.bit, State.setB, State.get_set_other _ _ _ _ hg hd, State.bit]

/-! ### Tables -/

@[simp] theorem State.dom_modDom_same (s : State) (d : Nat) (f : Dom → Dom) : (s.modDom d f).dom d = f (s.dom d) := by
  simp [State.dom, State.modDom]

theorem State.dom_modDom_other (s : State) {d k : Nat} (f : Dom → Dom) (h : k ≠ d) : (s.modDom d f).dom k = s.dom k := by
  simp [State.dom, State.modDom, tblGet_tblMod_other, h]

@[simp] theorem State.loop_modLoop_same (s : State) (l : Nat) (f : Loop → Loop) : (s.modLoop l f).loop l = f (s.loop l) := by
  simp [State.loop, State.modLoop]

theorem State.loop_modLoop_other (s : State) {l k : Nat} (f : Loop → Loop) (h : k ≠ l) : (s.modLoop l f).loop k = s.loop k := by
  simp [State.loop, State.modLoop, tblGet_tblMod_other, h]

@[simp] theorem State.prf_modPrf_same (s : State) (d : Nat) (f : Prf → Prf) : (s.modPrf d f).prf d = f (s.prf d) := by
  simp [State.prf, State.modPrf]

theorem State.prf_modPrf_other (s : State) {d k : Nat} (f : Prf → Prf) (h : k ≠ d) : (s.modPrf d f).prf k = s.prf k := by
  simp [State.prf, State.modPrf, tblGet_tblMod_other, h]

@[simp] theorem State.lane_modLane_same (s : State) (c : Nat) (f : Lane → Lane) : (s.modLane c f).lane c = f (s.lane c) := by
  simp [State.lane, State.modLane]

theorem State.coef_setCoef_same (s : State) (l : Nat) (b : Bool) (i : Nat) (c : Coef) : (s.setCoef l b i c).coef l b i = c := by
  simp [State.coef, State.setCoef]

/-! ### Memory -/

@[simp] theorem State.rd8_wr8_same (s : State) (a : Nat) (b : Byte) : (s.wr8 a b).rd8 a = b := by simp [State.rd8, State.wr8]

theorem State.rd8_wr8_other (s : State) {a k : Nat} (b : Byte) (h : k ≠ a) : (s.wr8 a b).rd8 k = s.rd8 k := by
  simp [State.rd8, State.wr8, tblGet_tblSet_other, h]

/-- A byte outside a run of bytes written. -/
theorem State.rd8_wrBytes_other (l : List Byte) (s : State) (a k : Nat) (h : k < a ∨ a + l.length ≤ k) :
    (s.wrBytes a l).rd8 k = s.rd8 k := by
  induction l generalizing s a with
  | nil => rfl
  | cons b t ih =>
    simp only [List.length_cons] at h
    rw [State.wrBytes, ih _ _ (by omega), State.rd8_wr8_other _ _ (by omega)]

theorem State.wf_wr8 (s : State) (a : Nat) (b : Byte) (h : Memory.wf s.mem = true) : Memory.wf (s.wr8 a b).mem = true :=
  tblWf_tblSet memDflt s.mem a b h

/-- Every memory operation keeps the canonical form. -/
theorem State.wf_wrBytes (l : List Byte) (s : State) (a : Nat) (h : Memory.wf s.mem = true) :
    Memory.wf (s.wrBytes a l).mem = true := by
  induction l generalizing s a with
  | nil => exact h
  | cons b t ih => exact ih _ _ (State.wf_wr8 s a b h)

theorem State.wf_wr32 (s : State) (a v : Nat) (h : Memory.wf s.mem = true) : Memory.wf (s.wr32 a v).mem = true :=
  State.wf_wrBytes _ s a h

theorem State.wf_wr64 (s : State) (a v : Nat) (h : Memory.wf s.mem = true) : Memory.wf (s.wr64 a v).mem = true :=
  State.wf_wrBytes _ s a h

/-- The bytes of a run that was written. -/
theorem State.rdBytes_congr (n : Nat) (s t : State) (a : Nat) (h : ∀ k, a ≤ k → k < a + n → t.rd8 k = s.rd8 k) :
    t.rdBytes a n = s.rdBytes a n := by
  induction n generalizing a with
  | zero => rfl
  | succ n ih =>
    simp only [State.rdBytes]
    rw [h a (Nat.le_refl a) (by omega), ih (a + 1) fun k h1 h2 => h k (by omega) (by omega)]

theorem State.rdBytes_wrBytes_same (l : List Byte) (s : State) (a : Nat) : (s.wrBytes a l).rdBytes a l.length = l := by
  induction l generalizing s a with
  | nil => rfl
  | cons b t ih =>
    simp only [List.length_cons, State.rdBytes, State.wrBytes]
    rw [ih, State.rd8_wrBytes_other t _ _ _ (by omega), State.rd8_wr8_same]

@[simp] theorem length_le (n v : Nat) : (le n v).length = n := by
  induction n generalizing v with
  | zero => rfl
  | succ n ih => simp [le, ih]

theorem leVal_le (n v : Nat) : leVal (le n v) = v % 256 ^ n := by
  induction n generalizing v with
  | zero => simp [le, leVal, Nat.mod_one]
  | succ n ih =>
    have e : v % 256 ^ (n + 1) = v % 256 + 256 * (v / 256 % 256 ^ n) := by
      rw [Nat.pow_add, Nat.pow_one, Nat.mul_comm (256 ^ n) 256, Nat.mod_mul]
    have e8 : (BitVec.ofNat 8 v).toNat = v % 256 := BitVec.toNat_ofNat v 8
    rw [le, leVal, ih, e8, e]

/-- A word read where it was written. -/
theorem State.rd32_wr32_same (s : State) (a v : Nat) : (s.wr32 a v).rd32 a = v % 2 ^ 32 := by
  have h := State.rdBytes_wrBytes_same (le 4 v) s a
  rw [length_le] at h
  rw [State.rd32, State.wr32, h, leVal_le, show (256 : Nat) ^ 4 = 2 ^ 32 by decide]

/-- A word read beside one that was written. -/
theorem State.rd32_wr32_other (s : State) (a b v : Nat) (h : b + 4 ≤ a ∨ a + 4 ≤ b) : (s.wr32 a v).rd32 b = s.rd32 b := by
  unfold State.rd32 State.wr32
  rw [State.rdBytes_congr 4 s]
  intro k h1 h2
  exact State.rd8_wrBytes_other _ s a k (by rw [length_le]; omega)

end Sys2Proof.Machine
end

