-- ==== Sys2Proof/Laws/State.lean ====
section
/-! SUPPORT. The fields of State under its updates: what an update leaves, and what it writes, each true by rfl. -/

namespace Sys2Proof.Machine

variable (s : State)

/-! ### setReg -/

@[simp] theorem State.setReg_fuse (a : Nat) (w : Word) : (s.setReg a w).fuse = s.fuse := rfl
@[simp] theorem State.setReg_mem (a : Nat) (w : Word) : (s.setReg a w).mem = s.mem := rfl
@[simp] theorem State.setReg_tb (a : Nat) (w : Word) : (s.setReg a w).tb = s.tb := rfl
@[simp] theorem State.setReg_sys (a : Nat) (w : Word) : (s.setReg a w).sys = s.sys := rfl
@[simp] theorem State.setReg_pwr (a : Nat) (w : Word) : (s.setReg a w).pwr = s.pwr := rfl
@[simp] theorem State.setReg_doms (a : Nat) (w : Word) : (s.setReg a w).doms = s.doms := rfl
@[simp] theorem State.setReg_loops (a : Nat) (w : Word) : (s.setReg a w).loops = s.loops := rfl
@[simp] theorem State.setReg_coefs (a : Nat) (w : Word) : (s.setReg a w).coefs = s.coefs := rfl
@[simp] theorem State.setReg_prfs (a : Nat) (w : Word) : (s.setReg a w).prfs = s.prfs := rfl
@[simp] theorem State.setReg_lanes (a : Nat) (w : Word) : (s.setReg a w).lanes = s.lanes := rfl
@[simp] theorem State.setReg_phases (a : Nat) (w : Word) : (s.setReg a w).phases = s.phases := rfl
@[simp] theorem State.setReg_quants (a : Nat) (w : Word) : (s.setReg a w).quants = s.quants := rfl
@[simp] theorem State.setReg_balls (a : Nat) (w : Word) : (s.setReg a w).balls = s.balls := rfl
@[simp] theorem State.setReg_mon (a : Nat) (w : Word) : (s.setReg a w).mon = s.mon := rfl
@[simp] theorem State.setReg_fls (a : Nat) (w : Word) : (s.setReg a w).fls = s.fls := rfl
@[simp] theorem State.setReg_eng (a : Nat) (w : Word) : (s.setReg a w).eng = s.eng := rfl
@[simp] theorem State.setReg_ens (a : Nat) (w : Word) : (s.setReg a w).ens = s.ens := rfl
@[simp] theorem State.setReg_img (a : Nat) (w : Word) : (s.setReg a w).img = s.img := rfl
@[simp] theorem State.setReg_adc (a : Nat) (w : Word) : (s.setReg a w).adc = s.adc := rfl
@[simp] theorem State.setReg_thm (a : Nat) (w : Word) : (s.setReg a w).thm = s.thm := rfl
@[simp] theorem State.setReg_net (a : Nat) (w : Word) : (s.setReg a w).net = s.net := rfl
@[simp] theorem State.setReg_tdms (a : Nat) (w : Word) : (s.setReg a w).tdms = s.tdms := rfl
@[simp] theorem State.setReg_dsu (a : Nat) (w : Word) : (s.setReg a w).dsu = s.dsu := rfl
@[simp] theorem State.setReg_freeCtr (a : Nat) (w : Word) : (s.setReg a w).freeCtr = s.freeCtr := rfl
@[simp] theorem State.setReg_pending (a : Nat) (w : Word) : (s.setReg a w).pending = s.pending := rfl

/-! ### set -/

@[simp] theorem State.set_fuse (f : Fld) (v : Nat) : (s.set f v).fuse = s.fuse := rfl
@[simp] theorem State.set_mem (f : Fld) (v : Nat) : (s.set f v).mem = s.mem := rfl
@[simp] theorem State.set_tb (f : Fld) (v : Nat) : (s.set f v).tb = s.tb := rfl
@[simp] theorem State.set_sys (f : Fld) (v : Nat) : (s.set f v).sys = s.sys := rfl
@[simp] theorem State.set_pwr (f : Fld) (v : Nat) : (s.set f v).pwr = s.pwr := rfl
@[simp] theorem State.set_doms (f : Fld) (v : Nat) : (s.set f v).doms = s.doms := rfl
@[simp] theorem State.set_loops (f : Fld) (v : Nat) : (s.set f v).loops = s.loops := rfl
@[simp] theorem State.set_coefs (f : Fld) (v : Nat) : (s.set f v).coefs = s.coefs := rfl
@[simp] theorem State.set_prfs (f : Fld) (v : Nat) : (s.set f v).prfs = s.prfs := rfl
@[simp] theorem State.set_lanes (f : Fld) (v : Nat) : (s.set f v).lanes = s.lanes := rfl
@[simp] theorem State.set_phases (f : Fld) (v : Nat) : (s.set f v).phases = s.phases := rfl
@[simp] theorem State.set_quants (f : Fld) (v : Nat) : (s.set f v).quants = s.quants := rfl
@[simp] theorem State.set_balls (f : Fld) (v : Nat) : (s.set f v).balls = s.balls := rfl
@[simp] theorem State.set_mon (f : Fld) (v : Nat) : (s.set f v).mon = s.mon := rfl
@[simp] theorem State.set_fls (f : Fld) (v : Nat) : (s.set f v).fls = s.fls := rfl
@[simp] theorem State.set_eng (f : Fld) (v : Nat) : (s.set f v).eng = s.eng := rfl
@[simp] theorem State.set_ens (f : Fld) (v : Nat) : (s.set f v).ens = s.ens := rfl
@[simp] theorem State.set_img (f : Fld) (v : Nat) : (s.set f v).img = s.img := rfl
@[simp] theorem State.set_adc (f : Fld) (v : Nat) : (s.set f v).adc = s.adc := rfl
@[simp] theorem State.set_thm (f : Fld) (v : Nat) : (s.set f v).thm = s.thm := rfl
@[simp] theorem State.set_net (f : Fld) (v : Nat) : (s.set f v).net = s.net := rfl
@[simp] theorem State.set_tdms (f : Fld) (v : Nat) : (s.set f v).tdms = s.tdms := rfl
@[simp] theorem State.set_dsu (f : Fld) (v : Nat) : (s.set f v).dsu = s.dsu := rfl
@[simp] theorem State.set_freeCtr (f : Fld) (v : Nat) : (s.set f v).freeCtr = s.freeCtr := rfl
@[simp] theorem State.set_pending (f : Fld) (v : Nat) : (s.set f v).pending = s.pending := rfl

/-! ### setB -/

@[simp] theorem State.setB_fuse (f : Fld) (b : Bool) : (s.setB f b).fuse = s.fuse := rfl
@[simp] theorem State.setB_mem (f : Fld) (b : Bool) : (s.setB f b).mem = s.mem := rfl
@[simp] theorem State.setB_tb (f : Fld) (b : Bool) : (s.setB f b).tb = s.tb := rfl
@[simp] theorem State.setB_sys (f : Fld) (b : Bool) : (s.setB f b).sys = s.sys := rfl
@[simp] theorem State.setB_pwr (f : Fld) (b : Bool) : (s.setB f b).pwr = s.pwr := rfl
@[simp] theorem State.setB_doms (f : Fld) (b : Bool) : (s.setB f b).doms = s.doms := rfl
@[simp] theorem State.setB_loops (f : Fld) (b : Bool) : (s.setB f b).loops = s.loops := rfl
@[simp] theorem State.setB_coefs (f : Fld) (b : Bool) : (s.setB f b).coefs = s.coefs := rfl
@[simp] theorem State.setB_prfs (f : Fld) (b : Bool) : (s.setB f b).prfs = s.prfs := rfl
@[simp] theorem State.setB_lanes (f : Fld) (b : Bool) : (s.setB f b).lanes = s.lanes := rfl
@[simp] theorem State.setB_phases (f : Fld) (b : Bool) : (s.setB f b).phases = s.phases := rfl
@[simp] theorem State.setB_quants (f : Fld) (b : Bool) : (s.setB f b).quants = s.quants := rfl
@[simp] theorem State.setB_balls (f : Fld) (b : Bool) : (s.setB f b).balls = s.balls := rfl
@[simp] theorem State.setB_mon (f : Fld) (b : Bool) : (s.setB f b).mon = s.mon := rfl
@[simp] theorem State.setB_fls (f : Fld) (b : Bool) : (s.setB f b).fls = s.fls := rfl
@[simp] theorem State.setB_eng (f : Fld) (b : Bool) : (s.setB f b).eng = s.eng := rfl
@[simp] theorem State.setB_ens (f : Fld) (b : Bool) : (s.setB f b).ens = s.ens := rfl
@[simp] theorem State.setB_img (f : Fld) (b : Bool) : (s.setB f b).img = s.img := rfl
@[simp] theorem State.setB_adc (f : Fld) (b : Bool) : (s.setB f b).adc = s.adc := rfl
@[simp] theorem State.setB_thm (f : Fld) (b : Bool) : (s.setB f b).thm = s.thm := rfl
@[simp] theorem State.setB_net (f : Fld) (b : Bool) : (s.setB f b).net = s.net := rfl
@[simp] theorem State.setB_tdms (f : Fld) (b : Bool) : (s.setB f b).tdms = s.tdms := rfl
@[simp] theorem State.setB_dsu (f : Fld) (b : Bool) : (s.setB f b).dsu = s.dsu := rfl
@[simp] theorem State.setB_freeCtr (f : Fld) (b : Bool) : (s.setB f b).freeCtr = s.freeCtr := rfl
@[simp] theorem State.setB_pending (f : Fld) (b : Bool) : (s.setB f b).pending = s.pending := rfl

/-! ### setI -/

@[simp] theorem State.setI_fuse (f : Fld) (i : Nat) (b : Bool) : (s.setI f i b).fuse = s.fuse := rfl
@[simp] theorem State.setI_mem (f : Fld) (i : Nat) (b : Bool) : (s.setI f i b).mem = s.mem := rfl
@[simp] theorem State.setI_tb (f : Fld) (i : Nat) (b : Bool) : (s.setI f i b).tb = s.tb := rfl
@[simp] theorem State.setI_sys (f : Fld) (i : Nat) (b : Bool) : (s.setI f i b).sys = s.sys := rfl
@[simp] theorem State.setI_pwr (f : Fld) (i : Nat) (b : Bool) : (s.setI f i b).pwr = s.pwr := rfl
@[simp] theorem State.setI_doms (f : Fld) (i : Nat) (b : Bool) : (s.setI f i b).doms = s.doms := rfl
@[simp] theorem State.setI_loops (f : Fld) (i : Nat) (b : Bool) : (s.setI f i b).loops = s.loops := rfl
@[simp] theorem State.setI_coefs (f : Fld) (i : Nat) (b : Bool) : (s.setI f i b).coefs = s.coefs := rfl
@[simp] theorem State.setI_prfs (f : Fld) (i : Nat) (b : Bool) : (s.setI f i b).prfs = s.prfs := rfl
@[simp] theorem State.setI_lanes (f : Fld) (i : Nat) (b : Bool) : (s.setI f i b).lanes = s.lanes := rfl
@[simp] theorem State.setI_phases (f : Fld) (i : Nat) (b : Bool) : (s.setI f i b).phases = s.phases := rfl
@[simp] theorem State.setI_quants (f : Fld) (i : Nat) (b : Bool) : (s.setI f i b).quants = s.quants := rfl
@[simp] theorem State.setI_balls (f : Fld) (i : Nat) (b : Bool) : (s.setI f i b).balls = s.balls := rfl
@[simp] theorem State.setI_mon (f : Fld) (i : Nat) (b : Bool) : (s.setI f i b).mon = s.mon := rfl
@[simp] theorem State.setI_fls (f : Fld) (i : Nat) (b : Bool) : (s.setI f i b).fls = s.fls := rfl
@[simp] theorem State.setI_eng (f : Fld) (i : Nat) (b : Bool) : (s.setI f i b).eng = s.eng := rfl
@[simp] theorem State.setI_ens (f : Fld) (i : Nat) (b : Bool) : (s.setI f i b).ens = s.ens := rfl
@[simp] theorem State.setI_img (f : Fld) (i : Nat) (b : Bool) : (s.setI f i b).img = s.img := rfl
@[simp] theorem State.setI_adc (f : Fld) (i : Nat) (b : Bool) : (s.setI f i b).adc = s.adc := rfl
@[simp] theorem State.setI_thm (f : Fld) (i : Nat) (b : Bool) : (s.setI f i b).thm = s.thm := rfl
@[simp] theorem State.setI_net (f : Fld) (i : Nat) (b : Bool) : (s.setI f i b).net = s.net := rfl
@[simp] theorem State.setI_tdms (f : Fld) (i : Nat) (b : Bool) : (s.setI f i b).tdms = s.tdms := rfl
@[simp] theorem State.setI_dsu (f : Fld) (i : Nat) (b : Bool) : (s.setI f i b).dsu = s.dsu := rfl
@[simp] theorem State.setI_freeCtr (f : Fld) (i : Nat) (b : Bool) : (s.setI f i b).freeCtr = s.freeCtr := rfl
@[simp] theorem State.setI_pending (f : Fld) (i : Nat) (b : Bool) : (s.setI f i b).pending = s.pending := rfl

/-! ### setS -/

@[simp] theorem State.setS_fuse (f : Fld) (x : Int) : (s.setS f x).fuse = s.fuse := rfl
@[simp] theorem State.setS_mem (f : Fld) (x : Int) : (s.setS f x).mem = s.mem := rfl
@[simp] theorem State.setS_tb (f : Fld) (x : Int) : (s.setS f x).tb = s.tb := rfl
@[simp] theorem State.setS_sys (f : Fld) (x : Int) : (s.setS f x).sys = s.sys := rfl
@[simp] theorem State.setS_pwr (f : Fld) (x : Int) : (s.setS f x).pwr = s.pwr := rfl
@[simp] theorem State.setS_doms (f : Fld) (x : Int) : (s.setS f x).doms = s.doms := rfl
@[simp] theorem State.setS_loops (f : Fld) (x : Int) : (s.setS f x).loops = s.loops := rfl
@[simp] theorem State.setS_coefs (f : Fld) (x : Int) : (s.setS f x).coefs = s.coefs := rfl
@[simp] theorem State.setS_prfs (f : Fld) (x : Int) : (s.setS f x).prfs = s.prfs := rfl
@[simp] theorem State.setS_lanes (f : Fld) (x : Int) : (s.setS f x).lanes = s.lanes := rfl
@[simp] theorem State.setS_phases (f : Fld) (x : Int) : (s.setS f x).phases = s.phases := rfl
@[simp] theorem State.setS_quants (f : Fld) (x : Int) : (s.setS f x).quants = s.quants := rfl
@[simp] theorem State.setS_balls (f : Fld) (x : Int) : (s.setS f x).balls = s.balls := rfl
@[simp] theorem State.setS_mon (f : Fld) (x : Int) : (s.setS f x).mon = s.mon := rfl
@[simp] theorem State.setS_fls (f : Fld) (x : Int) : (s.setS f x).fls = s.fls := rfl
@[simp] theorem State.setS_eng (f : Fld) (x : Int) : (s.setS f x).eng = s.eng := rfl
@[simp] theorem State.setS_ens (f : Fld) (x : Int) : (s.setS f x).ens = s.ens := rfl
@[simp] theorem State.setS_img (f : Fld) (x : Int) : (s.setS f x).img = s.img := rfl
@[simp] theorem State.setS_adc (f : Fld) (x : Int) : (s.setS f x).adc = s.adc := rfl
@[simp] theorem State.setS_thm (f : Fld) (x : Int) : (s.setS f x).thm = s.thm := rfl
@[simp] theorem State.setS_net (f : Fld) (x : Int) : (s.setS f x).net = s.net := rfl
@[simp] theorem State.setS_tdms (f : Fld) (x : Int) : (s.setS f x).tdms = s.tdms := rfl
@[simp] theorem State.setS_dsu (f : Fld) (x : Int) : (s.setS f x).dsu = s.dsu := rfl
@[simp] theorem State.setS_freeCtr (f : Fld) (x : Int) : (s.setS f x).freeCtr = s.freeCtr := rfl
@[simp] theorem State.setS_pending (f : Fld) (x : Int) : (s.setS f x).pending = s.pending := rfl

/-! ### incSat -/

@[simp] theorem State.incSat_fuse (f : Fld) : (s.incSat f).fuse = s.fuse := rfl
@[simp] theorem State.incSat_mem (f : Fld) : (s.incSat f).mem = s.mem := rfl
@[simp] theorem State.incSat_tb (f : Fld) : (s.incSat f).tb = s.tb := rfl
@[simp] theorem State.incSat_sys (f : Fld) : (s.incSat f).sys = s.sys := rfl
@[simp] theorem State.incSat_pwr (f : Fld) : (s.incSat f).pwr = s.pwr := rfl
@[simp] theorem State.incSat_doms (f : Fld) : (s.incSat f).doms = s.doms := rfl
@[simp] theorem State.incSat_loops (f : Fld) : (s.incSat f).loops = s.loops := rfl
@[simp] theorem State.incSat_coefs (f : Fld) : (s.incSat f).coefs = s.coefs := rfl
@[simp] theorem State.incSat_prfs (f : Fld) : (s.incSat f).prfs = s.prfs := rfl
@[simp] theorem State.incSat_lanes (f : Fld) : (s.incSat f).lanes = s.lanes := rfl
@[simp] theorem State.incSat_phases (f : Fld) : (s.incSat f).phases = s.phases := rfl
@[simp] theorem State.incSat_quants (f : Fld) : (s.incSat f).quants = s.quants := rfl
@[simp] theorem State.incSat_balls (f : Fld) : (s.incSat f).balls = s.balls := rfl
@[simp] theorem State.incSat_mon (f : Fld) : (s.incSat f).mon = s.mon := rfl
@[simp] theorem State.incSat_fls (f : Fld) : (s.incSat f).fls = s.fls := rfl
@[simp] theorem State.incSat_eng (f : Fld) : (s.incSat f).eng = s.eng := rfl
@[simp] theorem State.incSat_ens (f : Fld) : (s.incSat f).ens = s.ens := rfl
@[simp] theorem State.incSat_img (f : Fld) : (s.incSat f).img = s.img := rfl
@[simp] theorem State.incSat_adc (f : Fld) : (s.incSat f).adc = s.adc := rfl
@[simp] theorem State.incSat_thm (f : Fld) : (s.incSat f).thm = s.thm := rfl
@[simp] theorem State.incSat_net (f : Fld) : (s.incSat f).net = s.net := rfl
@[simp] theorem State.incSat_tdms (f : Fld) : (s.incSat f).tdms = s.tdms := rfl
@[simp] theorem State.incSat_dsu (f : Fld) : (s.incSat f).dsu = s.dsu := rfl
@[simp] theorem State.incSat_freeCtr (f : Fld) : (s.incSat f).freeCtr = s.freeCtr := rfl
@[simp] theorem State.incSat_pending (f : Fld) : (s.incSat f).pending = s.pending := rfl

/-! ### modDom -/

@[simp] theorem State.modDom_fuse (d : Nat) (g : Dom → Dom) : (s.modDom d g).fuse = s.fuse := rfl
@[simp] theorem State.modDom_regs (d : Nat) (g : Dom → Dom) : (s.modDom d g).regs = s.regs := rfl
@[simp] theorem State.modDom_mem (d : Nat) (g : Dom → Dom) : (s.modDom d g).mem = s.mem := rfl
@[simp] theorem State.modDom_tb (d : Nat) (g : Dom → Dom) : (s.modDom d g).tb = s.tb := rfl
@[simp] theorem State.modDom_sys (d : Nat) (g : Dom → Dom) : (s.modDom d g).sys = s.sys := rfl
@[simp] theorem State.modDom_pwr (d : Nat) (g : Dom → Dom) : (s.modDom d g).pwr = s.pwr := rfl
@[simp] theorem State.modDom_loops (d : Nat) (g : Dom → Dom) : (s.modDom d g).loops = s.loops := rfl
@[simp] theorem State.modDom_coefs (d : Nat) (g : Dom → Dom) : (s.modDom d g).coefs = s.coefs := rfl
@[simp] theorem State.modDom_prfs (d : Nat) (g : Dom → Dom) : (s.modDom d g).prfs = s.prfs := rfl
@[simp] theorem State.modDom_lanes (d : Nat) (g : Dom → Dom) : (s.modDom d g).lanes = s.lanes := rfl
@[simp] theorem State.modDom_phases (d : Nat) (g : Dom → Dom) : (s.modDom d g).phases = s.phases := rfl
@[simp] theorem State.modDom_quants (d : Nat) (g : Dom → Dom) : (s.modDom d g).quants = s.quants := rfl
@[simp] theorem State.modDom_balls (d : Nat) (g : Dom → Dom) : (s.modDom d g).balls = s.balls := rfl
@[simp] theorem State.modDom_mon (d : Nat) (g : Dom → Dom) : (s.modDom d g).mon = s.mon := rfl
@[simp] theorem State.modDom_fls (d : Nat) (g : Dom → Dom) : (s.modDom d g).fls = s.fls := rfl
@[simp] theorem State.modDom_eng (d : Nat) (g : Dom → Dom) : (s.modDom d g).eng = s.eng := rfl
@[simp] theorem State.modDom_ens (d : Nat) (g : Dom → Dom) : (s.modDom d g).ens = s.ens := rfl
@[simp] theorem State.modDom_img (d : Nat) (g : Dom → Dom) : (s.modDom d g).img = s.img := rfl
@[simp] theorem State.modDom_adc (d : Nat) (g : Dom → Dom) : (s.modDom d g).adc = s.adc := rfl
@[simp] theorem State.modDom_thm (d : Nat) (g : Dom → Dom) : (s.modDom d g).thm = s.thm := rfl
@[simp] theorem State.modDom_net (d : Nat) (g : Dom → Dom) : (s.modDom d g).net = s.net := rfl
@[simp] theorem State.modDom_tdms (d : Nat) (g : Dom → Dom) : (s.modDom d g).tdms = s.tdms := rfl
@[simp] theorem State.modDom_dsu (d : Nat) (g : Dom → Dom) : (s.modDom d g).dsu = s.dsu := rfl
@[simp] theorem State.modDom_freeCtr (d : Nat) (g : Dom → Dom) : (s.modDom d g).freeCtr = s.freeCtr := rfl
@[simp] theorem State.modDom_pending (d : Nat) (g : Dom → Dom) : (s.modDom d g).pending = s.pending := rfl

/-! ### modLoop -/

@[simp] theorem State.modLoop_fuse (l : Nat) (g : Loop → Loop) : (s.modLoop l g).fuse = s.fuse := rfl
@[simp] theorem State.modLoop_regs (l : Nat) (g : Loop → Loop) : (s.modLoop l g).regs = s.regs := rfl
@[simp] theorem State.modLoop_mem (l : Nat) (g : Loop → Loop) : (s.modLoop l g).mem = s.mem := rfl
@[simp] theorem State.modLoop_tb (l : Nat) (g : Loop → Loop) : (s.modLoop l g).tb = s.tb := rfl
@[simp] theorem State.modLoop_sys (l : Nat) (g : Loop → Loop) : (s.modLoop l g).sys = s.sys := rfl
@[simp] theorem State.modLoop_pwr (l : Nat) (g : Loop → Loop) : (s.modLoop l g).pwr = s.pwr := rfl
@[simp] theorem State.modLoop_doms (l : Nat) (g : Loop → Loop) : (s.modLoop l g).doms = s.doms := rfl
@[simp] theorem State.modLoop_coefs (l : Nat) (g : Loop → Loop) : (s.modLoop l g).coefs = s.coefs := rfl
@[simp] theorem State.modLoop_prfs (l : Nat) (g : Loop → Loop) : (s.modLoop l g).prfs = s.prfs := rfl
@[simp] theorem State.modLoop_lanes (l : Nat) (g : Loop → Loop) : (s.modLoop l g).lanes = s.lanes := rfl
@[simp] theorem State.modLoop_phases (l : Nat) (g : Loop → Loop) : (s.modLoop l g).phases = s.phases := rfl
@[simp] theorem State.modLoop_quants (l : Nat) (g : Loop → Loop) : (s.modLoop l g).quants = s.quants := rfl
@[simp] theorem State.modLoop_balls (l : Nat) (g : Loop → Loop) : (s.modLoop l g).balls = s.balls := rfl
@[simp] theorem State.modLoop_mon (l : Nat) (g : Loop → Loop) : (s.modLoop l g).mon = s.mon := rfl
@[simp] theorem State.modLoop_fls (l : Nat) (g : Loop → Loop) : (s.modLoop l g).fls = s.fls := rfl
@[simp] theorem State.modLoop_eng (l : Nat) (g : Loop → Loop) : (s.modLoop l g).eng = s.eng := rfl
@[simp] theorem State.modLoop_ens (l : Nat) (g : Loop → Loop) : (s.modLoop l g).ens = s.ens := rfl
@[simp] theorem State.modLoop_img (l : Nat) (g : Loop → Loop) : (s.modLoop l g).img = s.img := rfl
@[simp] theorem State.modLoop_adc (l : Nat) (g : Loop → Loop) : (s.modLoop l g).adc = s.adc := rfl
@[simp] theorem State.modLoop_thm (l : Nat) (g : Loop → Loop) : (s.modLoop l g).thm = s.thm := rfl
@[simp] theorem State.modLoop_net (l : Nat) (g : Loop → Loop) : (s.modLoop l g).net = s.net := rfl
@[simp] theorem State.modLoop_tdms (l : Nat) (g : Loop → Loop) : (s.modLoop l g).tdms = s.tdms := rfl
@[simp] theorem State.modLoop_dsu (l : Nat) (g : Loop → Loop) : (s.modLoop l g).dsu = s.dsu := rfl
@[simp] theorem State.modLoop_freeCtr (l : Nat) (g : Loop → Loop) : (s.modLoop l g).freeCtr = s.freeCtr := rfl
@[simp] theorem State.modLoop_pending (l : Nat) (g : Loop → Loop) : (s.modLoop l g).pending = s.pending := rfl

/-! ### modPrf -/

@[simp] theorem State.modPrf_fuse (d : Nat) (g : Prf → Prf) : (s.modPrf d g).fuse = s.fuse := rfl
@[simp] theorem State.modPrf_regs (d : Nat) (g : Prf → Prf) : (s.modPrf d g).regs = s.regs := rfl
@[simp] theorem State.modPrf_mem (d : Nat) (g : Prf → Prf) : (s.modPrf d g).mem = s.mem := rfl
@[simp] theorem State.modPrf_tb (d : Nat) (g : Prf → Prf) : (s.modPrf d g).tb = s.tb := rfl
@[simp] theorem State.modPrf_sys (d : Nat) (g : Prf → Prf) : (s.modPrf d g).sys = s.sys := rfl
@[simp] theorem State.modPrf_pwr (d : Nat) (g : Prf → Prf) : (s.modPrf d g).pwr = s.pwr := rfl
@[simp] theorem State.modPrf_doms (d : Nat) (g : Prf → Prf) : (s.modPrf d g).doms = s.doms := rfl
@[simp] theorem State.modPrf_loops (d : Nat) (g : Prf → Prf) : (s.modPrf d g).loops = s.loops := rfl
@[simp] theorem State.modPrf_coefs (d : Nat) (g : Prf → Prf) : (s.modPrf d g).coefs = s.coefs := rfl
@[simp] theorem State.modPrf_lanes (d : Nat) (g : Prf → Prf) : (s.modPrf d g).lanes = s.lanes := rfl
@[simp] theorem State.modPrf_phases (d : Nat) (g : Prf → Prf) : (s.modPrf d g).phases = s.phases := rfl
@[simp] theorem State.modPrf_quants (d : Nat) (g : Prf → Prf) : (s.modPrf d g).quants = s.quants := rfl
@[simp] theorem State.modPrf_balls (d : Nat) (g : Prf → Prf) : (s.modPrf d g).balls = s.balls := rfl
@[simp] theorem State.modPrf_mon (d : Nat) (g : Prf → Prf) : (s.modPrf d g).mon = s.mon := rfl
@[simp] theorem State.modPrf_fls (d : Nat) (g : Prf → Prf) : (s.modPrf d g).fls = s.fls := rfl
@[simp] theorem State.modPrf_eng (d : Nat) (g : Prf → Prf) : (s.modPrf d g).eng = s.eng := rfl
@[simp] theorem State.modPrf_ens (d : Nat) (g : Prf → Prf) : (s.modPrf d g).ens = s.ens := rfl
@[simp] theorem State.modPrf_img (d : Nat) (g : Prf → Prf) : (s.modPrf d g).img = s.img := rfl
@[simp] theorem State.modPrf_adc (d : Nat) (g : Prf → Prf) : (s.modPrf d g).adc = s.adc := rfl
@[simp] theorem State.modPrf_thm (d : Nat) (g : Prf → Prf) : (s.modPrf d g).thm = s.thm := rfl
@[simp] theorem State.modPrf_net (d : Nat) (g : Prf → Prf) : (s.modPrf d g).net = s.net := rfl
@[simp] theorem State.modPrf_tdms (d : Nat) (g : Prf → Prf) : (s.modPrf d g).tdms = s.tdms := rfl
@[simp] theorem State.modPrf_dsu (d : Nat) (g : Prf → Prf) : (s.modPrf d g).dsu = s.dsu := rfl
@[simp] theorem State.modPrf_freeCtr (d : Nat) (g : Prf → Prf) : (s.modPrf d g).freeCtr = s.freeCtr := rfl
@[simp] theorem State.modPrf_pending (d : Nat) (g : Prf → Prf) : (s.modPrf d g).pending = s.pending := rfl

/-! ### modLane -/

@[simp] theorem State.modLane_fuse (c : Nat) (g : Lane → Lane) : (s.modLane c g).fuse = s.fuse := rfl
@[simp] theorem State.modLane_regs (c : Nat) (g : Lane → Lane) : (s.modLane c g).regs = s.regs := rfl
@[simp] theorem State.modLane_mem (c : Nat) (g : Lane → Lane) : (s.modLane c g).mem = s.mem := rfl
@[simp] theorem State.modLane_tb (c : Nat) (g : Lane → Lane) : (s.modLane c g).tb = s.tb := rfl
@[simp] theorem State.modLane_sys (c : Nat) (g : Lane → Lane) : (s.modLane c g).sys = s.sys := rfl
@[simp] theorem State.modLane_pwr (c : Nat) (g : Lane → Lane) : (s.modLane c g).pwr = s.pwr := rfl
@[simp] theorem State.modLane_doms (c : Nat) (g : Lane → Lane) : (s.modLane c g).doms = s.doms := rfl
@[simp] theorem State.modLane_loops (c : Nat) (g : Lane → Lane) : (s.modLane c g).loops = s.loops := rfl
@[simp] theorem State.modLane_coefs (c : Nat) (g : Lane → Lane) : (s.modLane c g).coefs = s.coefs := rfl
@[simp] theorem State.modLane_prfs (c : Nat) (g : Lane → Lane) : (s.modLane c g).prfs = s.prfs := rfl
@[simp] theorem State.modLane_phases (c : Nat) (g : Lane → Lane) : (s.modLane c g).phases = s.phases := rfl
@[simp] theorem State.modLane_quants (c : Nat) (g : Lane → Lane) : (s.modLane c g).quants = s.quants := rfl
@[simp] theorem State.modLane_balls (c : Nat) (g : Lane → Lane) : (s.modLane c g).balls = s.balls := rfl
@[simp] theorem State.modLane_mon (c : Nat) (g : Lane → Lane) : (s.modLane c g).mon = s.mon := rfl
@[simp] theorem State.modLane_fls (c : Nat) (g : Lane → Lane) : (s.modLane c g).fls = s.fls := rfl
@[simp] theorem State.modLane_eng (c : Nat) (g : Lane → Lane) : (s.modLane c g).eng = s.eng := rfl
@[simp] theorem State.modLane_ens (c : Nat) (g : Lane → Lane) : (s.modLane c g).ens = s.ens := rfl
@[simp] theorem State.modLane_img (c : Nat) (g : Lane → Lane) : (s.modLane c g).img = s.img := rfl
@[simp] theorem State.modLane_adc (c : Nat) (g : Lane → Lane) : (s.modLane c g).adc = s.adc := rfl
@[simp] theorem State.modLane_thm (c : Nat) (g : Lane → Lane) : (s.modLane c g).thm = s.thm := rfl
@[simp] theorem State.modLane_net (c : Nat) (g : Lane → Lane) : (s.modLane c g).net = s.net := rfl
@[simp] theorem State.modLane_tdms (c : Nat) (g : Lane → Lane) : (s.modLane c g).tdms = s.tdms := rfl
@[simp] theorem State.modLane_dsu (c : Nat) (g : Lane → Lane) : (s.modLane c g).dsu = s.dsu := rfl
@[simp] theorem State.modLane_freeCtr (c : Nat) (g : Lane → Lane) : (s.modLane c g).freeCtr = s.freeCtr := rfl
@[simp] theorem State.modLane_pending (c : Nat) (g : Lane → Lane) : (s.modLane c g).pending = s.pending := rfl

/-! ### modPhase -/

@[simp] theorem State.modPhase_fuse (d p : Nat) (g : Phase → Phase) : (s.modPhase d p g).fuse = s.fuse := rfl
@[simp] theorem State.modPhase_regs (d p : Nat) (g : Phase → Phase) : (s.modPhase d p g).regs = s.regs := rfl
@[simp] theorem State.modPhase_mem (d p : Nat) (g : Phase → Phase) : (s.modPhase d p g).mem = s.mem := rfl
@[simp] theorem State.modPhase_tb (d p : Nat) (g : Phase → Phase) : (s.modPhase d p g).tb = s.tb := rfl
@[simp] theorem State.modPhase_sys (d p : Nat) (g : Phase → Phase) : (s.modPhase d p g).sys = s.sys := rfl
@[simp] theorem State.modPhase_pwr (d p : Nat) (g : Phase → Phase) : (s.modPhase d p g).pwr = s.pwr := rfl
@[simp] theorem State.modPhase_doms (d p : Nat) (g : Phase → Phase) : (s.modPhase d p g).doms = s.doms := rfl
@[simp] theorem State.modPhase_loops (d p : Nat) (g : Phase → Phase) : (s.modPhase d p g).loops = s.loops := rfl
@[simp] theorem State.modPhase_coefs (d p : Nat) (g : Phase → Phase) : (s.modPhase d p g).coefs = s.coefs := rfl
@[simp] theorem State.modPhase_prfs (d p : Nat) (g : Phase → Phase) : (s.modPhase d p g).prfs = s.prfs := rfl
@[simp] theorem State.modPhase_lanes (d p : Nat) (g : Phase → Phase) : (s.modPhase d p g).lanes = s.lanes := rfl
@[simp] theorem State.modPhase_quants (d p : Nat) (g : Phase → Phase) : (s.modPhase d p g).quants = s.quants := rfl
@[simp] theorem State.modPhase_balls (d p : Nat) (g : Phase → Phase) : (s.modPhase d p g).balls = s.balls := rfl
@[simp] theorem State.modPhase_mon (d p : Nat) (g : Phase → Phase) : (s.modPhase d p g).mon = s.mon := rfl
@[simp] theorem State.modPhase_fls (d p : Nat) (g : Phase → Phase) : (s.modPhase d p g).fls = s.fls := rfl
@[simp] theorem State.modPhase_eng (d p : Nat) (g : Phase → Phase) : (s.modPhase d p g).eng = s.eng := rfl
@[simp] theorem State.modPhase_ens (d p : Nat) (g : Phase → Phase) : (s.modPhase d p g).ens = s.ens := rfl
@[simp] theorem State.modPhase_img (d p : Nat) (g : Phase → Phase) : (s.modPhase d p g).img = s.img := rfl
@[simp] theorem State.modPhase_adc (d p : Nat) (g : Phase → Phase) : (s.modPhase d p g).adc = s.adc := rfl
@[simp] theorem State.modPhase_thm (d p : Nat) (g : Phase → Phase) : (s.modPhase d p g).thm = s.thm := rfl
@[simp] theorem State.modPhase_net (d p : Nat) (g : Phase → Phase) : (s.modPhase d p g).net = s.net := rfl
@[simp] theorem State.modPhase_tdms (d p : Nat) (g : Phase → Phase) : (s.modPhase d p g).tdms = s.tdms := rfl
@[simp] theorem State.modPhase_dsu (d p : Nat) (g : Phase → Phase) : (s.modPhase d p g).dsu = s.dsu := rfl
@[simp] theorem State.modPhase_freeCtr (d p : Nat) (g : Phase → Phase) : (s.modPhase d p g).freeCtr = s.freeCtr := rfl
@[simp] theorem State.modPhase_pending (d p : Nat) (g : Phase → Phase) : (s.modPhase d p g).pending = s.pending := rfl

/-! ### setQuant -/

@[simp] theorem State.setQuant_fuse (d g : Nat) (q : Quant) : (s.setQuant d g q).fuse = s.fuse := rfl
@[simp] theorem State.setQuant_regs (d g : Nat) (q : Quant) : (s.setQuant d g q).regs = s.regs := rfl
@[simp] theorem State.setQuant_mem (d g : Nat) (q : Quant) : (s.setQuant d g q).mem = s.mem := rfl
@[simp] theorem State.setQuant_tb (d g : Nat) (q : Quant) : (s.setQuant d g q).tb = s.tb := rfl
@[simp] theorem State.setQuant_sys (d g : Nat) (q : Quant) : (s.setQuant d g q).sys = s.sys := rfl
@[simp] theorem State.setQuant_pwr (d g : Nat) (q : Quant) : (s.setQuant d g q).pwr = s.pwr := rfl
@[simp] theorem State.setQuant_doms (d g : Nat) (q : Quant) : (s.setQuant d g q).doms = s.doms := rfl
@[simp] theorem State.setQuant_loops (d g : Nat) (q : Quant) : (s.setQuant d g q).loops = s.loops := rfl
@[simp] theorem State.setQuant_coefs (d g : Nat) (q : Quant) : (s.setQuant d g q).coefs = s.coefs := rfl
@[simp] theorem State.setQuant_prfs (d g : Nat) (q : Quant) : (s.setQuant d g q).prfs = s.prfs := rfl
@[simp] theorem State.setQuant_lanes (d g : Nat) (q : Quant) : (s.setQuant d g q).lanes = s.lanes := rfl
@[simp] theorem State.setQuant_phases (d g : Nat) (q : Quant) : (s.setQuant d g q).phases = s.phases := rfl
@[simp] theorem State.setQuant_balls (d g : Nat) (q : Quant) : (s.setQuant d g q).balls = s.balls := rfl
@[simp] theorem State.setQuant_mon (d g : Nat) (q : Quant) : (s.setQuant d g q).mon = s.mon := rfl
@[simp] theorem State.setQuant_fls (d g : Nat) (q : Quant) : (s.setQuant d g q).fls = s.fls := rfl
@[simp] theorem State.setQuant_eng (d g : Nat) (q : Quant) : (s.setQuant d g q).eng = s.eng := rfl
@[simp] theorem State.setQuant_ens (d g : Nat) (q : Quant) : (s.setQuant d g q).ens = s.ens := rfl
@[simp] theorem State.setQuant_img (d g : Nat) (q : Quant) : (s.setQuant d g q).img = s.img := rfl
@[simp] theorem State.setQuant_adc (d g : Nat) (q : Quant) : (s.setQuant d g q).adc = s.adc := rfl
@[simp] theorem State.setQuant_thm (d g : Nat) (q : Quant) : (s.setQuant d g q).thm = s.thm := rfl
@[simp] theorem State.setQuant_net (d g : Nat) (q : Quant) : (s.setQuant d g q).net = s.net := rfl
@[simp] theorem State.setQuant_tdms (d g : Nat) (q : Quant) : (s.setQuant d g q).tdms = s.tdms := rfl
@[simp] theorem State.setQuant_dsu (d g : Nat) (q : Quant) : (s.setQuant d g q).dsu = s.dsu := rfl
@[simp] theorem State.setQuant_freeCtr (d g : Nat) (q : Quant) : (s.setQuant d g q).freeCtr = s.freeCtr := rfl
@[simp] theorem State.setQuant_pending (d g : Nat) (q : Quant) : (s.setQuant d g q).pending = s.pending := rfl

/-! ### setBall -/

@[simp] theorem State.setBall_fuse (d g : Nat) (b : Ball) : (s.setBall d g b).fuse = s.fuse := rfl
@[simp] theorem State.setBall_regs (d g : Nat) (b : Ball) : (s.setBall d g b).regs = s.regs := rfl
@[simp] theorem State.setBall_mem (d g : Nat) (b : Ball) : (s.setBall d g b).mem = s.mem := rfl
@[simp] theorem State.setBall_tb (d g : Nat) (b : Ball) : (s.setBall d g b).tb = s.tb := rfl
@[simp] theorem State.setBall_sys (d g : Nat) (b : Ball) : (s.setBall d g b).sys = s.sys := rfl
@[simp] theorem State.setBall_pwr (d g : Nat) (b : Ball) : (s.setBall d g b).pwr = s.pwr := rfl
@[simp] theorem State.setBall_doms (d g : Nat) (b : Ball) : (s.setBall d g b).doms = s.doms := rfl
@[simp] theorem State.setBall_loops (d g : Nat) (b : Ball) : (s.setBall d g b).loops = s.loops := rfl
@[simp] theorem State.setBall_coefs (d g : Nat) (b : Ball) : (s.setBall d g b).coefs = s.coefs := rfl
@[simp] theorem State.setBall_prfs (d g : Nat) (b : Ball) : (s.setBall d g b).prfs = s.prfs := rfl
@[simp] theorem State.setBall_lanes (d g : Nat) (b : Ball) : (s.setBall d g b).lanes = s.lanes := rfl
@[simp] theorem State.setBall_phases (d g : Nat) (b : Ball) : (s.setBall d g b).phases = s.phases := rfl
@[simp] theorem State.setBall_quants (d g : Nat) (b : Ball) : (s.setBall d g b).quants = s.quants := rfl
@[simp] theorem State.setBall_mon (d g : Nat) (b : Ball) : (s.setBall d g b).mon = s.mon := rfl
@[simp] theorem State.setBall_fls (d g : Nat) (b : Ball) : (s.setBall d g b).fls = s.fls := rfl
@[simp] theorem State.setBall_eng (d g : Nat) (b : Ball) : (s.setBall d g b).eng = s.eng := rfl
@[simp] theorem State.setBall_ens (d g : Nat) (b : Ball) : (s.setBall d g b).ens = s.ens := rfl
@[simp] theorem State.setBall_img (d g : Nat) (b : Ball) : (s.setBall d g b).img = s.img := rfl
@[simp] theorem State.setBall_adc (d g : Nat) (b : Ball) : (s.setBall d g b).adc = s.adc := rfl
@[simp] theorem State.setBall_thm (d g : Nat) (b : Ball) : (s.setBall d g b).thm = s.thm := rfl
@[simp] theorem State.setBall_net (d g : Nat) (b : Ball) : (s.setBall d g b).net = s.net := rfl
@[simp] theorem State.setBall_tdms (d g : Nat) (b : Ball) : (s.setBall d g b).tdms = s.tdms := rfl
@[simp] theorem State.setBall_dsu (d g : Nat) (b : Ball) : (s.setBall d g b).dsu = s.dsu := rfl
@[simp] theorem State.setBall_freeCtr (d g : Nat) (b : Ball) : (s.setBall d g b).freeCtr = s.freeCtr := rfl
@[simp] theorem State.setBall_pending (d g : Nat) (b : Ball) : (s.setBall d g b).pending = s.pending := rfl

/-! ### modMon -/

@[simp] theorem State.modMon_fuse (g : Mon → Mon) : (s.modMon g).fuse = s.fuse := rfl
@[simp] theorem State.modMon_regs (g : Mon → Mon) : (s.modMon g).regs = s.regs := rfl
@[simp] theorem State.modMon_mem (g : Mon → Mon) : (s.modMon g).mem = s.mem := rfl
@[simp] theorem State.modMon_tb (g : Mon → Mon) : (s.modMon g).tb = s.tb := rfl
@[simp] theorem State.modMon_sys (g : Mon → Mon) : (s.modMon g).sys = s.sys := rfl
@[simp] theorem State.modMon_pwr (g : Mon → Mon) : (s.modMon g).pwr = s.pwr := rfl
@[simp] theorem State.modMon_doms (g : Mon → Mon) : (s.modMon g).doms = s.doms := rfl
@[simp] theorem State.modMon_loops (g : Mon → Mon) : (s.modMon g).loops = s.loops := rfl
@[simp] theorem State.modMon_coefs (g : Mon → Mon) : (s.modMon g).coefs = s.coefs := rfl
@[simp] theorem State.modMon_prfs (g : Mon → Mon) : (s.modMon g).prfs = s.prfs := rfl
@[simp] theorem State.modMon_lanes (g : Mon → Mon) : (s.modMon g).lanes = s.lanes := rfl
@[simp] theorem State.modMon_phases (g : Mon → Mon) : (s.modMon g).phases = s.phases := rfl
@[simp] theorem State.modMon_quants (g : Mon → Mon) : (s.modMon g).quants = s.quants := rfl
@[simp] theorem State.modMon_balls (g : Mon → Mon) : (s.modMon g).balls = s.balls := rfl
@[simp] theorem State.modMon_fls (g : Mon → Mon) : (s.modMon g).fls = s.fls := rfl
@[simp] theorem State.modMon_eng (g : Mon → Mon) : (s.modMon g).eng = s.eng := rfl
@[simp] theorem State.modMon_ens (g : Mon → Mon) : (s.modMon g).ens = s.ens := rfl
@[simp] theorem State.modMon_img (g : Mon → Mon) : (s.modMon g).img = s.img := rfl
@[simp] theorem State.modMon_adc (g : Mon → Mon) : (s.modMon g).adc = s.adc := rfl
@[simp] theorem State.modMon_thm (g : Mon → Mon) : (s.modMon g).thm = s.thm := rfl
@[simp] theorem State.modMon_net (g : Mon → Mon) : (s.modMon g).net = s.net := rfl
@[simp] theorem State.modMon_tdms (g : Mon → Mon) : (s.modMon g).tdms = s.tdms := rfl
@[simp] theorem State.modMon_dsu (g : Mon → Mon) : (s.modMon g).dsu = s.dsu := rfl
@[simp] theorem State.modMon_freeCtr (g : Mon → Mon) : (s.modMon g).freeCtr = s.freeCtr := rfl
@[simp] theorem State.modMon_pending (g : Mon → Mon) : (s.modMon g).pending = s.pending := rfl
@[simp] theorem State.modMon_mon (g : Mon → Mon) : (s.modMon g).mon = g s.mon := rfl

/-! ### modFls -/

@[simp] theorem State.modFls_fuse (g : Fls → Fls) : (s.modFls g).fuse = s.fuse := rfl
@[simp] theorem State.modFls_regs (g : Fls → Fls) : (s.modFls g).regs = s.regs := rfl
@[simp] theorem State.modFls_mem (g : Fls → Fls) : (s.modFls g).mem = s.mem := rfl
@[simp] theorem State.modFls_tb (g : Fls → Fls) : (s.modFls g).tb = s.tb := rfl
@[simp] theorem State.modFls_sys (g : Fls → Fls) : (s.modFls g).sys = s.sys := rfl
@[simp] theorem State.modFls_pwr (g : Fls → Fls) : (s.modFls g).pwr = s.pwr := rfl
@[simp] theorem State.modFls_doms (g : Fls → Fls) : (s.modFls g).doms = s.doms := rfl
@[simp] theorem State.modFls_loops (g : Fls → Fls) : (s.modFls g).loops = s.loops := rfl
@[simp] theorem State.modFls_coefs (g : Fls → Fls) : (s.modFls g).coefs = s.coefs := rfl
@[simp] theorem State.modFls_prfs (g : Fls → Fls) : (s.modFls g).prfs = s.prfs := rfl
@[simp] theorem State.modFls_lanes (g : Fls → Fls) : (s.modFls g).lanes = s.lanes := rfl
@[simp] theorem State.modFls_phases (g : Fls → Fls) : (s.modFls g).phases = s.phases := rfl
@[simp] theorem State.modFls_quants (g : Fls → Fls) : (s.modFls g).quants = s.quants := rfl
@[simp] theorem State.modFls_balls (g : Fls → Fls) : (s.modFls g).balls = s.balls := rfl
@[simp] theorem State.modFls_mon (g : Fls → Fls) : (s.modFls g).mon = s.mon := rfl
@[simp] theorem State.modFls_eng (g : Fls → Fls) : (s.modFls g).eng = s.eng := rfl
@[simp] theorem State.modFls_ens (g : Fls → Fls) : (s.modFls g).ens = s.ens := rfl
@[simp] theorem State.modFls_img (g : Fls → Fls) : (s.modFls g).img = s.img := rfl
@[simp] theorem State.modFls_adc (g : Fls → Fls) : (s.modFls g).adc = s.adc := rfl
@[simp] theorem State.modFls_thm (g : Fls → Fls) : (s.modFls g).thm = s.thm := rfl
@[simp] theorem State.modFls_net (g : Fls → Fls) : (s.modFls g).net = s.net := rfl
@[simp] theorem State.modFls_tdms (g : Fls → Fls) : (s.modFls g).tdms = s.tdms := rfl
@[simp] theorem State.modFls_dsu (g : Fls → Fls) : (s.modFls g).dsu = s.dsu := rfl
@[simp] theorem State.modFls_freeCtr (g : Fls → Fls) : (s.modFls g).freeCtr = s.freeCtr := rfl
@[simp] theorem State.modFls_pending (g : Fls → Fls) : (s.modFls g).pending = s.pending := rfl
@[simp] theorem State.modFls_fls (g : Fls → Fls) : (s.modFls g).fls = g s.fls := rfl

/-! ### modSys -/

@[simp] theorem State.modSys_fuse (g : Sys → Sys) : (s.modSys g).fuse = s.fuse := rfl
@[simp] theorem State.modSys_regs (g : Sys → Sys) : (s.modSys g).regs = s.regs := rfl
@[simp] theorem State.modSys_mem (g : Sys → Sys) : (s.modSys g).mem = s.mem := rfl
@[simp] theorem State.modSys_tb (g : Sys → Sys) : (s.modSys g).tb = s.tb := rfl
@[simp] theorem State.modSys_pwr (g : Sys → Sys) : (s.modSys g).pwr = s.pwr := rfl
@[simp] theorem State.modSys_doms (g : Sys → Sys) : (s.modSys g).doms = s.doms := rfl
@[simp] theorem State.modSys_loops (g : Sys → Sys) : (s.modSys g).loops = s.loops := rfl
@[simp] theorem State.modSys_coefs (g : Sys → Sys) : (s.modSys g).coefs = s.coefs := rfl
@[simp] theorem State.modSys_prfs (g : Sys → Sys) : (s.modSys g).prfs = s.prfs := rfl
@[simp] theorem State.modSys_lanes (g : Sys → Sys) : (s.modSys g).lanes = s.lanes := rfl
@[simp] theorem State.modSys_phases (g : Sys → Sys) : (s.modSys g).phases = s.phases := rfl
@[simp] theorem State.modSys_quants (g : Sys → Sys) : (s.modSys g).quants = s.quants := rfl
@[simp] theorem State.modSys_balls (g : Sys → Sys) : (s.modSys g).balls = s.balls := rfl
@[simp] theorem State.modSys_mon (g : Sys → Sys) : (s.modSys g).mon = s.mon := rfl
@[simp] theorem State.modSys_fls (g : Sys → Sys) : (s.modSys g).fls = s.fls := rfl
@[simp] theorem State.modSys_eng (g : Sys → Sys) : (s.modSys g).eng = s.eng := rfl
@[simp] theorem State.modSys_ens (g : Sys → Sys) : (s.modSys g).ens = s.ens := rfl
@[simp] theorem State.modSys_img (g : Sys → Sys) : (s.modSys g).img = s.img := rfl
@[simp] theorem State.modSys_adc (g : Sys → Sys) : (s.modSys g).adc = s.adc := rfl
@[simp] theorem State.modSys_thm (g : Sys → Sys) : (s.modSys g).thm = s.thm := rfl
@[simp] theorem State.modSys_net (g : Sys → Sys) : (s.modSys g).net = s.net := rfl
@[simp] theorem State.modSys_tdms (g : Sys → Sys) : (s.modSys g).tdms = s.tdms := rfl
@[simp] theorem State.modSys_dsu (g : Sys → Sys) : (s.modSys g).dsu = s.dsu := rfl
@[simp] theorem State.modSys_freeCtr (g : Sys → Sys) : (s.modSys g).freeCtr = s.freeCtr := rfl
@[simp] theorem State.modSys_pending (g : Sys → Sys) : (s.modSys g).pending = s.pending := rfl
@[simp] theorem State.modSys_sys (g : Sys → Sys) : (s.modSys g).sys = g s.sys := rfl

/-! ### modPwr -/

@[simp] theorem State.modPwr_fuse (g : Pwr → Pwr) : (s.modPwr g).fuse = s.fuse := rfl
@[simp] theorem State.modPwr_regs (g : Pwr → Pwr) : (s.modPwr g).regs = s.regs := rfl
@[simp] theorem State.modPwr_mem (g : Pwr → Pwr) : (s.modPwr g).mem = s.mem := rfl
@[simp] theorem State.modPwr_tb (g : Pwr → Pwr) : (s.modPwr g).tb = s.tb := rfl
@[simp] theorem State.modPwr_sys (g : Pwr → Pwr) : (s.modPwr g).sys = s.sys := rfl
@[simp] theorem State.modPwr_doms (g : Pwr → Pwr) : (s.modPwr g).doms = s.doms := rfl
@[simp] theorem State.modPwr_loops (g : Pwr → Pwr) : (s.modPwr g).loops = s.loops := rfl
@[simp] theorem State.modPwr_coefs (g : Pwr → Pwr) : (s.modPwr g).coefs = s.coefs := rfl
@[simp] theorem State.modPwr_prfs (g : Pwr → Pwr) : (s.modPwr g).prfs = s.prfs := rfl
@[simp] theorem State.modPwr_lanes (g : Pwr → Pwr) : (s.modPwr g).lanes = s.lanes := rfl
@[simp] theorem State.modPwr_phases (g : Pwr → Pwr) : (s.modPwr g).phases = s.phases := rfl
@[simp] theorem State.modPwr_quants (g : Pwr → Pwr) : (s.modPwr g).quants = s.quants := rfl
@[simp] theorem State.modPwr_balls (g : Pwr → Pwr) : (s.modPwr g).balls = s.balls := rfl
@[simp] theorem State.modPwr_mon (g : Pwr → Pwr) : (s.modPwr g).mon = s.mon := rfl
@[simp] theorem State.modPwr_fls (g : Pwr → Pwr) : (s.modPwr g).fls = s.fls := rfl
@[simp] theorem State.modPwr_eng (g : Pwr → Pwr) : (s.modPwr g).eng = s.eng := rfl
@[simp] theorem State.modPwr_ens (g : Pwr → Pwr) : (s.modPwr g).ens = s.ens := rfl
@[simp] theorem State.modPwr_img (g : Pwr → Pwr) : (s.modPwr g).img = s.img := rfl
@[simp] theorem State.modPwr_adc (g : Pwr → Pwr) : (s.modPwr g).adc = s.adc := rfl
@[simp] theorem State.modPwr_thm (g : Pwr → Pwr) : (s.modPwr g).thm = s.thm := rfl
@[simp] theorem State.modPwr_net (g : Pwr → Pwr) : (s.modPwr g).net = s.net := rfl
@[simp] theorem State.modPwr_tdms (g : Pwr → Pwr) : (s.modPwr g).tdms = s.tdms := rfl
@[simp] theorem State.modPwr_dsu (g : Pwr → Pwr) : (s.modPwr g).dsu = s.dsu := rfl
@[simp] theorem State.modPwr_freeCtr (g : Pwr → Pwr) : (s.modPwr g).freeCtr = s.freeCtr := rfl
@[simp] theorem State.modPwr_pending (g : Pwr → Pwr) : (s.modPwr g).pending = s.pending := rfl
@[simp] theorem State.modPwr_pwr (g : Pwr → Pwr) : (s.modPwr g).pwr = g s.pwr := rfl

/-! ### modTb -/

@[simp] theorem State.modTb_fuse (g : TimeBase → TimeBase) : (s.modTb g).fuse = s.fuse := rfl
@[simp] theorem State.modTb_regs (g : TimeBase → TimeBase) : (s.modTb g).regs = s.regs := rfl
@[simp] theorem State.modTb_mem (g : TimeBase → TimeBase) : (s.modTb g).mem = s.mem := rfl
@[simp] theorem State.modTb_sys (g : TimeBase → TimeBase) : (s.modTb g).sys = s.sys := rfl
@[simp] theorem State.modTb_pwr (g : TimeBase → TimeBase) : (s.modTb g).pwr = s.pwr := rfl
@[simp] theorem State.modTb_doms (g : TimeBase → TimeBase) : (s.modTb g).doms = s.doms := rfl
@[simp] theorem State.modTb_loops (g : TimeBase → TimeBase) : (s.modTb g).loops = s.loops := rfl
@[simp] theorem State.modTb_coefs (g : TimeBase → TimeBase) : (s.modTb g).coefs = s.coefs := rfl
@[simp] theorem State.modTb_prfs (g : TimeBase → TimeBase) : (s.modTb g).prfs = s.prfs := rfl
@[simp] theorem State.modTb_lanes (g : TimeBase → TimeBase) : (s.modTb g).lanes = s.lanes := rfl
@[simp] theorem State.modTb_phases (g : TimeBase → TimeBase) : (s.modTb g).phases = s.phases := rfl
@[simp] theorem State.modTb_quants (g : TimeBase → TimeBase) : (s.modTb g).quants = s.quants := rfl
@[simp] theorem State.modTb_balls (g : TimeBase → TimeBase) : (s.modTb g).balls = s.balls := rfl
@[simp] theorem State.modTb_mon (g : TimeBase → TimeBase) : (s.modTb g).mon = s.mon := rfl
@[simp] theorem State.modTb_fls (g : TimeBase → TimeBase) : (s.modTb g).fls = s.fls := rfl
@[simp] theorem State.modTb_eng (g : TimeBase → TimeBase) : (s.modTb g).eng = s.eng := rfl
@[simp] theorem State.modTb_ens (g : TimeBase → TimeBase) : (s.modTb g).ens = s.ens := rfl
@[simp] theorem State.modTb_img (g : TimeBase → TimeBase) : (s.modTb g).img = s.img := rfl
@[simp] theorem State.modTb_adc (g : TimeBase → TimeBase) : (s.modTb g).adc = s.adc := rfl
@[simp] theorem State.modTb_thm (g : TimeBase → TimeBase) : (s.modTb g).thm = s.thm := rfl
@[simp] theorem State.modTb_net (g : TimeBase → TimeBase) : (s.modTb g).net = s.net := rfl
@[simp] theorem State.modTb_tdms (g : TimeBase → TimeBase) : (s.modTb g).tdms = s.tdms := rfl
@[simp] theorem State.modTb_dsu (g : TimeBase → TimeBase) : (s.modTb g).dsu = s.dsu := rfl
@[simp] theorem State.modTb_freeCtr (g : TimeBase → TimeBase) : (s.modTb g).freeCtr = s.freeCtr := rfl
@[simp] theorem State.modTb_pending (g : TimeBase → TimeBase) : (s.modTb g).pending = s.pending := rfl
@[simp] theorem State.modTb_tb (g : TimeBase → TimeBase) : (s.modTb g).tb = g s.tb := rfl

/-! ### setCoef -/

@[simp] theorem State.setCoef_fuse (l : Nat) (b : Bool) (i : Nat) (c : Coef) : (s.setCoef l b i c).fuse = s.fuse := rfl
@[simp] theorem State.setCoef_regs (l : Nat) (b : Bool) (i : Nat) (c : Coef) : (s.setCoef l b i c).regs = s.regs := rfl
@[simp] theorem State.setCoef_mem (l : Nat) (b : Bool) (i : Nat) (c : Coef) : (s.setCoef l b i c).mem = s.mem := rfl
@[simp] theorem State.setCoef_tb (l : Nat) (b : Bool) (i : Nat) (c : Coef) : (s.setCoef l b i c).tb = s.tb := rfl
@[simp] theorem State.setCoef_sys (l : Nat) (b : Bool) (i : Nat) (c : Coef) : (s.setCoef l b i c).sys = s.sys := rfl
@[simp] theorem State.setCoef_pwr (l : Nat) (b : Bool) (i : Nat) (c : Coef) : (s.setCoef l b i c).pwr = s.pwr := rfl
@[simp] theorem State.setCoef_doms (l : Nat) (b : Bool) (i : Nat) (c : Coef) : (s.setCoef l b i c).doms = s.doms := rfl
@[simp] theorem State.setCoef_loops (l : Nat) (b : Bool) (i : Nat) (c : Coef) : (s.setCoef l b i c).loops = s.loops := rfl
@[simp] theorem State.setCoef_prfs (l : Nat) (b : Bool) (i : Nat) (c : Coef) : (s.setCoef l b i c).prfs = s.prfs := rfl
@[simp] theorem State.setCoef_lanes (l : Nat) (b : Bool) (i : Nat) (c : Coef) : (s.setCoef l b i c).lanes = s.lanes := rfl
@[simp] theorem State.setCoef_phases (l : Nat) (b : Bool) (i : Nat) (c : Coef) : (s.setCoef l b i c).phases = s.phases := rfl
@[simp] theorem State.setCoef_quants (l : Nat) (b : Bool) (i : Nat) (c : Coef) : (s.setCoef l b i c).quants = s.quants := rfl
@[simp] theorem State.setCoef_balls (l : Nat) (b : Bool) (i : Nat) (c : Coef) : (s.setCoef l b i c).balls = s.balls := rfl
@[simp] theorem State.setCoef_mon (l : Nat) (b : Bool) (i : Nat) (c : Coef) : (s.setCoef l b i c).mon = s.mon := rfl
@[simp] theorem State.setCoef_fls (l : Nat) (b : Bool) (i : Nat) (c : Coef) : (s.setCoef l b i c).fls = s.fls := rfl
@[simp] theorem State.setCoef_eng (l : Nat) (b : Bool) (i : Nat) (c : Coef) : (s.setCoef l b i c).eng = s.eng := rfl
@[simp] theorem State.setCoef_ens (l : Nat) (b : Bool) (i : Nat) (c : Coef) : (s.setCoef l b i c).ens = s.ens := rfl
@[simp] theorem State.setCoef_img (l : Nat) (b : Bool) (i : Nat) (c : Coef) : (s.setCoef l b i c).img = s.img := rfl
@[simp] theorem State.setCoef_adc (l : Nat) (b : Bool) (i : Nat) (c : Coef) : (s.setCoef l b i c).adc = s.adc := rfl
@[simp] theorem State.setCoef_thm (l : Nat) (b : Bool) (i : Nat) (c : Coef) : (s.setCoef l b i c).thm = s.thm := rfl
@[simp] theorem State.setCoef_net (l : Nat) (b : Bool) (i : Nat) (c : Coef) : (s.setCoef l b i c).net = s.net := rfl
@[simp] theorem State.setCoef_tdms (l : Nat) (b : Bool) (i : Nat) (c : Coef) : (s.setCoef l b i c).tdms = s.tdms := rfl
@[simp] theorem State.setCoef_dsu (l : Nat) (b : Bool) (i : Nat) (c : Coef) : (s.setCoef l b i c).dsu = s.dsu := rfl
@[simp] theorem State.setCoef_freeCtr (l : Nat) (b : Bool) (i : Nat) (c : Coef) : (s.setCoef l b i c).freeCtr = s.freeCtr := rfl
@[simp] theorem State.setCoef_pending (l : Nat) (b : Bool) (i : Nat) (c : Coef) : (s.setCoef l b i c).pending = s.pending := rfl

/-! ### wr8 -/

@[simp] theorem State.wr8_fuse (a : Nat) (b : Byte) : (s.wr8 a b).fuse = s.fuse := rfl
@[simp] theorem State.wr8_regs (a : Nat) (b : Byte) : (s.wr8 a b).regs = s.regs := rfl
@[simp] theorem State.wr8_tb (a : Nat) (b : Byte) : (s.wr8 a b).tb = s.tb := rfl
@[simp] theorem State.wr8_sys (a : Nat) (b : Byte) : (s.wr8 a b).sys = s.sys := rfl
@[simp] theorem State.wr8_pwr (a : Nat) (b : Byte) : (s.wr8 a b).pwr = s.pwr := rfl
@[simp] theorem State.wr8_doms (a : Nat) (b : Byte) : (s.wr8 a b).doms = s.doms := rfl
@[simp] theorem State.wr8_loops (a : Nat) (b : Byte) : (s.wr8 a b).loops = s.loops := rfl
@[simp] theorem State.wr8_coefs (a : Nat) (b : Byte) : (s.wr8 a b).coefs = s.coefs := rfl
@[simp] theorem State.wr8_prfs (a : Nat) (b : Byte) : (s.wr8 a b).prfs = s.prfs := rfl
@[simp] theorem State.wr8_lanes (a : Nat) (b : Byte) : (s.wr8 a b).lanes = s.lanes := rfl
@[simp] theorem State.wr8_phases (a : Nat) (b : Byte) : (s.wr8 a b).phases = s.phases := rfl
@[simp] theorem State.wr8_quants (a : Nat) (b : Byte) : (s.wr8 a b).quants = s.quants := rfl
@[simp] theorem State.wr8_balls (a : Nat) (b : Byte) : (s.wr8 a b).balls = s.balls := rfl
@[simp] theorem State.wr8_mon (a : Nat) (b : Byte) : (s.wr8 a b).mon = s.mon := rfl
@[simp] theorem State.wr8_fls (a : Nat) (b : Byte) : (s.wr8 a b).fls = s.fls := rfl
@[simp] theorem State.wr8_eng (a : Nat) (b : Byte) : (s.wr8 a b).eng = s.eng := rfl
@[simp] theorem State.wr8_ens (a : Nat) (b : Byte) : (s.wr8 a b).ens = s.ens := rfl
@[simp] theorem State.wr8_img (a : Nat) (b : Byte) : (s.wr8 a b).img = s.img := rfl
@[simp] theorem State.wr8_adc (a : Nat) (b : Byte) : (s.wr8 a b).adc = s.adc := rfl
@[simp] theorem State.wr8_thm (a : Nat) (b : Byte) : (s.wr8 a b).thm = s.thm := rfl
@[simp] theorem State.wr8_net (a : Nat) (b : Byte) : (s.wr8 a b).net = s.net := rfl
@[simp] theorem State.wr8_tdms (a : Nat) (b : Byte) : (s.wr8 a b).tdms = s.tdms := rfl
@[simp] theorem State.wr8_dsu (a : Nat) (b : Byte) : (s.wr8 a b).dsu = s.dsu := rfl
@[simp] theorem State.wr8_freeCtr (a : Nat) (b : Byte) : (s.wr8 a b).freeCtr = s.freeCtr := rfl
@[simp] theorem State.wr8_pending (a : Nat) (b : Byte) : (s.wr8 a b).pending = s.pending := rfl

end Sys2Proof.Machine
end

