-- ==== Sys2Proof/Laws/Frame.lean ====
section
/-! SUPPORT. Frames: how "only these fields differ" composes, and once for all callers what raising an event can change. -/

namespace Sys2Proof.Machine

/-! ### Registers and fields -/

theorem State.onlyFields_refl (s : State) (l : List Fld) : s.onlyFields s l := fun _ _ _ => rfl

theorem State.onlyFields_mono {s t : State} {l m : List Fld} (h : s.onlyFields t l) (hm : ∀ f ∈ l, f ∈ m) : s.onlyFields t m :=
  fun a i hf => h a i fun f hl => hf f (hm f hl)

theorem State.onlyFields_trans {s t u : State} {l m : List Fld} (h : s.onlyFields t l) (k : t.onlyFields u m) : s.onlyFields u (l ++ m) :=
  fun a i hf => (k a i fun f hm => hf f (List.mem_append_right l hm)).trans (h a i fun f hl => hf f (List.mem_append_left m hl))

/-- Two changes within the same fields. -/
theorem State.onlyFields_trans_same {s t u : State} {l : List Fld} (h : s.onlyFields t l) (k : t.onlyFields u l) : s.onlyFields u l :=
  State.onlyFields_mono (State.onlyFields_trans h k) fun f hf => by simpa using hf

/-- A change of the rest of the state leaves the registers. -/
theorem State.onlyFields_of_regs {s t : State} (l : List Fld) (h : t.regs = s.regs) : s.onlyFields t l := fun a i _ => by
  simp only [State.reg, h]

/-- A field written differs in its own bits alone. -/
theorem State.onlyFields_set (s : State) (f : Fld) (v : Nat) : s.onlyFields (s.set f v) [f] := by
  intro a i hf
  by_cases ha : a = f.addr
  · subst ha
    by_cases hi : i < 32
    · rw [State.reg_set_same, getLsbD_fldPut _ _ _ _ hi, if_neg]
      intro hc
      exact hf f (List.mem_singleton.2 rfl) ⟨rfl, hc.1, by omega⟩
    · rw [BitVec.getLsbD_of_ge _ _ (by omega), BitVec.getLsbD_of_ge _ _ (by omega)]
  · rw [State.reg_set_other s f v ha]

theorem State.onlyFields_setB (s : State) (f : Fld) (b : Bool) : s.onlyFields (s.setB f b) [f] := State.onlyFields_set s f _
theorem State.onlyFields_setI (s : State) (f : Fld) (i : Nat) (b : Bool) : s.onlyFields (s.setI f i b) [f] := State.onlyFields_set s f _
theorem State.onlyFields_incSat (s : State) (f : Fld) : s.onlyFields (s.incSat f) [f] := State.onlyFields_set s f _
theorem State.onlyFields_incWrap (s : State) (f : Fld) : s.onlyFields (s.incWrap f) [f] := State.onlyFields_set s f _

/-- A field of which no bit lies in the fields listed keeps its value. -/
theorem State.onlyFields_get {s t : State} {l : List Fld} (h : s.onlyFields t l) (g : Fld)
    (hg : ∀ f ∈ l, f.addr ≠ g.addr ∨ g.hi < f.lo ∨ f.hi < g.lo) : t.get g = s.get g := by
  unfold State.get fldOf
  apply Nat.eq_of_testBit_eq
  intro j
  rw [testBit_bitsAt, testBit_bitsAt]
  by_cases hj : j < g.hi + 1 - g.lo
  · have e := h g.addr (g.lo + j) (by
      intro f hf hc
      rcases hg f hf with h1 | h1 | h1
      · exact h1 hc.1
      · omega
      · omega)
    rw [← BitVec.testBit_toNat, ← BitVec.testBit_toNat] at e
    rw [e]
  · simp [hj]

/-! ### What differs beside the registers -/

theorem State.onlyRegsDiffer_refl (s : State) : s.onlyRegsDiffer s := rfl
theorem State.onlyRegsFlsDiffer_refl (s : State) : s.onlyRegsFlsDiffer s := rfl

theorem State.onlyRegsDiffer_set (s : State) (f : Fld) (v : Nat) : s.onlyRegsDiffer (s.set f v) := rfl

theorem State.onlyRegsFlsDiffer_trans {s t u : State} (h : s.onlyRegsFlsDiffer t) (k : t.onlyRegsFlsDiffer u) : s.onlyRegsFlsDiffer u := by
  unfold State.onlyRegsFlsDiffer at *
  rw [k, h]

theorem State.onlyRegsDiffer.fls {s t : State} (h : s.onlyRegsDiffer t) : s.onlyRegsFlsDiffer t := by
  unfold State.onlyRegsDiffer at h
  unfold State.onlyRegsFlsDiffer
  rw [h]

theorem State.onlyRegsFlsDiffer_set (s : State) (f : Fld) (v : Nat) : s.onlyRegsFlsDiffer (s.set f v) := rfl
theorem State.onlyRegsFlsDiffer_modFls (s : State) (f : Fls → Fls) : s.onlyRegsFlsDiffer (s.modFls f) := rfl

/-! ### Events -/

/-- A record that arrives at the staging queue changes the recorder and the two fields of a full queue (15_drip_and_flowstone.md R336). -/
theorem State.stage_frame (s : State) (r : FRec) : s.onlyRegsFlsDiffer (s.stage r) ∧ s.onlyFields (s.stage r) evFields := by
  unfold State.stage
  dsimp only
  split
  · exact ⟨rfl, State.onlyFields_of_regs _ rfl⟩
  · refine ⟨rfl, ?_⟩
    refine State.onlyFields_mono (l := [] ++ [R.FLS_CNT.DROPSTG] ++ [R.FLS_STAT.STGOVF]) ?_ (by decide)
    exact State.onlyFields_trans (State.onlyFields_trans (State.onlyFields_of_regs [] rfl) (State.onlyFields_incSat _ _))
      (State.onlyFields_setB _ _ _)

/-- Everything that raising an event can change: the recorder, and the three fields that say a record was dropped or suppressed
(15 R334 to R336). -/
theorem State.raiseAt_frame (s : State) (ts code sev : Nat) (data : List Byte) :
    s.onlyRegsFlsDiffer (s.raiseAt ts code sev data) ∧ s.onlyFields (s.raiseAt ts code sev data) evFields := by
  have hb : ∀ (b : Bucket) (r : FRec), s.onlyRegsFlsDiffer ((s.setBucket code b).stage r) ∧
      s.onlyFields ((s.setBucket code b).stage r) evFields := fun b r =>
    ⟨State.onlyRegsFlsDiffer_trans (s.onlyRegsFlsDiffer_modFls _) (State.stage_frame _ r).1,
      State.onlyFields_trans_same (State.onlyFields_of_regs _ (State.modFls_regs s _)) (State.stage_frame _ r).2⟩
  have hs : ∀ (f g : Fls → Fls), s.onlyRegsFlsDiffer (((s.modFls f).modFls g).setB R.FLS_STAT.SUPP true) ∧
      s.onlyFields (((s.modFls f).modFls g).setB R.FLS_STAT.SUPP true) evFields := fun f g =>
    ⟨rfl, State.onlyFields_mono (l := [] ++ [R.FLS_STAT.SUPP])
      (State.onlyFields_trans (State.onlyFields_of_regs [] rfl) (State.onlyFields_setB _ _ _)) (by decide)⟩
  unfold State.raiseAt
  dsimp only
  generalize (match s.evtEntry code with
    | some e => e.dis && sev != 3
    | none => false) = dis
  split_ifs
  · exact ⟨s.onlyRegsFlsDiffer_refl, State.onlyFields_refl _ _⟩
  · exact hb _ _
  · exact hs _ _
  · exact hb _ _
  · exact hb _ _

/-- The time stamp of an event that crosses to the recorder counts one free value and changes nothing else (02 R35). -/
theorem State.nowFree_frame (s : State) :
    s.onlyRegsFlsDiffer s.nowFree.2 ∧ s.nowFree.2.regs = s.regs ∧ s.nowFree.2.fls = s.fls := ⟨rfl, rfl, rfl⟩

theorem State.raise_frame (s : State) (code sev : Nat) (data : List Byte) :
    s.onlyRegsFlsDiffer (s.raise code sev data) ∧ s.onlyFields (s.raise code sev data) evFields := by
  unfold State.raise
  split
  · have h := State.raiseAt_frame s.nowFree.2 s.nowFree.1 code sev data
    exact ⟨State.onlyRegsFlsDiffer_trans s.nowFree_frame.1 h.1,
      State.onlyFields_trans_same (State.onlyFields_of_regs _ s.nowFree_frame.2.1) h.2⟩
  · exact State.raiseAt_frame s s.now code sev data

/-- A field that no event writes keeps its value when an event is raised. -/
theorem State.get_raise (s : State) (code sev : Nat) (data : List Byte) (g : Fld)
    (hg : ∀ f ∈ evFields, f.addr ≠ g.addr ∨ g.hi < f.lo ∨ f.hi < g.lo) : (s.raise code sev data).get g = s.get g :=
  State.onlyFields_get (State.raise_frame s code sev data).2 g hg

/-! ### What an event leaves, field by field -/

section raise
variable (s : State) (code sev : Nat) (data : List Byte)

@[simp] theorem State.raise_fuse : (s.raise code sev data).fuse = s.fuse := by rw [(State.raise_frame s code sev data).1]
@[simp] theorem State.raise_mem : (s.raise code sev data).mem = s.mem := by rw [(State.raise_frame s code sev data).1]
@[simp] theorem State.raise_tb : (s.raise code sev data).tb = s.tb := by rw [(State.raise_frame s code sev data).1]
@[simp] theorem State.raise_sys : (s.raise code sev data).sys = s.sys := by rw [(State.raise_frame s code sev data).1]
@[simp] theorem State.raise_pwr : (s.raise code sev data).pwr = s.pwr := by rw [(State.raise_frame s code sev data).1]
@[simp] theorem State.raise_doms : (s.raise code sev data).doms = s.doms := by rw [(State.raise_frame s code sev data).1]
@[simp] theorem State.raise_loops : (s.raise code sev data).loops = s.loops := by rw [(State.raise_frame s code sev data).1]
@[simp] theorem State.raise_coefs : (s.raise code sev data).coefs = s.coefs := by rw [(State.raise_frame s code sev data).1]
@[simp] theorem State.raise_prfs : (s.raise code sev data).prfs = s.prfs := by rw [(State.raise_frame s code sev data).1]
@[simp] theorem State.raise_lanes : (s.raise code sev data).lanes = s.lanes := by rw [(State.raise_frame s code sev data).1]
@[simp] theorem State.raise_phases : (s.raise code sev data).phases = s.phases := by rw [(State.raise_frame s code sev data).1]
@[simp] theorem State.raise_quants : (s.raise code sev data).quants = s.quants := by rw [(State.raise_frame s code sev data).1]
@[simp] theorem State.raise_balls : (s.raise code sev data).balls = s.balls := by rw [(State.raise_frame s code sev data).1]
@[simp] theorem State.raise_mon : (s.raise code sev data).mon = s.mon := by rw [(State.raise_frame s code sev data).1]
@[simp] theorem State.raise_eng : (s.raise code sev data).eng = s.eng := by rw [(State.raise_frame s code sev data).1]
@[simp] theorem State.raise_ens : (s.raise code sev data).ens = s.ens := by rw [(State.raise_frame s code sev data).1]
@[simp] theorem State.raise_img : (s.raise code sev data).img = s.img := by rw [(State.raise_frame s code sev data).1]
@[simp] theorem State.raise_adc : (s.raise code sev data).adc = s.adc := by rw [(State.raise_frame s code sev data).1]
@[simp] theorem State.raise_thm : (s.raise code sev data).thm = s.thm := by rw [(State.raise_frame s code sev data).1]
@[simp] theorem State.raise_net : (s.raise code sev data).net = s.net := by rw [(State.raise_frame s code sev data).1]
@[simp] theorem State.raise_tdms : (s.raise code sev data).tdms = s.tdms := by rw [(State.raise_frame s code sev data).1]
@[simp] theorem State.raise_dsu : (s.raise code sev data).dsu = s.dsu := by rw [(State.raise_frame s code sev data).1]
@[simp] theorem State.raise_pending : (s.raise code sev data).pending = s.pending := by rw [(State.raise_frame s code sev data).1]

end raise

/-! ### The step -/

/-- On an empty queue the block lets one tick pass (log 1). -/
theorem step_idle (s : State) (h : s.pending = []) : step s = .next s.tick := by
  simp [step, h]

/-- With a command in front the step is that command on the queue's rest. -/
theorem step_front (s : State) (c : Instr) (l : List Instr) (h : s.pending = c :: l) : step s = exec c { s with pending := l } := by
  simp [step, h, State.dropFront]

end Sys2Proof.Machine
end

