-- ==== Sys2Proof/Laws/Shared.lean ====
section
/-! SUPPORT. What the shared operations of the engines and of the diagnostic service answer, once for all their callers. -/

namespace Sys2Proof.Machine

/-! ### Engines -/

/-- An instruction that a context issues does its work there (09_zuelm_engines_and_gallery.md R203 to R205). -/
theorem State.engine_issues {s : State} {e x op : Nat} {f : Iw} (h : s.issues e x f) (ho : f.op = op) (work : Nat → Iw → EOut) :
    s.engine e op work = (work x f).finish e x := by
  obtain ⟨h1, h2, h3, h4⟩ := h
  simp [State.engine, h1, h2, h3, ho, Nat.not_le.2 h4]

/-- Where no context issues, the instruction changes nothing. -/
theorem State.engine_none {s : State} {e : Nat} (h : s.issuing e = none) (op : Nat) (work : Nat → Iw → EOut) :
    s.engine e op work = .next s := by
  simp [State.engine, h]

/-- An instruction that a context issues and that changes that context alone. -/
theorem State.engineCtx_issues {s : State} {e x op : Nat} {f : Iw} (h : s.issues e x f) (ho : f.op = op) (work : Iw → Ctx → Ctx) :
    s.engineCtx e op work = .next (s.modCtx e x fun c => (work f c).retire) := by
  rw [State.engineCtx, State.engine_issues h ho]; rfl

theorem State.ctx_modCtx_same (s : State) (e x : Nat) (f : Ctx → Ctx) : (s.modCtx e x f).ctx e x = f (s.ctx e x) := by
  simp [State.ctx, State.modCtx, State.modEng]

theorem State.ctx_modCtx_other (s : State) {e x e' x' : Nat} (f : Ctx → Ctx) (hx : x < 3) (hx' : x' < 3) (h : ¬(e' = e ∧ x' = x)) :
    (s.modCtx e x f).ctx e' x' = s.ctx e' x' := by
  simp only [State.ctx, State.modCtx, State.modEng]
  exact tblGet_tblMod_other _ _ _ (by omega)

/-- A change of one context leaves every other and the rest of the state. -/
theorem State.onlyCtx_modCtx (s : State) {e x : Nat} (f : Ctx → Ctx) (hx : x < 3) : s.onlyCtx (s.modCtx e x f) e x :=
  ⟨rfl, fun _ _ hx' h => State.ctx_modCtx_other s f hx hx' h⟩

/-- Going on in order keeps registers, accumulators and flags, and advances (09 R208). -/
theorem Ctx.retire_spec (c : Ctx) : c.sameData c.retire ∧ c.advances c.retire := by
  simp [Ctx.sameData, Ctx.sameFlags, Ctx.advances, Ctx.retire, Ctx.after]

theorem Ctx.reg_setReg_same (c : Ctx) (r : Nat) (w : Word) : (c.setReg r w).reg r = w := by
  simp [Ctx.reg, Ctx.setReg]

theorem Ctx.reg_setReg_other (c : Ctx) {r k : Nat} (w : Word) (h : k % 16 ≠ r % 16) : (c.setReg r w).reg k = c.reg k := by
  simp [Ctx.reg, Ctx.setReg, tblGet_tblSet, h]

theorem Ctx.regsBecome_setReg (c : Ctx) (r : Nat) (w : Word) : c.regsBecome (c.setReg r w) r w :=
  ⟨Ctx.reg_setReg_same c r w, fun _ h => Ctx.reg_setReg_other c w h⟩

/-! ### Messages of the diagnostic service -/

/-- A message sent is the response, with what a first frame leaves still to go (16_service_and_vehicle_bus.md R352, R353). -/
theorem State.send_replies (s : State) (q : ReqKind) (m : List Byte) : (s.send q.fd m).replies q m := ⟨rfl, rfl, rfl, rfl⟩

theorem State.positive_replies (s : State) (q : ReqKind) (sid : Nat) (m : List Byte) (h : m.length ≤ 4094) :
    (s.positive q sid m).replies q (BitVec.ofNat 8 (sid + 0x40) :: m) := by
  rw [State.positive, if_neg (by omega)]
  exact State.send_replies s q _

/-- A positive response changes the diagnostic unit alone. -/
theorem State.positive_frame (s : State) (q : ReqKind) (sid : Nat) (m : List Byte) (h : m.length ≤ 4094) :
    s.positive q sid m = { s with dsu := (s.positive q sid m).dsu } := by
  rw [State.positive, if_neg (by omega)]; rfl

theorem State.positiveSub_replies (s : State) (q : ReqKind) (sid : Nat) (m : List Byte) (h : m.length ≤ 4094) :
    (s.positiveSub q sid m).repliesSub q (BitVec.ofNat 8 (sid + 0x40) :: m) := by
  unfold State.positiveSub State.repliesSub
  split
  · exact ⟨rfl, rfl, rfl, rfl⟩
  · exact State.positive_replies s q sid m h

theorem State.positiveSub_frame (s : State) (q : ReqKind) (sid : Nat) (m : List Byte) (h : m.length ≤ 4094) :
    s.positiveSub q sid m = { s with dsu := (s.positiveSub q sid m).dsu } := by
  unfold State.positiveSub
  split
  · rfl
  · exact State.positive_frame s q sid m h

/-- A negative response is sent, or suppressed, as R353 says. -/
theorem State.negative_refuses (s : State) (q : ReqKind) (sid nrc : Nat) (h : nrc < 256) :
    (s.negative q sid nrc).refuses q sid nrc := by
  unfold State.negative State.refuses
  by_cases hq : q.functional = true ∧ (nrc = 0x11 ∨ nrc = 0x12 ∨ nrc = 0x31 ∨ nrc = 0x7E)
  · rw [if_pos hq, if_pos (by simpa [or_assoc] using hq)]
    exact ⟨rfl, rfl, rfl, rfl⟩
  · rw [if_neg hq, if_neg (by simpa [and_assoc] using hq)]
    refine ⟨?_, State.send_replies _ q _⟩
    have e : ((s.set R.DSU_STAT.LASTNRC nrc).send q.fd [0x7F, BitVec.ofNat 8 sid, BitVec.ofNat 8 nrc]).get R.DSU_STAT.LASTNRC =
        (s.set R.DSU_STAT.LASTNRC nrc).get R.DSU_STAT.LASTNRC := rfl
    rw [e, State.get_set_same _ _ _ (by decide)]
    exact Nat.mod_eq_of_lt h

/-- A negative response changes the diagnostic unit and LASTNRC alone (16 R370). -/
theorem State.negative_frame (s : State) (q : ReqKind) (sid nrc : Nat) : s.onlyDsu (s.negative q sid nrc) := by
  unfold State.negative State.onlyDsu
  split
  · exact ⟨State.onlyFields_of_regs _ rfl, rfl⟩
  · refine ⟨?_, rfl⟩
    exact State.onlyFields_set s R.DSU_STAT.LASTNRC nrc

/-! ### Requests -/

/-- The state in which the work of a taken request begins: a reception in progress has ended (16 R352). -/
def State.heard (s : State) : State := s.modDsu fun x => { x with rx := none }

/-- What the port asks of a request that it takes (16 R352, R353, R369). -/
theorem State.takes.taken {s : State} {q : ReqKind} {n : Nat} (h : s.takes q n) :
    (!s.reqOn || !s.frameTaken q || (q.functional && decide (sfMax q.fd < n))) = false := by
  obtain ⟨h1, h0, h2, h3⟩ := h
  have h4 : s.frameTaken q = true := by
    cases hq : q.fd
    · simp [State.frameTaken, h0, hq]
    · simp [State.frameTaken, h0, h2 hq]
  rcases h3 with h3 | h3
  · simp [h1, h3, h4]
  · simp [h1, h4, Nat.not_lt.2 h3]

/-- A taken request in a session of its service, with the security it asks for, does its work (16 R355). -/
theorem State.service_works {s : State} {q : ReqKind} {n : Nat} (h : s.takes q n) (sid : Nat) {sessions : List Nat} {sec : Bool}
    (hs : s.get R.DSU_STAT.SESS ∈ sessions) (hc : sec = true → s.bit R.DSU_STAT.SEC = true) (work : State → State) :
    s.service q sid n sessions sec work = work s.heard := by
  have h3 := h.taken
  have e1 : (s.modDsu fun x => { x with rx := none }).get R.DSU_STAT.SESS = s.get R.DSU_STAT.SESS := rfl
  have e2 : (s.modDsu fun x => { x with rx := none }).bit R.DSU_STAT.SEC = s.bit R.DSU_STAT.SEC := rfl
  unfold State.service
  rw [if_neg (by simp [h3])]
  dsimp only
  rw [e1, e2, if_neg (by simpa using hs), if_neg (by cases sec <;> simp_all)]
  rfl

/-- Outside the sessions of its service a taken request answers 0x7F (16 R355). -/
theorem State.service_wrongSession {s : State} {q : ReqKind} {n : Nat} (h : s.takes q n) (sid : Nat) {sessions : List Nat} (sec : Bool)
    (hs : s.get R.DSU_STAT.SESS ∉ sessions) (work : State → State) :
    s.service q sid n sessions sec work = s.heard.negative q sid 0x7F := by
  have h3 := h.taken
  have e1 : (s.modDsu fun x => { x with rx := none }).get R.DSU_STAT.SESS = s.get R.DSU_STAT.SESS := rfl
  unfold State.service
  rw [if_neg (by simp [h3])]
  dsimp only
  rw [e1, if_pos (by simpa using hs)]
  rfl

/-- Without the security that its service asks for a taken request answers 0x33 (16 R355, R356). -/
theorem State.service_locked {s : State} {q : ReqKind} {n : Nat} (h : s.takes q n) (sid : Nat) {sessions : List Nat}
    (hs : s.get R.DSU_STAT.SESS ∈ sessions) (hc : s.bit R.DSU_STAT.SEC = false) (work : State → State) :
    s.service q sid n sessions true work = s.heard.negative q sid 0x33 := by
  have h3 := h.taken
  have e1 : (s.modDsu fun x => { x with rx := none }).get R.DSU_STAT.SESS = s.get R.DSU_STAT.SESS := rfl
  have e2 : (s.modDsu fun x => { x with rx := none }).bit R.DSU_STAT.SEC = s.bit R.DSU_STAT.SEC := rfl
  unfold State.service
  rw [if_neg (by simp [h3])]
  dsimp only
  rw [e1, e2, if_neg (by simpa using hs), if_pos (by simp [hc])]
  rfl

/-- A request that the port does not take changes nothing. -/
theorem State.service_off {s : State} {q : ReqKind} (h : s.reqOn = false ∨ s.frameTaken q = false) (sid n : Nat) (sessions : List Nat) (sec : Bool)
    (work : State → State) : s.service q sid n sessions sec work = s := by
  rcases h with h | h <;> simp [State.service, h]

/-! ### Gallery -/

/-- Words that a queue writes land where the ECC holds no error: the bytes of each in turn; beside them only the rotation pointers of
the banks move (09 R211, R212). -/
theorem State.galWords_plain (ws : List Word) : ∀ (s : State) (m a : Nat), (∀ k : Nat, s.eccAt k = 0) →
    ∃ r : Tbl Nat, s.galWords m a ws =
      { s with mem := (s.wrBytes a (ws.flatMap fun w => le 4 w.toNat)).mem, eng := { s.eng with rhoBank := r } } := by
  have hw : ∀ (l : List Byte) (s : State) (a : Nat), s.wrBytes a l = { s with mem := (s.wrBytes a l).mem } := by
    intro l
    induction l with
    | nil => intro s a; rfl
    | cons b t ih => intro s a; rw [State.wrBytes, ih]; rfl
  have hm : ∀ (l : List Byte) (s u : State) (a : Nat), s.mem = u.mem → (s.wrBytes a l).mem = (u.wrBytes a l).mem := by
    intro l
    induction l with
    | nil => intro s u a h; exact h
    | cons b t ih => intro s u a h; exact ih _ _ _ (by simp [State.wr8, h])
  have hap : ∀ (l k : List Byte) (s : State) (a : Nat), s.wrBytes a (l ++ k) = (s.wrBytes a l).wrBytes (a + l.length) k := by
    intro l
    induction l with
    | nil => intro k s a; rfl
    | cons b t ih =>
      intro k s a
      simp only [List.cons_append, State.wrBytes, ih, List.length_cons]
      rw [Nat.add_assoc, Nat.add_comm 1]
  have hg : ∀ (s : State) (a m : Nat), ∃ r : Tbl Nat, s.galGrant a m = { s with eng := { s.eng with rhoBank := r } } := by
    intro s a m
    unfold State.galGrant
    dsimp only
    split
    · split
      · exact ⟨_, rfl⟩
      · exact ⟨s.eng.rhoBank, rfl⟩
    · exact ⟨s.eng.rhoBank, rfl⟩
  induction ws with
  | nil => intro s m a _; exact ⟨s.eng.rhoBank, rfl⟩
  | cons w t ih =>
    intro s m a h
    obtain ⟨r, hr⟩ := hg s a m
    have e : (s.memWr32 m a w.toNat).1 = (s.galGrant a m).wr32 a w.toNat := by simp [State.memWr32, h a]
    have e' : (s.galGrant a m).wr32 a w.toNat =
        { s with mem := (s.wrBytes a (le 4 w.toNat)).mem, eng := { s.eng with rhoBank := r } } := by
      rw [State.wr32, hw _ (s.galGrant a m), hm _ (s.galGrant a m) s a (by rw [hr]), hr]
    obtain ⟨r', hr'⟩ := ih ((s.memWr32 m a w.toNat).1) m (a + 4) (fun k => by rw [e, e']; exact h k)
    refine ⟨r', ?_⟩
    rw [State.galWords, hr', List.flatMap_cons, hap, e, e']
    have hl : (le 4 w.toNat).length = 4 := rfl
    rw [hl, hm _ (s.wrBytes a (le 4 w.toNat)) { s with mem := (s.wrBytes a (le 4 w.toNat)).mem, eng := { s.eng with rhoBank := r } } (a + 4) rfl]

end Sys2Proof.Machine
end

