-- ==== Sys2Proof/Machine/BallMap.lean ====
section
/-! DEFINITION. The ball map: which signal or supply stands at each of the 256 balls (17_balls.md R372, R373). -/

namespace Sys2Proof.Machine

/-- The rows of the map, columns 1 to 16 from left to right (17 R372). -/
def ballRows : List (String × List String) :=
  [("A", ["AFB00P", "AFB00N", "ISP00", "VRP0", "VDDA", "T1_BIAS", "T1_P", "T1_N", "VDDPHY", "VSS", "XTAL_I", "XTAL_O",
     "MCLK_OUT", "nDRVEN0", "APWM00P", "APWM00N"])] ++
  [("B", ["AFB01P", "AFB01N", "ISP01", "VRN0", "AGND", "VSS", "VSS", "VSS", "VDDPHY", "VSS", "VSS", "VDDIO", "VSS", "nFLT0",
     "APWM01P", "APWM01N"])] ++
  [("C", ["AFB02P", "AFB02N", "ISP02", "NTC0", "AGND", "CAN_TX", "CAN_RX", "CAN_STB", "VSS", "VDDIO", "TDMA_BCLK", "TDMA_FS",
     "VSS", "nFLT1", "APWM02P", "APWM02N"])] ++
  [("D", ["AFB03P", "AFB03N", "ISP03", "VREFP", "VREFO", "TDMA_D0", "TDMA_D1", "VSS", "VDDC", "VDDC", "VSS", "TDMB_BCLK",
     "TDMB_FS", "VDDIO", "APWM03P", "APWM03N"])] ++
  [("E", ["AFB04P", "AFB04N", "ISP10", "VREFN", "AGND", "TDMB_DI", "TDMB_DO", "VDDC", "VSS", "VSS", "VDDC", "VSS", "QSPI_CSN",
     "nDRVEN1", "APWM04P", "APWM04N"])] ++
  [("F", ["AFB05P", "AFB05N", "ISP11", "VRP1", "VDDA", "QSPI_SCK", "QSPI_IO0", "VSS", "VDDC", "VDDC", "VSS", "QSPI_IO1",
     "QSPI_IO2", "nFLT2", "APWM05P", "APWM05N"])] ++
  [("G", ["AFB06P", "AFB06N", "ISP12", "VRN1", "AGND", "QSPI_IO3", "VSS", "VDDC", "VSS", "VSS", "VDDC", "VSS", "WEFT_IN_P",
     "nFLT3", "APWM06P", "APWM06N"])] ++
  [("H", ["AFB07P", "AFB07N", "ISP13", "NTC1", "VSS", "WEFT_IN_N", "VSS", "VDDC", "VSS", "VSS", "VDDC", "VSS", "WEFT_OUT_P",
     "VDDIO", "APWM07P", "APWM07N"])] ++
  [("J", ["AFB08P", "AFB08N", "ISP20", "VRP2", "AGND", "WEFT_OUT_N", "VSS", "VDDC", "VDDC", "VSS", "VSS", "TCK", "TMS",
     "nDRVEN2", "APWM08P", "APWM08N"])] ++
  [("K", ["AFB09P", "AFB09N", "ISP21", "VRN2", "VDDA", "TDI", "TDO", "TESTEN", "VSS", "VSS", "nRESET", "nRSTOUT", "WAKE",
     "nFLT4", "APWM09P", "APWM09N"])] ++
  [("L", ["AFB10P", "AFB10N", "ISP22", "NTC2", "AGND", "nMUTE", "nFAULT", "PGOOD_X", "REM_OUT", "VAUX_EN", "VSS", "VAON_CAP",
     "VHOLD", "nFLT5", "APWM10P", "APWM10N"])] ++
  [("M", ["AFB11P", "AFB11N", "ISP23", "VBS_P", "VSS", "VBAT", "VBAT", "VSS", "VAUX", "VAUX", "VAUX", "VSS", "VSS", "VDDIO",
     "APWM11P", "APWM11N"])] ++
  [("N", ["AFB12P", "AFB12N", "ISP30", "VBS_N", "AGND", "SPWM00A", "SPWM00B", "SPWM01A", "SPWM01B", "SPWM02A", "SPWM02B",
     "SPWM03A", "SPWM03B", "nDRVEN3", "APWM12P", "APWM12N"])] ++
  [("P", ["AFB13P", "AFB13N", "ISP31", "VRP3", "VDDA", "SPWM10A", "SPWM10B", "SPWM11A", "SPWM11B", "SPWM12A", "SPWM12B",
     "SPWM13A", "SPWM13B", "nFLT6", "APWM13P", "APWM13N"])] ++
  [("T", ["AFB14P", "AFB14N", "ISP32", "VRN3", "AGND", "SPWM20A", "SPWM20B", "SPWM21A", "SPWM21B", "SPWM22A", "SPWM22B",
     "SPWM23A", "SPWM23B", "nFLT7", "APWM14P", "APWM14N"])] ++
  [("U", ["AFB15P", "AFB15N", "ISP33", "NTC3", "VSS", "SPWM30A", "SPWM30B", "SPWM31A", "SPWM31B", "SPWM32A", "SPWM32B",
     "SPWM33A", "SPWM33B", "VDDIO", "APWM15P", "APWM15N"])]

/-- The signal or supply at a row and a column (17 R372). -/
def ballAt (row : String) (col : Nat) : Option String :=
  (ballRows.find? fun r => r.1 == row).bind fun r => r.2[col - 1]?

/-- The row of a channel: rows are numbered as their letters stand (17 R372, R373). -/
def rowOf (c : Nat) : String := ((ballRows[c]?).map (·.1)).getD ""

/-- Two decimal digits. -/
def dig2 (c : Nat) : String := (if c < 10 then "0" else "") ++ toString c

/-- The balls of channel c: its sense pair in columns 1 and 2 and its gate pair in columns 15 and 16 (17 R373). -/
def channelBalls (c : Nat) : List (Nat × String) :=
  [(1, "AFB" ++ dig2 c ++ "P"), (2, "AFB" ++ dig2 c ++ "N"), (15, "APWM" ++ dig2 c ++ "P"), (16, "APWM" ++ dig2 c ++ "N")]

end Sys2Proof.Machine
end

