-- ==== Sys2Proof/Tests/Slice0.lean ====
section
/-! SUPPORT. Tests: a witness for the hypotheses of each obligation, an ill-formed term for each check of WellFormed, and the worked
examples of the spec. Expected values come from the spec's text, never from a run of the model. -/

namespace Sys2Proof.Tests

set_option Elab.async false

open Sys2Proof Sys2Proof.Machine

/-- A device whose core runs in a mode, with VAUX good and TB_NOW running. -/
def up (m : Mode) : State :=
  { sys := { mode := m, past := true },
    pwr := { coreUp := true, vbat := true, vauxEn := true, vauxGood := true, pfd := false },
    tb := { run := true, now := 4000 } }

/-! ### Witnesses: states and operands that meet the hypotheses of each clause -/

theorem witness_IdleStepIsOneTick : (up .play).pending = [] := by decide

theorem witness_PowerOnAndPowerLoss : State.reset.pwr.vbat = false ∧ (up .play).pwr.vbat = true := by decide

/-- STANDBY with VBAT. -/
def standby : State := { sys := { mode := .standby }, pwr := { vbat := true } }

theorem witness_WakeRequestsStartAndEnd :
    (standby.pwr.vbat = true ∧ standby.sys.mode = .standby ∧ standby.sys.wakeCycle = false ∧ standby.pwr.nrstHeld = false) ∧
    ((up .play).pwr.vbat = true ∧ (up .play).sys.mode ≠ .standby) ∧
    ¬((up .play).sys.mode = .hold ∧ ((up .play).sys.noImage = true ∨ (up .play).sys.deadHold = true)) ∧
    (let s : State := { up .hold with sys := { mode := .hold, noImage := true } };
      s.sys.mode = .hold ∧ (s.sys.noImage = true ∨ s.sys.deadHold = true) ∧ s.pwr.supplyHeld = false) := by decide

theorem witness_KeepAndSleepDriveVauxEnable :
    (let s := (up .play).set R.PWR_CFG.SLPDLY 1;
      s.coreRuns = true ∧ s.pwr.vauxEn = true ∧ s.wakeReq = false ∧ s.fromWake = true ∧ s.sys.mode ≠ .wake ∧
        s.get R.PWR_CFG.SLPDLY ≠ 0) ∧
    ((up .wake).sys.mode = .wake ∧ (up .wake).pwr.nrstHeld = false ∧ (up .wake).pwr.supplyHeld = false) := by decide +kernel

theorem witness_ResetsRecordTheirCause :
    ((up .wake).fromWake = true ∧ (up .wake).pwr.supplyHeld = false) ∧ standby.fromWake = false ∧ (up .play).coreRuns = true ∧
    standby.pwr.nrstHeld = false ∧ standby.coreRuns = false ∧
    (((up .wake).modPwr fun p => { p with nrstHeld := true }).pwr.nrstHeld = true ∧ (up .wake).sys.mode = .wake) ∧
    (let s := standby.modPwr fun p => { p with nrstHeld := true, wakeBall := true };
      s.pwr.nrstHeld = true ∧ s.sys.mode = .standby ∧ s.pwr.wakeBall = true ∧ s.sys.wakeCycle = false) ∧
    ¬(standby.sys.mode = .standby ∧ standby.pwr.wakeBall = true ∧ standby.sys.wakeCycle = false) := by
  decide

theorem witness_VauxEventsInhibitAndRelease :
    (standby.pwr.vbat = true ∧ standby.pwr.vauxGood = false) ∧
    ((up .play).pwr.vauxGood = true ∧ (up .play).pwr.inh = false ∧ (up .play).pwr.coreUp = true) ∧ standby.pwr.pfd = true := by
  decide

theorem witness_PowerFailAndSupplyFaultReleaseTheBalls :
    ((up .play).pwr.vbat = true ∧ (up .play).pwr.pfd = false ∧ (up .play).fromWake = true) ∧
    ((up .play).coreRuns = true ∧ (16 : BitVec 5) ≠ 0) ∧ standby.coreRuns = false := by decide

/-- WAKE with the supplies good and the core still down. -/
def waking : State := { up .wake with pwr := { vbat := true, vauxEn := true, vauxGood := true, pfd := false } }

/-- A field of each domain set. -/
def setEach (s : State) (f : Nat → Fld) (v : Nat) : State := (List.range 4).foldl (fun t d => t.set (f d) v) s

/-- WAKE with everything done that LOAD waits for. -/
def wakeDone : State :=
  setEach ((((up .wake).setB R.CLK_STAT.PLLA_LOCK true).setB R.CLK_STAT.PLLB_LOCK true).setB R.CLK_STAT.PLLC_LOCK true) R.PWM_SCHKD.DONE 1

theorem witness_StartUpClocksAndResistorCheck :
    (waking.sys.mode = .wake ∧ waking.suppliesGood = true ∧ waking.pwr.supplyHeld = false ∧ waking.pwr.nrstHeld = false ∧
      waking.pwr.coreUp = false) ∧
    ((up .wake).coreRuns = true ∧ (up .wake).bit R.CLK_STAT.PLLA_LOCK = false ∧ (up .wake).sys.mode = .wake) ∧
    (wakeDone.coreRuns = true ∧ wakeDone.bit R.CLK_STAT.PLLA_LOCK = true ∧ wakeDone.bit R.CLK_STAT.PLLC_LOCK = true) ∧
    (let s : State := { up .play with tb := { run := true, retry := true, trimFresh := false } };
      s.tb.retry = true ∧ s.pwr.supplyHeld = false ∧ s.coreRuns = true ∧ s.tb.run = true ∧ s.tb.trimFresh = false) ∧
    (((up .play).setI R.THM_STAT.BRK 7 true).thmBroken 7 = true) ∧
    (let s : State := { up .play with adc := { ts7 := some 100 } };
      s.coreRuns = true ∧ s.tb.run = true ∧ s.thmBroken 7 = false ∧ s.adc.ts7 = some 100) ∧
    ((up .play).bit R.FLS_STAT.READY = false ∧ ((up .play).setB R.FLS_STAT.READY true).bit R.FLS_STAT.READY = true) := by decide +kernel

theorem witness_WakeEndsInLoad :
    (wakeDone.sys.mode = .wake ∧ wakeDone.bit R.CLK_STAT.PLLA_LOCK = true ∧ wakeDone.bit R.CLK_STAT.PLLB_LOCK = true ∧
      wakeDone.bit R.CLK_STAT.PLLC_LOCK = true ∧ ∀ d : Nat, d < 4 → wakeDone.bit (R.PWM_SCHKD.DONE d) = true) ∧
    ¬(standby.sys.mode = .wake ∧ standby.bit R.CLK_STAT.PLLA_LOCK = true ∧ standby.bit R.CLK_STAT.PLLB_LOCK = true ∧
      standby.bit R.CLK_STAT.PLLC_LOCK = true ∧ ∀ d : Nat, d < 4 → standby.bit (R.PWM_SCHKD.DONE d) = true) := by decide +kernel

theorem witness_TimeBaseHighWordIsLatchedPerMaster : (up .play).coreRuns = true := by decide

/-- LOAD with the converter in service. -/
def loadUp : State := ((up .load).setB R.ADC_CALSTAT.INIT true).modPwr fun p => { p with holdRdy := none }

theorem witness_HoldTestMeasuresTheHoldCapacitor :
    ((loadUp.sys.mode = .load ∨ loadUp.sys.mode = .selftest) ∧ loadUp.bit R.ADC_CALSTAT.INIT = true ∧ loadUp.pwr.vauxGood = true ∧
      loadUp.pwr.htRun = false ∧ loadUp.bit R.PWR_STAT.HTDONE = false ∧ loadUp.pwr.htOver = false ∧ loadUp.pwr.holdRdy ≠ some false ∧
      loadUp.pwr.supplyHeld = false ∧ loadUp.injPend.length < 8) ∧
    (8 ≤ ({ loadUp with adc := { inj := List.replicate 8 { code := 0x44, org := 0, marked := false } } } : State).injPend.length) ∧
    (let s := (loadUp.modPwr fun p => { p with htRun := true }).set R.PWR_HOLD.V0 816;
      s.pwr.htRun = true ∧ s.pwr.supplyHeld = false ∧ s.adc.refNext = none ∧
        ¬(s.getS R.PWR_HOLD.V0 < 816 ∨ 1064 < s.getS R.PWR_HOLD.V0 - (0 : BitVec 16).toInt)) ∧
    (let s := (loadUp.modPwr fun p => { p with htRun := true }).set R.PWR_HOLD.V0 815;
      s.getS R.PWR_HOLD.V0 < 816 ∨ 1064 < s.getS R.PWR_HOLD.V0 - (0 : BitVec 16).toInt) ∧
    (loadUp.coreRuns = true ∧ loadUp.pwr.holdRdy ≠ some true ∧ loadUp.pwr.htRun = false ∧ loadUp.pwr.htOver = false ∧
      loadUp.bit R.PWR_STAT.HTDONE = false) := by decide +kernel

/-! #### Modes, domains, monitors -/

theorem witness_SystemRequestsSetTheirFieldOfSysReq : (up .play).coreRuns = true := by decide

theorem witness_RunningModeFollowsItsFirstTrueCondition :
    modeRunning (up .play).sys.mode = true ∧ (up .play).sys.past = true ∧ ((up .play).deadJudged && (up .play).allDead) = false := by
  decide +kernel

theorem witness_ModeTimersAndTheMuteBall :
    (let s : State := { up .derate with sys := { mode := .derate, past := true, derateHeld := true } };
      s.coreRuns = true ∧ s.sys.derateHeld = true ∧ s.derateCond = false) ∧
    (let s : State := ({ up .precharge with sys := { mode := .precharge } } : State).setB R.ENS_CFG.EN true;
      (s.sys.mode = .precharge ∨ s.sys.mode = .crank) ∧ s.coreRuns = true ∧ s.sys.past = false ∧ s.startReady = false ∧
        s.sys.startNext = 0 ∧ s.sys.ensWaitOver = false) := by
  decide +kernel

/-- Domain 2 of a running device as a function makes it. -/
def withDom (m : Mode) (f : Dom → Dom) : State := (up m).modDom 2 f

theorem witness_DomainStartAndRelease :
    (let s := withDom .precharge fun x => { x with dst := .precharge };
      (s.dom 2).dst = .precharge ∧ (s.dom 2).awake = false ∧ (s.dom 2).railGood = false ∧ (s.dom 3).dst ≠ .precharge) ∧
    (let s := withDom .play fun x => { x with dst := .active };
      (s.dom 2).dst = .active ∧ (s.dom 2).dst ≠ .off ∧ (s.dom 3).dst ≠ .active ∧ (s.dom 3).dst = .off) := by decide

theorem witness_MuteRampsEndInActiveOrSilence :
    (let s := withDom .play fun x => { x with dst := .active, rampOn := true, rampDown := true };
      (s.dom 2).rampOn = true ∧ (s.dom 2).rampDown = true ∧ (s.dom 0).rampOn = false) ∧
    (let s := withDom .play fun x => { x with dst := .muted, rampOn := true };
      (s.dom 2).rampOn = true ∧ (s.dom 2).rampDown = false ∧ ((s.dom 2).dst = .precharge ∨ (s.dom 2).dst = .muted)) := by decide

/-- Domain 2 FAULTED with the repair mark, its dwell over, and REPMAX set. -/
def dwelt (repmax : Nat) : State :=
  (withDom .play fun x => { x with dst := .faulted, repair := true, dwellOver := true }).set R.SYS_DCFG.REPMAX repmax

theorem witness_FaultedDwellEndReloadsOrGivesUp :
    ((dwelt 1).coreRuns = true ∧ ((dwelt 1).dom 2).dst = .faulted ∧ ((dwelt 1).dom 3).dst ≠ .faulted) ∧
    (let s := (dwelt 1).modDom 3 fun x => { x with dst := .reload };
      (s.dom 2).dst = .faulted ∧ (s.dom 2).repair = true ∧ (s.dom 2).dwellOver = true ∧ (s.dom 2).refused = false ∧
        s.sys.reloadQ.contains 2 = false ∧ s.rpcnt 2 < s.get R.SYS_DCFG.REPMAX ∧ (∃ k : Nat, k < 4 ∧ (s.dom k).dst = .reload)) ∧
    ((dwelt 1).rpcnt 2 < (dwelt 1).get R.SYS_DCFG.REPMAX ∧ (dwelt 1).sys.reloadQ = [] ∧ ∀ k : Nat, k < 4 → ((dwelt 1).dom k).dst ≠ .reload) ∧
    ((dwelt 0).get R.SYS_DCFG.REPMAX ≤ (dwelt 0).rpcnt 2) := by
  refine ⟨by decide +kernel, ⟨by decide +kernel, by decide +kernel, by decide +kernel, by decide +kernel, by decide +kernel,
    by decide +kernel, ⟨3, by decide +kernel⟩⟩, by decide +kernel, by decide +kernel⟩

theorem witness_MonitorFiltersFollowTheMajority :
    (let s := up .play;
      s.coreRuns = true ∧ s.bit R.ADC_REFCTL.SETTLING = false ∧ s.bit (R.MON_ST.TST 41) = false ∧ 91 < 92 ∧
        filterOk (s.get (R.MON_FILT.FWIN 41)) (s.get (R.MON_FILT.FTHR 41)) = true ∧
        filterOk (s.get (R.MON_FFILT.FWIN 7)) (s.get (R.MON_FFILT.FTHR 7)) = true) ∧
    (let s := (up .play).set (R.MON_FILT.FWIN 41) 0;
      filterOk (s.get (R.MON_FILT.FWIN 41)) (s.get (R.MON_FILT.FTHR 41)) = false) := by
  decide +kernel

theorem witness_LatchesClearOnlyWithoutTheirCondition :
    (up .play).coreRuns = true ∧ (((up .play).setBall 1 16 { hold := true }).ball 1 16).hold = true ∧
      ((up .play).ball 1 16).hold = false := by decide +kernel

/-- A word for MON_TEST: mode 1, every monitor, DAC 83 at the bound. -/
def testWord (msel dsel : Nat) : Word :=
  fldPut (fldPut (fldPut 0 R.MON_TEST.MODE 1) R.MON_TEST.MSEL msel) R.MON_TEST.DSEL dsel

/-- SELFTEST with the automatic test in step n at DAC k. -/
def selftest (n k : Nat) : State :=
  ((up .selftest).setB R.MON_TEST.BUSY true).modMon fun x => { x with testPend := true, autoStep := n, autoDac := k }

theorem witness_SelfTestCommandsDriveMonTest :
    ((up .selftest).coreRuns = true ∧ testWordOk (testWord 0x3F 83) = true ∧ testWordOk (testWord 41 0) = true ∧
      testWordOk (testWord 42 0) = false ∧ testWordOk (testWord 0 84) = false ∧ fldOf (testWord 0x3F 83) R.MON_TEST.MODE ≠ 0 ∧
      (testSel (fldOf (testWord 0x3F 83) R.MON_TEST.MSEL)).all (up .selftest).testable = true) ∧
    ((testSel (fldOf (testWord 0x3F 83) R.MON_TEST.MSEL)).all (up .play).testable = false) ∧
    (testWordOk (fldPut (testWord 0x3F 83) R.MON_TEST.MODE 0) = true ∧ fldOf (fldPut (testWord 0x3F 83) R.MON_TEST.MODE 0) R.MON_TEST.MODE = 0) ∧
    (0 ∈ testSel ((selftest 0 0).get R.MON_TEST.MSEL) ∧ (((selftest 0 0).set R.MON_TEST.MODE 2).get R.MON_TEST.MODE = 2) ∧
      (selftest 0 0).mon.autoStep = 0 ∧ ((selftest 0 0).set R.MON_TEST.MODE 3).get R.MON_TEST.MODE = 3) ∧
    ((selftest 2 0).mon.testPend = true ∧ (selftest 2 0).sys.mode = .selftest ∧ (selftest 2 0).bit R.MON_TEST.BUSY = true ∧
      1 ≤ (selftest 2 0).mon.autoStep ∧ (selftest 2 0).mon.autoStep < 3) ∧
    ((selftest 3 0).mon.autoStep = 3 ∧ (selftest 3 0).sys.mode = .selftest ∧ (selftest 3 0).bit R.MON_TEST.BUSY = true) ∧
    ((selftest 4 83).mon.autoStep = 4 ∧ (selftest 4 83).mon.autoDac < 84 ∧ 84 ≤ (selftest 4 84).mon.autoDac) := by decide +kernel

/-- A shut-down that waits for its record. -/
def heat1 : Heat := { at_ := 1, cause := 0, input := 3, q := 5, max := 6, brk := 0, win := 0, mode := 6 }

theorem witness_ThermalEvaluationTakesEverySample :
    ((up .play).setB R.ADC_CALSTAT.INIT true).coreRuns = true ∧ ((up .play).setB R.ADC_CALSTAT.INIT true).bit R.ADC_CALSTAT.INIT = true ∧
    (let s : State := { up .standby with fls := { heat := [heat1] } };
      s.fls.heat = heat1 :: [] ∧ s.pwr.inh = false ∧ (s.modPwr fun p => { p with inh := true }).pwr.inh = true) ∧
    (up .play).fls.heat = [] := by decide +kernel

/-! #### Converter and fabric -/

/-- A running device with the converter in service. -/
def conv : State := (up .play).setB R.ADC_CALSTAT.INIT true

/-- The same with domain 2 ACTIVE. -/
def conv2 : State := conv.modDom 2 fun x => { x with dst := .active }

theorem witness_SlotsAndConversionsGoToTheirOwners :
    (conv.bit R.ADC_CALSTAT.INIT = true ∧ conv.adc.startSlot ≤ conv.now / 4 + 4 ∧ (conv.now / 4 + 4) % 12 ∉ conv.adc.lost) ∧
    (let s : State := { conv with adc := { lost := [(conv.now / 4 + 4) % 12] } }; (s.now / 4 + 4) % 12 ∈ s.adc.lost) ∧
    (∀ i : Nat, i < 192 → conv.entryLive i = false) ∧
    (let s := (conv2.set (R.ADC_FRAME.CODE 96) 8).set (R.ADC_FRAME.PER 96) 1;
      s.adc.startSlot ≤ s.now / 4 + 4 ∧ s.claims (s.now / 4 + 4) = [(96, false)] ∧ s.slotWinner [(96, false)] = some (96, false) ∧
        s.adcEcc 96 = 0) ∧
    (let c : Conv := { slot := 1004, slice := 3, own := .idle };
      ({ conv with adc := { convs := [c] } } : State).adc.convs.find? (fun x => x.slot == 1004) = some c) ∧
    conv.adc.convs.find? (fun x => x.slot == 1004) = none :=
  ⟨by decide +kernel, by decide +kernel, fun _ _ => rfl, by decide +kernel, by decide +kernel, by decide +kernel⟩

/-- A slice at the limits of R168. -/
def sliceMax : SliceCal :=
  { ofs := 1024, gndev := 5243, weights := List.replicate 18 1, skew := -31, weightsOk := true, skewOk := true }

theorem witness_CalibrationPutsSlicesInService :
    ((up .load).tb.run = true ∧ (up .load).bit R.ADC_CALSTAT.INIT = false ∧ (up .load).bit R.ADC_CALSTAT.FAIL = false ∧
      (List.replicate 13 sliceMax).length = 13 ∧ (List.replicate 13 sliceMax).all calOk = true ∧ (up .load).get R.ADC_CALSTAT.BAD = 0) ∧
    (conv.bit R.ADC_CALSTAT.INIT = true ∧ conv.bit R.ADC_CALSTAT.NOSPARE = false ∧ conv.adc.spareOk = false ∧
      calOk sliceMax = true ∧ conv.adc.swapWait = false ∧ calOk { sliceMax with ofs := 1025 } = false) ∧
    (((List.replicate 11 sliceMax ++ List.replicate 2 { sliceMax with ofs := 1025 }).filter calOk).length < 12) ∧
    (let s : State := { conv.setB R.ADC_CALCTL.ROTEN true with adc := { swapWait := true } };
      s.adc.swapWait = true ∧ s.swapAllowed = true ∧ s.adc.spareOk = false) ∧
    ((conv.setB R.ADC_CALCTL.ROTEN true).rotates = true ∧ (conv.setB R.ADC_CALCTL.ROTEN true).bit R.ADC_CALSTAT.ROTPEND = false) ∧
    (let s := ((conv.setB R.ADC_CALSTAT.ROTPEND true).setB R.ADC_CALCTL.ROTEN true).set R.ADC_CALSTAT.NEXTPOS 11;
      s.coreRuns = true ∧ s.bit R.ADC_CALSTAT.ROTPEND = true ∧ s.adc.inj.any (fun q => q.marked && q.slot.isNone) = false ∧
        s.adc.swapAt ≤ s.now ∧ s.bit R.ADC_CALCTL.ROTEN = true ∧ s.adc.lost = [] ∧
        s.get R.ADC_CALSTAT.NEXTPOS < 12 ∧ (s.set R.ADC_CALSTAT.SPARE 12).get R.ADC_CALSTAT.SPARE < 13) := by decide +kernel

/-- n injections of code 0x44. -/
def inject (n : Nat) : State := { conv with adc := { inj := List.replicate n { code := 0x44, org := 0, marked := false } } }

theorem witness_ConverterRequestsQueueReadAndCommit :
    (conv.coreRuns = true ∧ scanCode (0x6B : BitVec 8).toNat = true ∧ (inject 7).injPend.length < 8 ∧ 8 ≤ (inject 8).injPend.length ∧
      scanCode (0x6C : BitVec 8).toNat = false ∧ scanCode (0x20 : BitVec 8).toNat = false) ∧
    (let s := (conv.setB (R.ADC_SCAN.EN 31) true).set (R.ADC_SCAN.CODE 31) 0x44;
      s.bit R.ADC_CALSTAT.INIT = true ∧ s.scanRuns = false ∧ s.scanBad = false ∧ s.scanList ≠ []) ∧
    (({ conv with adc := { scanLeft := [(0x44, true)] } } : State).scanRuns = true) ∧
    (({ conv with adc := { queue := [(5, 7)] } } : State).adc.queue = (5, 7) :: [] ∧ conv.adc.queue = []) ∧
    ((∃ d : Nat, d < 4 ∧ (conv.set (R.LFC_RUN.RUN 3) 1).get (R.LFC_RUN.RUN d) ≠ 0) ∧
      (∀ d : Nat, d < 4 → conv.get (R.LFC_RUN.RUN d) = 0) ∧ conv.pwr.htRun = false) ∧
    ((conv.setB R.ADC_REFCTL.SETTLING true).bit R.ADC_REFCTL.SETTLING = true) ∧
    ((0x1F : BitVec 8).toNat < 0x20 ∧ ∀ d : Nat, codeDom (0x1F : BitVec 8).toNat = some d → dstRuns (conv2.dom d).dst = false) ∧
    (corrCode (0x0B : BitVec 8).toNat = true ∧ codeDom (0x0B : BitVec 8).toNat = some 2 ∧ dstRuns (conv2.dom 2).dst = true) := by
  refine ⟨by decide +kernel, by decide +kernel, by decide +kernel, by decide +kernel, ⟨⟨3, by decide +kernel⟩, by decide +kernel⟩, by decide +kernel,
    ⟨by decide, ?_⟩, by decide +kernel⟩
  intro d h
  have e : codeDom (0x1F : BitVec 8).toNat = some 3 := by decide
  rw [e] at h
  cases h
  decide +kernel

/-- Loop 5 of domain 2 running, with an open sample. -/
def loop5 (pre : Bool) : State :=
  (conv2.setI (R.LFC_RUN.RUN 2) 5 true).modLoop (loopNo 2 5) fun l => { l with opn := true, preReady := pre }

theorem witness_SamplesOpenUpdateOrMiss :
    (let s := conv2.setI (R.LFC_RUN.RUN 2) 5 true;
      s.coreRuns = true ∧ s.running 2 5 = true ∧ (s.loop (loopNo 2 5)).opn = false ∧ s.running 2 4 = false) ∧
    ((loop5 true).canUpdate 2 5 = true ∧ (loop5 true).loopBad 2 5 = false) ∧
    ((loop5 false).running 2 5 = true ∧ (loop5 false).coreRuns = true ∧ ((loop5 false).loop (loopNo 2 5)).opn = true ∧
      ((loop5 false).loop (loopNo 2 5)).preReady = false) ∧
    (let s := { loop5 true with coefs := [(coefKey (loopNo 2 5) false 85, { m := 1 })] };
      s.canUpdate 2 5 = true ∧ s.loopBad 2 5 = true) := by decide +kernel

theorem witness_MissedSampleCountsAndKeepsTheLoop :
    (let s := (loop5 false).modLoop (loopNo 2 5) fun l => { l with missRun := 255 };
      s.running 2 5 = true ∧ s.missLim 2 5 ≤ (s.loop (loopNo 2 5)).missRun) := by decide +kernel

theorem witness_BackgroundJobsRunEarliestDeadlineFirst :
    (let s := conv2.modLoop (loopNo 2 11) fun l => { l with jobQ := [{ post := none, inst := 0, dl := 9 }] };
      s.coreRuns = true ∧ (s.dom 2).jobRun = none ∧ s.releasedJobs 2 ≠ [] ∧ conv2.releasedJobs 2 = []) ∧
    (let s := conv2.modDom 2 fun x => { x with jobRun := some 11 };
      s.coreRuns = true ∧ (s.dom 2).jobRun = some 11) ∧
    (conv2.coreRuns = true ∧ standby.coreRuns = false) := by
  decide +kernel

/-- LFC_CIDX of domain 2 set. -/
def sel (space loop entry : Nat) : State :=
  ((conv2.set (R.LFC_CIDX.SPACE 2) space).set (R.LFC_CIDX.LOOP 2) loop).set (R.LFC_CIDX.ENTRY 2) entry

theorem witness_FabricRegisterWritesAndReads :
    (conv2.coreRuns = true ∧ ((conv2.modLoop (loopNo 2 3) fun l => { l with rNew := some 1 }).loop (loopNo 2 3)).rNew.isSome = true) ∧
    ((sel 1 11 89).cidxOk 2 = true ∧ (sel 1 11 89).csBad 2 = false ∧ ((sel 1 11 89).cidx 2).1 < 2 ∧
      (sel 1 11 89).bit (R.LFC_CIDX.AINC 2) = false ∧ ((sel 0 0 0).setB (R.LFC_CIDX.AINC 2) true).bit (R.LFC_CIDX.AINC 2) = true) ∧
    ((sel 3 0 0).cidxOk 2 = false ∧ (sel 0 12 0).cidxOk 2 = false ∧ (sel 0 0 90).cidxOk 2 = false) ∧
    (let s := (sel 0 11 0).setI (R.LFC_RUN.RUN 2) 11 true;
      s.coreRuns = true ∧ s.cidxOk 2 = true ∧ s.csBad 2 = true) ∧
    ((sel 1 11 89).lfcErr (loopNo 2 11) 1 89 = 0 ∧ ((sel 1 11 89).setLfcErr (loopNo 2 11) 1 89 1).lfcErr (loopNo 2 11) 1 89 = 1) ∧
    (fldOf (fldPut 0 (R.LFC_ZCFG.START 2) 1) (R.LFC_ZCFG.START 2) = 1 ∧ (up .service).sys.mode = .service ∧
      ((up .service).dom 2).zrun = false) ∧
    ((conv2.modDom 2 fun x => { x with zrun := true }).zcfgBad 2 (fldPut 0 (R.LFC_ZCFG.CH 2) 3) = true) ∧
    (conv2.ldcfgBad 2 (fldPut (fldPut 0 (R.LFC_LDCFG.LW 2) 8) (R.LFC_LDCFG.LDI 2) 5) = false) := by decide +kernel

theorem witness_BankSwapsAndTheScrub :
    (conv2.coreRuns = true ∧ (conv2.loop (loopNo 2 11)).bankBad.getLsbD (b2n (!conv2.actBank 2 11)) = false ∧
      conv2.running 2 11 = false ∧ conv2.actBank 2 11 = false) ∧
    (let s := conv2.setI (R.LFC_RUN.RUN 2) 11 true;
      s.running 2 11 = true ∧ s.bitI (R.LFC_BANK.PEND 2) 11 = false ∧
        (s.setI (R.LFC_BANK.PEND 2) 11 true).bitI (R.LFC_BANK.PEND 2) 11 = true) ∧
    (((conv2.modLoop (loopNo 2 11) fun l => { l with bankBad := 2 }).loop (loopNo 2 11)).bankBad.getLsbD (b2n (!conv2.actBank 2 11)) = true) ∧
    (conv2.lfcErr (loopNo 2 11) (spaceCode .bankB) 89 = 0 ∧ spaceCode .bankB = b2n (!conv2.actBank 2 11) ∧
      spaceCode .bankA ≠ b2n (!conv2.actBank 2 11) ∧ spaceCode .state ≠ b2n (!conv2.actBank 2 11)) ∧
    standby.coreRuns = false := by decide +kernel

theorem witness_FreezeMonitorComparesEnteringSamples :
    (let p : PlSet := { conv2.plSet 2 5 with en := true, frzn := 1 };
      ({} : Loop).blank = 0 ∧ p.en = true ∧ p.frzn ≠ 0) := by decide +kernel

/-- Domain 2 ACTIVE with a started planner and its outer entry in the frame table. -/
def plan2 : State := (conv2.set (R.ADC_FRAME.CODE 96) 0x22).modPrf 2 fun p => { p with started := true }

theorem witness_ProfileCommandsMoveThePlanner :
    (plan2.updates 2 = true ∧ ((plan2.planStart 2).prf 2).started = true ∧ quantaBad (((plan2.planStart 2).takeLimits 2).quanta 2) = false) ∧
    (let s := plan2.modPrf 2 fun p => { p with limJ := 0 };
      s.updates 2 = true ∧ ((s.planStart 2).prf 2).started = true ∧ quantaBad (((s.planStart 2).takeLimits 2).quanta 2) = true) ∧
    (let s := (plan2.set (R.PWM_PHASES.MINPH 2) 4).set (R.PWM_IADD.V 2) 1;
      s.coreRuns = true ∧ dstRuns (s.dom 2).dst = true ∧ (s.prf 2).started = true ∧ s.phSetBad 2 = false) ∧
    ((plan2.set (R.PWM_PHASES.MINPH 2) 0).phSetBad 2 = true ∧ (plan2.set (R.PWM_PHASES.MINPH 2) 5).phSetBad 2 = true) := by
  decide +kernel

theorem witness_PlannerStaysWithinItsQuanta :
    (let q : Quanta := { vd := 1000, j := 10, n := 3 };
      (pickJerk q 0 0 0 100000).isSome = true ∧ ({ p := 0, v := 0, a := 0, dir := 1 } : Plan).dir = 1 ∧
        (stopLoop q 20 0 0 0 0).isSome = true ∧ ((19 - 0 : Int).natAbs : Int) < 2 * q.j) := by decide +kernel

/-- Channel 8 (domain 2, channel 0) running with an armed set. -/
def armed : State :=
  { conv2.setI (R.LFC_RUN.RUN 2) 0 true with
    lanes := [(8, { armed := some ({ at16 := 100, rise := true }, { at16 := 200, rise := false }), pendP := [{ at16 := 50, rise := false }] })] }

theorem witness_EdgesAreInstalledDrivenAndRearmed :
    (armed.carriers (8 / 4) = true ∧ armed.running (8 / 4) (8 % 4) = true ∧
      (armed.lane 8).armed = some ({ at16 := 100, rise := true }, { at16 := 200, rise := false }) ∧
      (armed.lane (4 * 2 + 0)).pendP = { at16 := 50, rise := false } :: [] ∧
      (({ armed with lanes := [(8, { pendN := [{ at16 := 60, rise := true }] })] } : State).lane (4 * 2 + 0)).pendN =
        { at16 := 60, rise := true } :: []) ∧
    (armed.carriers (9 / 4) = true ∧ armed.running (9 / 4) (9 % 4) = false) ∧
    (let s := ({ armed with phases := [(11, { pulsing := true })] } : State).setFab 2 6 true;
      s.carriers 2 = true ∧ (s.phase 2 (6 / 2)).pulsing = true ∧ (s.ball 2 6).fab = true) ∧
    (armed.supplyBad 2 = false ∧ ((armed.set (R.PWM_CFG.SSW 2) 3).set (R.PWM_STIM.GAP 2) 1023).supplyBad 2 = true) ∧
    (((armed.setI (R.LFC_RUN.RUN 2) 11 true).modLoop (loopNo 2 11) fun l => { l with missArm := true }).rearms 2 11 = true) ∧
    (armed.carriers 3 = false ∧ armed.carriers (15 / 4) = false) := by decide +kernel

/-! #### Engines -/

/-- An instruction with registers 2, 4 and 6. -/
def iw (op n imm : Nat) : Iw := { op := op, a := 2, b := 4, c := 6, n := n, imm := imm }

/-- PLAY with PLL B locked. -/
def ready : State := (up .play).setB R.CLK_STAT.PLLB_LOCK true

/-- Engine 3 running context 1, which stands at index 16, at an instruction. -/
def eng (f : Iw) (c : Ctx) : State :=
  let s := ((ready.setB (R.ENG_CTL.RUN 3) true).set (R.ENG_CTX.STATE 3 1) cxRun).wr64 (localBase 3 + 8 * 16) f.word
  { s with eng := { run := [(3, 2)], ctxs := [(10, { c with pc := 16 })] } }

theorem witness_RegisterInstructionsComputeTheirResultAndFlags :
    ∀ op ∈ [0x08, 0x09, 0x0A, 0x0B, 0x0C, 0x0D, 0x0E, 0x10], ∀ n ∈ [0, 3], (eng (iw op n 7) {}).issues 3 1 (iw op n 7) := by
  unfold State.issues; decide +kernel

theorem witness_RegisterInstructionsShift :
    (∀ k ∈ [31, 32, 63], ∀ n ∈ [0, 1], (eng (iw 0x0F n k) {}).issues 3 1 (iw 0x0F n k)) ∧
    (31 < 32 ∧ (iw 0x0F 0 31).imm % 64 = 31) ∧ (0 < 32 ∧ 32 ≤ 32 ∧ (iw 0x0F 0 32).imm % 64 = 64 - 32) ∧ (iw 0x0F 0 63).imm % 64 = 64 - 1 := by
  unfold State.issues; decide +kernel

theorem witness_AccumulatorInstructionsKeepTheS64Limits :
    ∀ op ∈ [0x15, 0x16, 0x17], ∀ n ∈ [0, 1], ∀ k ∈ [0, 63], (eng (iw op n k) {}).issues 3 1 (iw op n k) := by
  unfold State.issues; decide +kernel

/-- A loop body of indices 10 to 20. -/
def body : LoopLvl := { first := 10, last := 20, left := 2 }

/-- A program with the LOOP word of the body at index 9. -/
def looped (s : State) : State := s.wr64 (localBase 3 + 8 * 9) (iw 0x04 0 20).word

theorem witness_ControlFlowInstructionsIssue :
    ∀ op ∈ [0x00, 0x01, 0x02, 0x03, 0x04, 0x05, 0x06, 0x07], (eng (iw op 0 20) { loops := [body] }).issues 3 1 (iw op 0 20) := by
  unfold State.issues; decide +kernel

theorem witness_ControlFlowInstructionsMoveTheContext :
    (let s := looped (eng (iw 0x02 0 20) { loops := [body], rets := List.replicate 7 12 });
      s.mayGo 3 1 ((iw 0x02 0 20).imm % 8192) ∧ ¬s.mayGo 3 1 ((iw 0x02 0 21).imm % 8192) ∧ (s.ctx 3 1).rets.length < 8 ∧
        s.bodies 3 = [(10, 20)] ∧ s.ctx 3 1 ≠ {}) ∧
    (let s := eng (iw 0x02 0 20) { loops := [body], rets := List.replicate 8 12 };
      8 ≤ (s.ctx 3 1).rets.length) ∧
    (let s := looped { (eng (iw 0x01 0 10) {}) with eng := { run := [(3, 2)], ctxs := [(10, { pc := 21 })] } };
      ¬s.mayGo 3 1 ((iw 0x01 0 10).imm % 8192) ∧ s.mayGo 3 1 ((iw 0x01 0 9).imm % 8192)) ∧
    ((eng (iw 0x03 0 0) { loops := [body], rets := [12] }).ctx 3 1).rets = (11 + 1) :: [] ∧
    ((eng (iw 0x03 0 0) { rets := [0] }).ctx 3 1).rets = 0 :: [] ∧ ((eng (iw 0x03 0 0) {}).ctx 3 1).rets = [] ∧
    ((iw 0x04 0 15).imm % 8192 < ((eng (iw 0x04 0 15) {}).ctx 3 1).pc) ∧
    (let s := eng (iw 0x04 0 17) { g := [(2, 1)], loops := [body] };
      ((s.ctx 3 1).reg 2).toNat = 1 ∧ (s.ctx 3 1).pc < (iw 0x04 0 17).imm % 8192 ∧ (s.ctx 3 1).loops.length < 2) ∧
    (let s := eng (iw 0x04 0 17) { g := [(2, 1)], loops := [body, body] };
      2 ≤ (s.ctx 3 1).loops.length) ∧
    (let s := eng (iw 0x04 0 16) {};
      ((s.ctx 3 1).reg 2).toNat = 0 ∧ (s.ctx 3 1).pc ≤ (iw 0x04 0 16).imm % 8192) ∧
    ((eng (iw 0x04 0 16) {}).ctx 3 1).pc = (iw 0x04 0 16).imm % 8192 ∧
    (let s := eng (iw 0x05 0x30 0) { loops := [{ body with last := 19 }] };
      (s.ctx 3 1).cond (0x30 % 16) = true ∧ 0x30 / 16 % 4 + 1 = 4 ∧ ¬∀ l ∈ (s.ctx 3 1).loops, (s.ctx 3 1).pc + 4 ≤ l.last) ∧
    (let s := looped (eng (iw 0x05 0x30 0) { loops := [body] });
      (∀ l ∈ (s.ctx 3 1).loops, (s.ctx 3 1).pc + 4 ≤ l.last) ∧ ∀ b ∈ s.bodies 3, b.1 ≤ (s.ctx 3 1).pc + 4 + 1 → (s.ctx 3 1).pc + 4 + 1 ≤ b.2 →
        b.1 ≤ (s.ctx 3 1).pc ∧ (s.ctx 3 1).pc ≤ b.2) ∧
    ((eng (iw 0x05 1 0) {}).ctx 3 1).cond 1 = false := by
  unfold State.mayGo; decide +kernel

/-- A descriptor of context 1 of engine 3 over the first page of Gallery, at engine address 0x10000000: readable and writable. -/
def galWin (rights : Nat) : Win := { desc := BitVec.ofNat 32 (0x10000001 + rights), map := 0x10000000 }

/-- A descriptor over the page of a register block, readable and writable. -/
def regWin (a : Nat) : Win := { desc := BitVec.ofNat 32 (a + 0xF), map := BitVec.ofNat 32 a }

/-- Engine 3 at an instruction, with a descriptor and register 4 set. -/
def engW (op : Nat) (w : Win) (base : Word) : State :=
  let s := eng (iw op 0 0) { g := [(4, base)] }
  { s with eng := { s.eng with wins := [(160, w)] } }

theorem witness_LoadsAndStoresPlace :
    (0xFFFF < 0x20000 ∧ (engW 0x11 (galWin 6) 0).place 3 1 0x20000 false = .viol 1) ∧
    ((engW 0x11 (galWin 6) 0).win 3 1 0).covers 0x10000FFF = true ∧ ((engW 0x11 (galWin 6) 0).win 3 1 0).covers 0x10001000 = false ∧
    (∀ j : Nat, j < 16 → j ≠ 0 → ((engW 0x11 (galWin 6) 0).win 3 1 j).covers 0x10000000 = false) := by decide +kernel

theorem witness_LoadsAndStoresPassTheWindowCheck :
    (∀ op ∈ [0x11, 0x12, 0x13, 0x14], (engW op (galWin 6) 0x10000000).issues 3 1 (iw op 0 0) ∧
      (((engW op (galWin 6) 0x10000000).ctx 3 1).reg 4 + BitVec.ofNat 32 0).toNat = 0x10000000 ∧
      (engW op (galWin 6) 0x10000000).place 3 1 0x10000000 false = .at_ 0x10000000 ∧
      (engW op (galWin 6) 0x10000000).place 3 1 0x10000000 true = .at_ 0x10000000 ∧ inRegs 0x10000000 = false ∧
      (engW op (galWin 6) 0x10000000).eccAt 0x10000000 < 2 ∧ (engW op (galWin 6) 0x10000000).regQ 3 = [] ∧
      (engW op (galWin 6) 0x10000000).overlapBad 3 1 0x10000000 = false) ∧
    (∀ op ∈ [0x11, 0x12, 0x13, 0x14], (engW op (regWin 0x40070000) 0x40070008).issues 3 1 (iw op 0 0) ∧
      (engW op (regWin 0x40070000) 0x40070008).place 3 1 0x40070008 false = .at_ 0x40070008 ∧
      (engW op (regWin 0x40070000) 0x40070008).place 3 1 0x40070008 true = .at_ 0x40070008 ∧ inRegs 0x40070008 = true ∧
      ((engW op (regWin 0x40070000) 0x40070008).regQ 3).length < 7 ∧
      (∀ n ∈ [7, 8], n ≤ (((engW op (regWin 0x40070000) 0x40070008).setRegQ 3 (List.replicate n { addr := 0x40070008, word := some 0 })).regQ
        3).length)) ∧
    (∀ op ∈ [0x11, 0x12, 0x13, 0x14], (engW op (galWin 6) 0x10002).issues 3 1 (iw op 0 0) ∧ 0x10002 % 4 ≠ 0 ∧ 0x10002 % 8 ≠ 0) ∧
    (engW 0x11 (galWin 4) 0x10000000).place 3 1 0x10000000 false = .viol 2 ∧
    (engW 0x12 (galWin 2) 0x10000000).place 3 1 0x10000000 true = .viol 2 ∧
    (engW 0x12 (regWin 0x40100000) 0x40100000).place 3 1 0x40100000 true = .viol 3 ∧
    (engW 0x12 (galWin 6) 0xFFFC).place 3 1 0xFFFC true = .viol 0xC ∧
    (∀ p ∈ [0x10000000, localBase 3 + 0x10000], ((engW 0x11 (galWin 6) p).setEcc p 3).eccAt p = 3 ∧
      ((engW 0x11 (galWin 6) p).setEcc p 1).eccAt p = 1 ∧ (engW 0x11 (galWin 6) p).eccAt p = 0) := by
  unfold State.issues; decide +kernel

/-- Engine 3 at a block instruction of n samples: destination 0x10000, source 0x11000, state or coefficients at 0x12000. -/
def engB (op n imm : Nat) : State :=
  eng (iw op n imm) { g := [(2, 0x10000), (4, 0x11000), (6, 0x12000)] }

theorem witness_BlockInstructionsFilterAndScale :
    (∀ p ∈ [(0x20, 15), (0x21, 8), (0x24, 7), (0x25, 7), (0x26, 0)], (engB p.1 4 p.2).issues 3 1 (iw p.1 4 p.2) ∧
      (((engB p.1 4 p.2).ctx 3 1).reg 2).toNat = 0x10000 ∧ (((engB p.1 4 p.2).ctx 3 1).reg 4).toNat = 0x11000 ∧
      (((engB p.1 4 p.2).ctx 3 1).reg 6).toNat = 0x12000 ∧ ((engB p.1 4 p.2).ctx 3 1).prog = 0 ∧
      (engB p.1 4 p.2).areasEcc 3 [(0x10000, 4), (0x11000, 4), (0x12000, 8)] = none ∧
      ((engB p.1 4 p.2).setEcc (localBase 3 + 0x12000) 2).areasEcc 3 [(0x10000, 4), (0x11000, 4), (0x12000, 8)] = some 0x12000) ∧
    (7 < 4 * (8 - 1) ∧ 4 ≠ 0) ∧
    (areasBad [(0x10000, 4), (0x11000, 4), (0x12000, 7 * 16)] = none ∧ areasBad [(0x10000, 4), (0x11000, 4)] = none ∧
      areasBad [(0x10000, 4), (0x11000, 4), (0x12000, 4)] = none ∧ 4 * (8 - 1) ≤ 0x11000 ∧
      areasBad [(0x10000, 4), (0x11000 - 4 * (8 - 1), 4 + (8 - 1)), (0x12000, 8)] = none) ∧
    (areasBad [(0x1FFFC, 1)] = none ∧ areasBad [(0x1FFFC, 2)] = some (6, 0x20000) ∧ areasBad [(0x10002, 1)] = some (7, 0x10002) ∧
      areasBad [(0xFFFC, 1)] = some (6, 0xFFFC)) := by
  unfold State.issues; decide +kernel

theorem witness_BlockInstructionsAreasApart : areasApart 0x10000 4 (0x11000 - 4 * (8 - 1)) (4 + (8 - 1)) ∧ areasApart 0x10000 4 0x12000 8 ∧
    areasApart 0x10000 4 0x11000 4 := by
  unfold areasApart; decide

/-- A delay line of 8 words at 0x13000 with write index 7, described at 0x12000. -/
def engD (op n imm : Nat) : State :=
  (((engB op n imm).setDm 3 0x12000 0x13000).setDm 3 0x12004 8).setDm 3 0x12008 7

theorem witness_BlockInstructionsDelayAndMeasure :
    ((∀ v ∈ [(3 : Int), 0], 0 ≤ v)) ∧
    ((engD 0x22 4 0).issues 3 1 (iw 0x22 4 0) ∧ (engD 0x23 4 4).issues 3 1 (iw 0x23 4 4) ∧ (engD 0x22 4 0).lineAt 3 0x12000 = (0x13000, 8, 7) ∧
      areaBad 0x12000 3 = none ∧ areasBad [(0x11000, 4), (0x13000, 8)] = none ∧ 0 < 8 ∧ 4 ≤ 8 ∧ 7 < 8 ∧
      areasBad [(0x10000, 4), (0x13000, 8)] = none ∧ 4 + 4 ≤ 8 ∧ 8 < 5 + 4) ∧
    (∀ op ∈ [0x27, 0x29, 0x2A, 0x2B], (engB op 4 3).issues 3 1 (iw op 4 3) ∧ ((engB op 4 3).ctx 3 1).prog = 0) ∧
    ((((engD 0x22 4 0).setDm 3 0x12004 0).lineAt 3 0x12000 = (0x13000, 0, 7)) ∧ 8 < 5 + 4) ∧
    (let s := (engB 0x27 4 0).setDm 3 0x12000 1024;
      s.dmU 3 0x12000 = 1024 ∧ s.dmU 3 0x12004 = 0 ∧ s.pkaBad 3 0x12000 = false ∧ areaBad 0x12000 2 = none ∧ areasBad [(0x11000, 4), (0x12000, 2 + 2 * 1024)] = none) ∧
    (((engB 0x27 4 0).setDm 3 0x12000 1025).dmU 3 0x12000 = 1025) ∧
    ((engB 0x28 4 4).issues 3 1 (iw 0x28 4 4) ∧ areasBad [(0x10000, 4 * 2 ^ 4), (0x11000, 4), (0x12000, 1)] = none ∧ 4 < (iw 0x28 4 5).imm % 8) ∧
    (areasBad [(0x10000, 4), (0x11000, 4)] = none ∧ areasBad [(0x10000, 4)] = none ∧ areasBad [(0x11002, 4)] = some (7, 0x11002)) := by
  unfold State.issues; decide +kernel

theorem witness_BlockInstructionsDelayApart : areasApart 0x13000 8 0x11000 4 ∧ areasApart 0x13000 8 0x12000 3 ∧ areasApart 0x10000 4 0x13000 8 ∧
    areasApart 0x10000 (4 * 2 ^ 4) 0x11000 4 ∧ areasApart 0x10000 (4 * 2 ^ 4) 0x12000 1 ∧ areasApart 0x11000 4 0x12000 1 := by
  unfold areasApart; decide

/-- Engine 3 at an instruction of channel 31, which its context 1 owns, in a state, bound to a context. -/
def engCh (op n : Nat) (st bctx : Nat) : State :=
  let s := ((eng (iw op n 0x0900) { g := [(4, 0x10000)] }).set (R.DMA_CH.ENG 31) 3).setI (R.DMA_CH.CTXM 31) 1 true
  ((s.setCh 31 st).set (R.DMA_ST.BCTX 31) bctx).wr32 (localBase 3 + 0x10008) 1

theorem witness_SystemInstructionsReachChannelsTasksAndEvents :
    ((engCh 0x30 31 chBusy 1).issues 3 1 (iw 0x30 31 0x0900) ∧ (iw 0x30 31 0x0900).n % 32 = 31 ∧ (engCh 0x30 31 chBusy 1).dmaOwned 3 1 31 = true ∧
      (engCh 0x30 31 chBusy 1).chState 31 = chBusy) ∧
    ((engCh 0x30 31 chFrozen 1).chState 31 = chFrozen ∧ (engCh 0x30 31 chAborted 1).chState 31 = chAborted ∧
      (iw 0x30 31 0x0900).n / 32 % 2 = 0 ∧ (iw 0x30 63 0x0900).n / 32 % 2 = 1 ∧ (iw 0x30 63 0x0900).n % 32 = 31) ∧
    (let s := engCh 0x30 31 chIdle 0;
      s.issues 3 1 (iw 0x30 31 0x0900) ∧ s.chState 31 = chIdle ∧ ((s.ctx 3 1).reg 4).toNat = 0x10000 ∧ 0x10000 % 8 = 0 ∧ 0x10000 + 16 ≤ 0x20000 ∧
        s.eccAt (localBase 3 + 0x10000) < 2 ∧ s.eccAt (localBase 3 + 0x10000 + 8) < 2 ∧
        2 ≤ (s.setEcc (localBase 3 + 0x10000) 2).eccAt (localBase 3 + 0x10000) ∧ s.dmU 3 0x10000 % 4 = 0 ∧ s.dmU 3 0x10004 % 4 = 0 ∧ signedN 16 (s.dmU 3 0x1000C) % 4 = 0 ∧
        signedN 16 (s.dmU 3 0x1000C / 65536) % 4 = 0 ∧ s.dmU 3 0x10008 % 65536 ≠ 0) ∧
    (let s := engCh 0x31 31 chBusy 1;
      s.issues 3 1 (iw 0x31 31 0x0900) ∧ s.dmaOwned 3 1 31 = true ∧ s.chState 31 = chBusy ∧ s.get (R.DMA_ST.BCTX 31) = 1) ∧
    (let s := engCh 0x31 31 chIdle 1;
      ¬(s.chState 31 = chBusy ∧ s.get (R.DMA_ST.BCTX 31) = 1) ∧ s.get (R.DMA_ST.DONE 31) = (s.dma 31).cnt) ∧
    ((engCh 0x31 30 chIdle 1).issues 3 1 (iw 0x31 30 0x0900) ∧ (engCh 0x31 30 chIdle 1).dmaOwned 3 1 30 = false) ∧
    (∀ op ∈ [0x32, 0x33, 0x34, 0x35, 0x36], (engCh op 0 0 0).issues 3 1 (iw op 0 0x0900)) ∧
    (0x0900 ≤ 0x0900 % 65536 ∧ 0x09FF % 65536 ≤ 0x09FF ∧ 0x0A00 % 65536 > 0x09FF) ∧
    ((eng (iw 0x18 0 0) {}).issuing 3 = some 1 ∧ opKnown ((eng (iw 0x18 0 0) {}).instrAt 3 ((eng (iw 0x18 0 0) {}).ctx 3 1).pc).op = false) ∧
    (15 < 16 ∧ ((eng (iw 0 0 0) {}).ctx 3 1).pc < 8192 ∧ 2 ^ 32 - 1 < 2 ^ 32) := by
  unfold State.issues; decide +kernel

/-- Context 1 of engine 3 in a state, with a trigger source. -/
def cxIn (st src : Nat) : State := (ready.set (R.ENG_CTX.STATE 3 1) st).set (R.ENG_TRG.SRC 3 1) src

theorem witness_EnginesStartStopSwitchAndRestart :
    ((up .play).coreRuns = true ∧ (up .play).engRun 3 = false ∧ (eng (iw 0 0 0) {}).coreRuns = true ∧ (eng (iw 0 0 0) {}).engRun 3 = true) ∧
    ((cxIn cxFrozen 0).cxState 3 1 = cxFrozen ∧ ((cxIn cxFrozen 0).set (R.ENG_CTX.FPOL 3 1) 1).fpolOf 3 1 = 1 ∧
      (cxIn cxIdle 0).cxState 3 1 ≠ cxFrozen) ∧
    ((cxIn cxStop 1).get (R.ENG_TRG.SRC 3 1) = 1 ∧ (cxIn cxStop 1).cxState 3 1 = cxStop ∧ (cxIn cxIdle 1).cxState 3 1 = cxIdle ∧
      (cxIn cxRun 1).cxState 3 1 ≠ cxStop ∧ (cxIn cxRun 1).cxState 3 1 ≠ cxFrozen ∧ (cxIn cxRun 1).cxState 3 1 ≠ cxIdle) ∧
    (let s := (cxIn cxReady 0).setB (R.ENG_CTL.RUN 3) true;
      s.eclkRuns = true ∧ s.engRun 3 = true ∧ s.cxState 3 1 = cxReady ∧ ∀ y : Fin 3, y < 1 → s.cxState 3 y ≠ cxReady ∧ s.cxState 3 y ≠ cxRun) ∧
    (∀ y : Fin 3, (cxIn cxIdle 0).cxState 3 y ≠ cxReady ∧ (cxIn cxIdle 0).cxState 3 y ≠ cxRun) ∧
    (((eng (iw 0 0 0) { rd := [(5, some 77)] }).ctx 3 1).rd = (5, some 77) :: [] ∧ ((eng (iw 0 0 0) {}).ctx 3 1).rd = [] ∧
      ((eng (iw 0 0 0) { rd := [(5, none)] }).ctx 3 1).rd = (5, none) :: []) ∧
    (let s := eng (iw 0 0 0) { parBad := true };
      (s.ctx 3 1).parBad = true ∧ s.running? 3 = some 1 ∧ ({ s with eng := { s.eng with run := [] } } : State).running? 3 = none) ∧
    (let s := (eng (iw 0x24 9 0) {}).set (R.ENG_CTX.STATE 3 0) cxReady;
      s.cxState 3 1 = cxRun ∧ s.preempted 3 1 = true) ∧
    (let s := { cxIn cxWaiting 0 with eng := { ctxs := [(10, { wait := some (.tb 9) })] } };
      s.coreRuns = true ∧ s.cxState 3 1 = cxWaiting ∧ (s.ctx 3 1).wait = some (.tb 9)) := by decide +kernel

/-- Channel 9 BUSY for context 1 of engine 3: n words from one engine address to another. -/
def dmaOn (n src dst : Nat) : State :=
  let s := ((ready.set (R.DMA_CH.ENG 9) 3).setCh 9 chBusy).set (R.DMA_ST.BCTX 9) 1
  ((s.set (R.DMA_SRC.V 9) src).set (R.DMA_DST.V 9) dst).modEng fun g =>
    { g with wins := [(160, galWin 6)], dmas := [(9, { cnt := n, sstr := 4, dstr := 4 })] }

theorem witness_TransfersWindowsAndTheScrubber :
    ((up .play).moverPick 1 = none ∧ (dmaOn 9 0x10000000 0x10000).moverPick 1 = some 9) ∧
    (let s := dmaOn 9 0x10000000 0x10000;
      s.eclkRuns = true ∧ s.get (R.DMA_CH.ENG 9) = 3 ∧ s.get (R.DMA_ST.BCTX 9) = 1 ∧ (s.dma 9).cnt < 65536 ∧
        burstOf ((s.dma 9).cnt - s.get (R.DMA_ST.DONE 9)) (s.get (R.DMA_SRC.V 9)) (s.get (R.DMA_DST.V 9)) (s.dma 9).sstr (s.dma 9).dstr =
          (List.range 8).map (fun k => (0x10000000 + 4 * k, 0x10000 + 4 * k)) ∧
        (∀ q ∈ (List.range 8).map (fun k => (0x10000000 + 4 * k, 0x10000 + 4 * k)), s.place 3 1 q.1 false = .at_ q.1 ∧ inRegs q.1 = false ∧
          s.eccAt q.1 < 2 ∧ s.overlapBad 3 1 q.1 = false ∧ s.overlapBad 3 1 q.2 = false ∧ s.place 3 1 q.2 true = .at_ (localBase 3 + q.2) ∧ inRegs (localBase 3 + q.2) = false ∧
          s.eccAt (localBase 3 + q.2) < 2)) ∧
    (let s := (dmaOn 1 0x10000 0x40070008).modEng fun g => { g with wins := [(160, regWin 0x40070000)] };
      s.moverPick 1 = some 9 ∧ burstOf ((s.dma 9).cnt - s.get (R.DMA_ST.DONE 9)) (s.get (R.DMA_SRC.V 9)) (s.get (R.DMA_DST.V 9)) (s.dma 9).sstr
        (s.dma 9).dstr = [(0x10000, 0x40070008)] ∧ s.overlapBad 3 1 0x10000 = false ∧ s.overlapBad 3 1 0x40070008 = false ∧
        s.place 3 1 0x10000 false = .at_ (localBase 3 + 0x10000) ∧ inRegs (localBase 3 + 0x10000) = false ∧
        s.eccAt (localBase 3 + 0x10000) < 2 ∧ s.place 3 1 0x40070008 true = .at_ 0x40070008 ∧ inRegs 0x40070008 = true ∧
        (s.regQ (16 + 1)).length < 8 ∧
        8 ≤ ((s.setRegQ (16 + 1) (List.replicate 8 { addr := 0x40070008, word := some 0 })).regQ (16 + 1)).length) ∧
    (let s := dmaOn 1 0x20000 0x10000;
      s.moverPick 1 = some 9 ∧ burstOf ((s.dma 9).cnt - s.get (R.DMA_ST.DONE 9)) (s.get (R.DMA_SRC.V 9)) (s.get (R.DMA_DST.V 9)) (s.dma 9).sstr
        (s.dma 9).dstr = (0x20000, 0x10000) :: [] ∧ s.place (s.get (R.DMA_CH.ENG 9)) (s.get (R.DMA_ST.BCTX 9)) 0x20000 false = .viol 1) ∧
    (let s := (up .play).modEng fun g => { g with winHold := 0x10000007 };
      s.coreRuns = true ∧ s.winSel = (0, 0, 0) ∧ s.winOpen 0 0 = true ∧ winBad { desc := s.eng.winHold, map := 0x100003FF } = false ∧
        winBad { desc := s.eng.winHold, map := 0x10000400 } = true ∧ (s.set (R.ENG_CTX.STATE 0 0) cxRun).winOpen 0 0 = false) ∧
    (((up .play).engRun ((up .play).get (R.DMA_CH.ENG 9)) || (up .play).engRun (fldOf 0 (R.DMA_CH.ENG 9))) = false ∧
      (((up .play).setB (R.ENG_CTL.RUN 0) true).engRun (fldOf 0 (R.DMA_CH.ENG 9))) = true) ∧
    (ready.eclkRuns = true ∧ ready.eccAt (0x10000000 + 8 * 524287) = 0 ∧
      (ready.setEcc (0x10000000 + 8 * 524287) 1).eccAt (0x10000000 + 8 * 524287) = 1 ∧
      2 ≤ (ready.setEcc (0x10000000 + 8 * 524287) 2).eccAt (0x10000000 + 8 * 524287)) := by decide +kernel

theorem witness_EngineWordsRoundTripAndSelectTheirCommand :
    ((iw 0x36 (2 ^ 14 - 1) (2 ^ 32 - 1)).op < 64 ∧ 2 ^ 14 - 1 < 2 ^ 14 ∧ 2 ^ 32 - 1 < 2 ^ 32 ∧ 2 ^ 64 - 1 < 2 ^ 64) ∧
    (up .play).issuing 3 = none ∧ (eng (iw 0x0A 0 0) {}).issuing 3 = some 1 ∧
    ((eng (iw 0x0A 0 0) {}).instrAt 3 ((eng (iw 0x0A 0 0) {}).ctx 3 1).pc).op ≠ 0x0B := by decide +kernel

theorem witness_UnassignedOffsetsReadZeroAndIgnoreWrites : inRegs 0x40070020 = true ∧ regRow 0x40070020 = none := by decide +kernel

theorem witness_RegisterWritesAreServedInOrderUnderTheirAccessCodes :
    (let l : List RegAccess := [{ master := 24, addr := 0x40070008, value := 1 }, { master := 0, addr := 0x40070018, value := 2 }];
      (up .load).coreRuns = true ∧ (l.map fun a => a.master).Nodup ∧ (up .load).busBad 24 0x40070008 1 = none) ∧
    ((regRow 0x40070008).isSome = true ∧ 31 < 32) ∧ (19 < 20 ∧ inRegs 0x40100000 = true ∧ blkOf 0x40100000 = 0x40100) ∧
    (inRegs 0x400F0004 = true ∧ blkOf 0x400F0004 = 0x400F0) := by decide +kernel

/-! #### The loader and a reload -/

/-- An image built by R267 and R268: a header, the table, and sections of type, owner, SUB, START and contents. -/
structure TSec where
  typ : Nat
  owner : Nat
  sub : Nat
  flags : Nat
  data : List Byte

def tEntry (off : Nat) (x : TSec) : List Byte :=
  le 1 x.typ ++ le 1 x.owner ++ le 1 x.sub ++ le 1 x.flags ++ le 4 off ++ le 4 x.data.length ++ le 4 (crc32 x.data) ++ List.replicate 16 0

def tPad (l : List Byte) : List Byte := l ++ List.replicate ((8 - l.length % 8) % 8) 0

def tTable : Nat → List TSec → List Byte
  | _, [] => []
  | off, x :: t => tEntry off x ++ tTable (off + (tPad x.data).length) t

/-- The 64 bytes of the header; COMPAT covers the sections of the device, which have OWNER 0xF (R271). -/
def tHeader (gen : Nat) (l : List TSec) : List Byte :=
  let tab := tTable (64 + 32 * l.length) l
  let body := l.flatMap fun x => tPad x.data
  let h := le 4 0x52475242 ++ le 2 1 ++ le 2 l.length ++ le 4 gen ++ le 4 (64 + tab.length + body.length) ++ le 2 0x1616 ++ [0, 0, 0, 0, 0, 0] ++
    le 4 0x1234 ++ le 4 (crc32 ((l.filter fun x => x.owner = 0xF).flatMap (·.data)))
  h ++ le 4 (crc32 (h ++ tab)) ++ List.replicate 28 0

def tImage (gen : Nat) (l : List TSec) : List Byte :=
  tHeader gen l ++ tTable (64 + 32 * l.length) l ++ l.flatMap fun x => tPad x.data

def tFlash (base : Nat) (l : List Byte) : Tbl Byte := (List.range l.length).zip l |>.map fun p => (base + p.1, p.2)

/-- A program of one HALT, owned by the device and started. -/
def tProg (owner : Nat) : TSec := { typ := 3, owner := owner, sub := 5, flags := 1, data := le 8 0x3000000000000000 }

/-- The least sections of a copy, with no domain enabled, and a program. -/
def tSecs (owner : Nat) : List TSec :=
  [tProg owner, { typ := 1, owner := 15, sub := 0, flags := 0, data := [] }, { typ := 8, owner := 15, sub := 0, flags := 0, data := le 4 R.SYS_DCFG.at ++ le 4 0 },
    { typ := 9, owner := 15, sub := 0, flags := 0, data := le 4 0 }, { typ := 10, owner := 15, sub := 0, flags := 0, data := le 4 0 }]

/-- A flash of 16 MiB with erase types of 4 KiB and 64 KiB. -/
def tPar : FlashParams :=
  { sfdp := true, dens := 24, dtr144 := none, m144 := none, m114 := none, suspend := none, page := 8, erase := [12, 16], statusWrite := false }

/-- LOAD at a phase of the loader, over a flash of 16 MiB that holds a copy A. -/
def ldr (l : List TSec) (p : LdrPhase) : State :=
  { up .load with img := { flash := tFlash 0 (tImage 7 l), par := tPar,
                           phase := p } }

/-- The same with copy B, of a given GEN, beside copy A. -/
def ldr2 (gen hdrs : Nat) : State :=
  let s := ldr (tSecs 15) (.header 1)
  { s with img := { s.img with flash := s.img.flash ++ tFlash 0x400000 (tImage gen (tSecs 15)), hdrs := hdrs } }

theorem witness_TheLoaderReadsHeaders :
    ((ldr [] .discover).loading .discover = true ∧ tPar.statusWrite = false ∧
      let s := (ldr [] .discover).modPwr fun p => { p with inh := true }; let p := { tPar with statusWrite := true };
      p.sfdp = true ∧ p.statusWrite = true ∧ s.pwr.inh = true) ∧
    ((ldr (tSecs 15) (.header 0)).loading (.header 0) = true ∧ (ldr (tSecs 15) (.header 0)).copyBExists = true ∧
      hdrCheck ((ldr (tSecs 15) (.header 0)).get R.SYS_ID.SREV) ((ldr (tSecs 15) (.header 0)).hdrAt 0) = 0) ∧
    (hdrCheck ((ldr [] (.header 0)).get R.SYS_ID.SREV) ((ldr [] (.header 0)).hdrAt 0) = 5) ∧
    (let s := ldr2 8 1;
      s.loading (.header 1) = true ∧ hdrCheck (s.get R.SYS_ID.SREV) (s.hdrAt 1) = 0 ∧ s.img.hdrs = 1 ∧ (s.hdrAt 0).gen < (s.hdrAt 1).gen) ∧
    (let s := ldr2 7 1;
      hdrCheck (s.get R.SYS_ID.SREV) (s.hdrAt 1) = 0 ∧ s.img.hdrs = 1 ∧ (s.hdrAt 1).gen ≤ (s.hdrAt 0).gen) ∧
    (let s := ldr2 7 0;
      hdrCheck (s.get R.SYS_ID.SREV) (s.hdrAt 1) = 0 ∧ s.img.hdrs = 0) ∧
    (let s := ldr (tSecs 15) (.header 1);
      s.loading (.header 1) = true ∧ s.img.hdrs = 0 ∧ hdrCheck (s.get R.SYS_ID.SREV) (s.hdrAt 1) ≠ 0) ∧
    (let s := { ldr [] (.header 0) with img := { (ldr [] (.header 0)).img with par.dens := 22 } };
      s.loading (.header 0) = true ∧ s.copyBExists = false ∧ s.img.hdrs = 0 ∧ hdrCheck (s.get R.SYS_ID.SREV) (s.hdrAt 0) ≠ 0) := by
  decide +kernel

theorem witness_TheLoaderChecksTables :
    ((ldr (tSecs 15) .table).loading .table = true ∧ (ldr (tSecs 15) .table).img.copy < 2 ∧
      (ldr (tSecs 15) .table).tableCheck ((ldr (tSecs 15) .table).hdrAt 0) ((ldr (tSecs 15) .table).tableAt 0) = 0) ∧
    (ldr [tProg 15] .table).tableCheck ((ldr [tProg 15] .table).hdrAt 0) ((ldr [tProg 15] .table).tableAt 0) = 8 := by
  decide +kernel

/-- A list of the device with one record. -/
def tRec (a v : Nat) : List TSec := [{ typ := 1, owner := 15, sub := 0, flags := 0, data := le 4 a ++ le 4 v }]

/-- What reading the first section of the copy comes to. -/
def firstRead (s : State) : SecRes :=
  let l := secsOf (s.tableAt 0)
  match l[0]? with
  | some x => s.dripMilestone.readSec l x (s.copyRd 0 x.off x.len) false
  | none => { st := s, code := 0 }

theorem witness_TheLoaderReadsSections :
    ((ldr (tSecs 15) .sect).loading .sect = true ∧ (secsOf ((ldr (tSecs 15) .sect).tableAt 0))[0]? ≠ none ∧
      (firstRead (ldr (tSecs 15) .sect)).code = 0) ∧
    (let r := firstRead (ldr (tRec 0x40100000 0) .sect);
      r.code = 0xA ∧ ∀ a ∈ r.st.img.touched, blkOf a ≠ 0x40100) ∧
    (let x := secOf (tEntry 0 (tProg 15)); let d := (tProg 15).data;
      x.typ = 3 ∧ formOk x d = true ∧ x.sub < 16 ∧ x.owner < 16 ∧ crc32 d = x.crc ∧ (ldr [] .sect).fuse.keyed = false ∧
        (ldr [] .sect).engRun x.sub = false) := by
  decide +kernel

theorem witness_TheLoaderCompletes :
    ((ldr (tSecs 15) .clear).loading .clear = true ∧ (ldr (tSecs 15) .clear).img.order = []) ∧
    (let s := ldr (tSecs 15) .complete; let l := secsOf (s.tableAt 0);
      s.loading .complete = true ∧ s.img.copy < 2 ∧ denCounts (denOf (s.copyRd 0) l) l = true ∧
        compatOf (s.copyRd 0) l = (s.hdrAt 0).compat ∧ ∃ x ∈ l, x.typ = 3 ∧ x.start = true ∧ x.sub < 16) ∧
    (let s := ldr ({ typ := 8, owner := 15, sub := 0, flags := 0, data := le 4 R.SYS_DCFG.at ++ le 4 0xFFFFFFFF } :: []) .complete;
      denCounts (denOf (s.copyRd 0) (secsOf (s.tableAt 0))) (secsOf (s.tableAt 0)) = false) ∧
    (let s := ldr (tSecs 15) .complete; let f := tblSet flashDflt s.img.flash 0x1C 0x55; let u := { s with img := { s.img with flash := f } };
      let l := secsOf (u.tableAt 0);
      denCounts (denOf (u.copyRd 0) l) l = true ∧ compatOf (u.copyRd 0) l ≠ (u.hdrAt 0).compat ∧
        ∀ a ∈ u.img.touched, blkOf a ≠ 0x40100) := by
  decide +kernel

/-- Domain 2 under reload from copy A, at a phase. -/
def rld (l : List TSec) (p : LdrPhase) (kept idx : Nat) : State :=
  let s := ldr l p
  { (s.modDom 2 fun x => { x with dst := .reload }) with sys := { mode := .play, past := true }, img := { s.img with rld := some 2, hcrcA := kept, idx := idx } }

/-- The HCRC of the copy. -/
def tHcrc (l : List TSec) : Nat := ((ldr l .rldTable).hdrAt 0).hcrc

theorem witness_AReloadReadsItsTable :
    (let s := rld (tSecs 2) .rldTable (tHcrc (tSecs 2)) 0;
      s.reloading 2 .rldTable = true ∧ s.img.copy < 2 ∧ (s.hdrAt 0).hcrc = s.img.hcrcA ∧ hdrCrc (s.hdrAt 0) (s.tableAt 0) = s.img.hcrcA ∧
        nextSec (reloadSecs (secsOf (s.tableAt 0)) 2) 0 = some 0) ∧
    nextSec (reloadSecs (secsOf ((ldr (tSecs 15) .rldTable).tableAt 0)) 2) 0 = none ∧
    (let s := rld (tSecs 2) .rldTable 1 0;
      (s.hdrAt 0).hcrc ≠ s.img.hcrcA ∧ (s.dom 2).dst = .reload) := by
  decide +kernel

/-- What reading the section at hand of a reload comes to. -/
def rldRead (s : State) : SecRes :=
  let l := secsOf (s.tableAt 0)
  match l[s.img.idx]? with
  | some x => s.readSec l x (s.copyRd 0 x.off x.len) true
  | none => { st := s, code := 0 }

/-- A list of domain 2 with one record. -/
def tDom (a v : Nat) : List TSec := [{ typ := 2, owner := 2, sub := 0, flags := 0, data := le 4 a ++ le 4 v }]

theorem witness_AReloadReadsItsSections :
    (let s := rld (tSecs 2) .rldSection 0 0;
      s.reloading 2 .rldSection = true ∧ (rldRead s).code = 0 ∧
        nextSec (reloadSecs (secsOf (s.tableAt 0)) 2) 1 = none) ∧
    (let s := rld (tProg 2 :: tDom 0x40010000 0) .rldSection 0 0;
      (rldRead s).code = 0 ∧ nextSec (reloadSecs (secsOf (s.tableAt 0)) 2) 1 = some 1) ∧
    (let r := rldRead (rld (tDom 0x40100000 0) .rldSection 0 0);
      r.code = 0xA ∧ (r.st.dom 2).dst = .reload) ∧
    (rld (tSecs 2) .rldEnd 0 0).reloading 2 .rldEnd = true ∧ (rld (tSecs 2) .rldEnd 0 0).img.rld ≠ some 1 := by
  decide +kernel

/-- A word of IMG_RELOAD for domain 2. -/
def rldWord (src : Nat) : Word := (((0#32 : Word) ||| 1#32 <<< R.IMG_RELOAD.GO.lo) ||| 4#32 <<< R.IMG_RELOAD.DMASK.lo) ||| BitVec.ofNat 32 src <<< R.IMG_RELOAD.SRC.lo

theorem witness_ReloadRequestsAreTakenOrRefused :
    (fldOf (rldWord 0) R.IMG_RELOAD.GO ≠ 0 ∧ fldOf (rldWord 0) R.IMG_RELOAD.DMASK = 2 ^ 2 ∧ fldOf (rldWord 0) R.IMG_RELOAD.SRC = 0) ∧
    ((up .play).coreRuns = true ∧ ((up .play).dom 2).dst = .off ∧ fldOf (0 : Word) R.IMG_RELOAD.GO = 0) ∧
    (let s := withDom .play fun x => { x with dst := .active };
      (s.dom 2).dst ≠ .off ∧ (s.dom 2).dst ≠ .reload ∧ s.sys.reloadQ.contains 2 = false ∧
        fldOf (rldWord 3) R.IMG_RELOAD.SRC = 3 ∧
        (2 - 1 ≠ b2n (s.bitI R.IMG_STAT.DSRC 2) ∧ s.copyUsable (2 - 1) = false) ∧
        1 - 1 = b2n (s.bitI R.IMG_STAT.DSRC 2)) ∧
    (let s := { withDom .play (fun x => { x with dst := .active }) with sys := { mode := .play, past := true, reloadQ := [2] } };
      (s.dom 2).dst ≠ .off ∧ s.sys.reloadQ.contains 2 = true) := by
  decide +kernel

/-! #### The Weft link, the T1 port and TDM -/

/-- An ensemble of two devices: this one at a position, the link in a state. -/
def weft (pos st : Nat) : State :=
  (((((up .play).setB R.ENS_CFG.EN true).set R.ENS_CFG.NDEV 1).set R.ENS_CFG.POS pos).set R.ENS_CFG.CFGCHK 0xABCD).set R.ENS_STAT.STATE st

/-- A frame of the master of two devices: MTB 5000, H = 700, SEQ 3 and one STATUS byte (R44). -/
def tFrameOf (cfgchk : Nat) (good : Bool) : WeftFrame :=
  weftFrameOf (le 1 0x10 ++ le 8 5000 ++ le 2 (0x8000 + 700) ++ le 2 cfgchk ++ [3, 0] ++ List.replicate 32 0 ++ [0x40] ++ List.replicate 13 0) good

/-- A good frame of the master. -/
def tFrame : WeftFrame :=
  tFrameOf 0xABCD true

/-- The link with its own state changed. -/
def weftE (pos st : Nat) (f : Ens → Ens) : State := { weft pos st with ens := f (weft pos st).ens }

theorem witness_TheWeftLinkSendsTakesAndLosesFrames :
    ((weft 0 2).ensOn = true ∧ (weft 0 2).ensPos = 0 ∧
      (weftE 0 2 fun e => { e with frames := [tFrame] }).ens.frames.head? = some tFrame) ∧
    ((weft 1 2).ensOn = true ∧ (tFrameOf 0xABCD false).crcOk = false ∧ (weft 1 2).ensPos ≠ 0) ∧
    ((weftE 1 2 fun e => { e with miss := 2 }).ensLocked = true ∧ 2 ≤ (weftE 1 2 fun e => { e with miss := 2 }).ens.miss) ∧
    ¬((weft 1 2).ensLocked = true ∧ 2 ≤ (weft 1 2).ens.miss) ∧
    ((weft 1 1).get R.ENS_STAT.STATE = 1 ∧ tFrame.crcOk = true ∧ tFrame.cfgchk.toNat = (weft 1 1).get R.ENS_CFG.CFGCHK ∧
      tFrame.hopValid = true ∧ (weft 1 1).ens.loaded = false ∧ (weft 1 1).allQuiet = true) ∧
    ((tFrameOf 1 true).cfgchk.toNat ≠ (weft 1 1).get R.ENS_CFG.CFGCHK) ∧
    ((weft 1 1).modDom 0 fun x => { x with dst := .active }).allQuiet = false ∧
    (let s := weftE 1 1 fun e => { e with loaded := true, good := 6 };
      s.ens.loaded = true ∧ s.ens.errs.length < 15 ∧ s.ens.good < 7 ∧ 16 < (s.weftErr tFrame 0).natAbs ∧
        (let u : State := { s with tb := { s.tb with now := 5044 } }; (u.weftErr tFrame 12).natAbs ≤ 16)) ∧
    7 ≤ (weftE 1 1 fun e => { e with loaded := true, good := 7 }).ens.good ∧
    ((weft 1 2).ensOn = true ∧ (weft 1 2).get R.ENS_STAT.STATE = 2 ∧ (weft 1 2).ens.errs.length < 15) ∧
    ((weft 0 1).ensOn = true ∧ (weft 0 1).get R.ENS_STAT.STATE = 1 ∧ (weft 0 1).ens.hop = none ∧ (weft 0 1).ens.rtts.length < 15 ∧
      15 ≤ (weftE 0 1 fun e => { e with rtts := List.replicate 15 1400 }).ens.rtts.length) ∧
    (weft 0 0).ensOn = false := by
  decide +kernel

/-- The header of a gPTP frame and of an AVTP packet, untagged (R229). -/
def gHdr : EthHdr := { tag := none, dst := 0x0180C200000E, etherType := 0x88F7 }
def aHdr : EthHdr := { tag := none, dst := 0x91E0F0000000, etherType := 0x22F0 }

/-- The T1 port in use, with the mapping in force. -/
def net : State := ((up .play).setB R.NET_CFG.EN true).setB R.TB_MAP_STAT.VALID true
def netCap : State := net.setB R.NET_STAT.ASCAP true
def netN (s : State) (f : Net → Net) : State := { s with net := f s.net }

theorem witness_TheT1PortKeepsTimeAndItsNeighbour :
    (net.netOn = true ∧ net.gptpFrame gHdr = true ∧ (0 : BitVec 8).toNat = net.get R.NET_CFG.GDOM ∧ net.gptpFrame aHdr = false ∧ net.net.gm = none ∧ (netN net fun n => { n with gm := some 5 }).net.gm = some 5) ∧
    (netCap.bit R.NET_STAT.ASCAP = true ∧ 7 ≤ (netN netCap fun n => { n with syncs := 7 }).net.syncs ∧
      net.bit R.TB_MAP_STAT.VALID = true ∧ (net.setB R.TB_MAP_STAT.VALID false).bit R.TB_MAP_STAT.VALID = false ∧ net.net.syncs < 7 ∧ net.bit R.NET_STAT.ASCAP = false) ∧
    (net.net.pdelaySent < allowedLost ∧ (netN netCap fun n => { n with pdelaySent := 9 }).net.pdelaySent = allowedLost) ∧
    (800 ≤ 800 ∧ 800 < 801) ∧
    ((net.setB R.NET_STAT.HOLD true).bit R.NET_STAT.HOLD = true ∧ net.bit R.NET_STAT.HOLD = false) := by
  decide +kernel

/-- Stream 1 enabled: two channels of 24 bits at 48 kHz, in a ring of four frames. -/
def strm1 (st : Nat) : State :=
  let s := ((net.setB (R.NET_SCFG.EN 1) true).set (R.NET_SCFG.NCH 1) 1).set (R.NET_SCFG.DEPTH 1) 1
  ((s.set (R.NET_SCFG.LEN 1) 4).set (R.NET_RBASE.V 1) 0x10000000).set (R.NET_SST.STATE 1) st

/-- A packet of one frame; stream IDs of reset are zero, so the first enabled stream takes ID 0. -/
def tPkt : AvtpPacket :=
  { eth := aHdr, streamId := 0, subtype := 2, version := 0, format := .int24, rate := .k48, channels := 2, bitDepth := 24, dataLen := 6, tv := true,
    timestamp := 2000000, seqNum := 4, frames := [[1, 2]] }

theorem witness_AvtpPackets :
    ((strm1 1).avtpFrame tPkt.eth = true ∧ (strm1 1).avtpFrame gHdr = false ∧ (strm1 1).strmOf tPkt.streamId = some 1 ∧ (strm1 1).avtpFail tPkt (some 1) = none ∧
      (strm1 1).bit R.TB_MAP_STAT.VALID = true ∧ (strm1 1).net.pkts.length < 64 ∧ tPkt.tv = true) ∧
    (strm1 1).avtpFail { tPkt with channels := 3 } (some 1) = some 4 ∧
    (net.strmOf tPkt.streamId = none ∧ net.avtpFail tPkt none = none) ∧
    ((strm1 1).setB R.TB_MAP_STAT.VALID false).bit R.NET_STAT.HOLD = false ∧
    64 ≤ (netN (strm1 1) fun n => { n with pkts := List.replicate 64 { n := 1, arr := 0, frames := [], late := false } }).net.pkts.length := by
  decide +kernel

/-- Stream 1 with one stored frame, due at tick 9000; and with a frame released at tick 5000. -/
def strm1p : State := netN (strm1 1) fun n => { n with pkts := [{ n := 1, arr := 0, frames := [(9000, [1, 2])], late := false }] }
def strm1r : State := netN (strm1 2) fun n => { n with strms := [(1, { last := some 5000 })] }

theorem witness_StreamsReleaseAndFill :
    ((strm1 1).sst 1 ≠ stOff ∧ ((strm1 1).strm 1).last = none ∧ firstRel 1 (strm1 1).net.pkts = none) ∧
    ((strm1p.strm 1).last = none ∧ firstRel 1 strm1p.net.pkts = some 9000 ∧ takeRel 1 9000 strm1p.net.pkts = ([1, 2], []) ∧
      strm1p.sst 1 ≠ stOff ∧ (strm1p.purge 1).net.pkts = strm1p.net.pkts ∧
      ringOk (strm1p.get (R.NET_RBASE.V 1)) (strm1p.get (R.NET_SCFG.LEN 1)) 2 = true ∧ ∀ k : Nat, strm1p.eccAt k = 0) ∧
    (strm1r.zeroDue 1 = some (5000 + 8192) ∧ ∀ k : Nat, strm1r.eccAt k = 0) ∧
    ((strm1 2).sst 1 = stRun ∧ (strm1 1).sst 1 ≠ stRun) ∧
    ((strm1 1).scfgBad 1 (1#32 <<< (R.NET_SCFG.EN 1).lo) = true ∧ net.scfgBad 1 0 = false ∧ (strm1 1).scfgBad 1 0 = false ∧
      (strm1 1).bit (R.NET_SCFG.EN 1) = true) :=
  ⟨by decide +kernel, ⟨by decide +kernel, by decide +kernel, by decide +kernel, by decide +kernel, by decide +kernel, by decide +kernel,
    fun _ => rfl⟩, ⟨by decide +kernel, fun _ => rfl⟩, by decide +kernel, by decide +kernel⟩

/-- TDM-A enabled: two slots of 32 bits, in a ring of four frames, after a frame at tick 5000. -/
def tdmA (st : Nat) (last : Option Nat) : State :=
  let s := (((up .play).setB R.TDM_ACFG.EN true).set R.TDM_ACFG.SLOTS 1).set R.TDM_ACFG.SW 2
  { ((s.set R.TDM_ALEN.V 4).set R.TDM_ARBASE0.V 0x10000000).set R.TDM_STAT.ASTATE st with tdms := [(0, { last := last, good := 15 })] }

/-- TDM-B enabled as a master: four slots of 32 bits, frames of 4 × 32 × 16 × 4 = 8192 ticks. -/
def tdmB : State :=
  let s := ((((up .play).setB R.TDM_BCFG.EN true).set R.TDM_BCFG.SLOTS 3).set R.TDM_BCFG.SW 2).setB R.TDM_BCFG.MST true
  (((s.set R.TDM_BCFG.BDIV 3).set R.TDM_BLEN.V 4).set R.TDM_BIBASE.V 0x10000000).set R.TDM_BOBASE.V 0x10001000

theorem witness_TdmPorts :
    ((tdmA 1 none).tdmEn 0 = true ∧ (tdmA 1 none).tdmBad 0 = false ∧ ((tdmA 1 none).tdm 0).last = none) ∧
    ((tdmA 1 (some 5000)).tdmClocks 0 = 64 ∧ ((tdmA 1 (some 5000)).tdm 0).last ≠ none ∧ (63 : Nat) ≠ (tdmA 1 (some 5000)).tdmClocks 0) ∧
    ((tdmA 1 (some 5000)).bit R.TDM_ACFG.D1EN = false ∧ (tdmA 1 (some 5000)).get (tdmRegs 0).state = stWait ∧
      ∀ k : Nat, (tdmA 1 (some 5000)).eccAt k = 0) ∧
    ((tdmA 2 (some 5000)).get (tdmRegs 0).state = stRun ∧ ((tdmA 2 (some 5000)).tdm 0).last = some 5000) ∧
    (let s := (tdmA 1 (some 5000)).set R.TDM_ACFG.SW 3;
      s.tdmEn 0 = true ∧ s.tdmBad 0 = true) ∧
    (let s := ((tdmA 1 (some 5000)).setB R.TDM_ACFG.D1EN true).set R.TDM_ARBASE1.V 0x10001000;
      s.bit R.TDM_ACFG.D1EN = true ∧ ringOk (s.get R.TDM_ARBASE0.V) (s.get R.TDM_ALEN.V) (s.tdmWords 0) = true ∧
        ringOk (s.get R.TDM_ARBASE1.V) (s.get R.TDM_ALEN.V) (s.tdmWords 0) = true) ∧
    (tdmB.tdmEn 1 = true ∧ tdmB.bit R.TDM_BCFG.MST = true ∧ tdmB.tdmBad 1 = false) :=
  ⟨by decide +kernel, by decide +kernel, ⟨by decide +kernel, by decide +kernel, fun _ => rfl⟩, by decide +kernel, by decide +kernel,
    by decide +kernel, by decide +kernel⟩

/-! #### The vehicle bus and the diagnostic service -/

/-- PLAY with the CAN port on, in a session. -/
def can (ses : Nat) : State := (((up .play).setB R.CLK_STAT.PLLC_LOCK true).setB R.CAN_CFG.EN true).set R.DSU_STAT.SESS ses

/-- A physical request in classic frames, which suppresses nothing. -/
def req : ReqKind := { id := 0x6B2, functional := false, suppress := false, fd := false }

/-- A state whose DSU unit is changed. -/
def withDsu (s : State) (f : Dsu → Dsu) : State := { s with dsu := f s.dsu }

/-- One entry of the control section: identifier 0x123, at least two bytes, a time-out of 100 ms, a mailbox (R350). -/
def ctlImg (mailbox : Nat) : State :=
  { can 1 with img := { ctl := le 4 1 ++ le 4 0x123 ++ le 4 0x7FF ++ le 4 (100 * 65536 + 2) ++ le 4 mailbox } }

/-- A classic frame of the entry. -/
def ctlFrame (id : BitVec 29) : CanFrame := { id := id, ext := false, fd := false, data := [1, 2, 3] }

theorem witness_ControlFrames :
    ((ctlImg 0x10000040).canOn = true ∧ (ctlFrame 0x123).remote = false ∧ (ctlFrame 0x123).fd = false ∧
      (List.range (ctlImg 0x10000040).ctlCount).find? ((ctlImg 0x10000040).ctlMatch (ctlFrame 0x123)) = some 0 ∧
      (ctlImg 0x10000040).ctlTakes (ctlFrame 0x123) 0 = true ∧ (ctlImg 0x10000040).ctlWord 0 3 = 0x10000040 ∧
      0x10000040 % 8 = 0 ∧ 0x10000040 + 72 ≤ 0x10400000 ∧ (ctlImg 0x10000040).mailboxShared 0x10000040 = false ∧
      ∀ k : Nat, (ctlImg 0x10000040).eccAt k = 0) ∧
    ((ctlImg 0x103FFFB8).ctlWord 0 3 = 0x103FFFB8 ∧ 0x103FFFB8 % 8 = 0 ∧ 0x103FFFB8 + 72 ≤ 0x10400000) ∧
    ((ctlImg 0x20000000).ctlWord 0 3 = 0x20000000 ∧ ¬(0x20000000 + 72 ≤ 0x10400000)) ∧
    (List.range (ctlImg 0).ctlCount).find? ((ctlImg 0).ctlMatch (ctlFrame 0x124)) = none ∧
    (ctlImg 0).ctlTakes { ctlFrame 0x123 with data := [1] } 0 = false ∧
    ((ctlImg 0).canInService = true ∧ (0 : Nat) < (ctlImg 0).ctlCount ∧ (ctlImg 0).ctlWord 0 2 / 65536 ≠ 0 ∧
      (ctlImg 0).bitI R.CAN_TMO.V 0 = false ∧ ((ctlImg 0).set R.CAN_TMO.V 1).bitI R.CAN_TMO.V 0 = true) :=
  ⟨⟨by decide +kernel, by decide +kernel, by decide +kernel, by decide +kernel, by decide +kernel, by decide +kernel, by decide +kernel,
    by decide +kernel, by decide +kernel, fun _ => rfl⟩, by decide +kernel, by decide +kernel, by decide +kernel, by decide +kernel, by decide +kernel⟩

/-- TesterPresent answers 02 7E 00 under RSPID, padded with 0xCC; a message of 8 bytes needs two frames of 8 (R352, R369). -/
theorem test_framesOfAResponse :
    ((can 1).positiveSub req 0x3E [0]).dsu.out =
      [{ id := 0x6BA, fd := false, brs := false, data := [0x02, 0x7E, 0x00, 0xCC, 0xCC, 0xCC, 0xCC, 0xCC] }] ∧
    (((can 1).send false [1, 2, 3, 4, 5, 6, 7, 8]).sendNext 0 { rest := [7, 8], sn := 1, fd := false }).dsu.out =
      [{ id := 0x6BA, fd := false, brs := false, data := [0x21, 7, 8, 0xCC, 0xCC, 0xCC, 0xCC, 0xCC] }] ∧
    ((can 1).send false [1, 2, 3, 4, 5, 6, 7, 8]).dsu.out =
      [{ id := 0x6BA, fd := false, brs := false, data := [0x10, 8, 1, 2, 3, 4, 5, 6] }] := by decide +kernel

theorem witness_CanStatesAndMessages :
    ((can 1).canOn = true ∧ (can 1).get R.CAN_STAT.STATE = 0 ∧ ((can 1).set R.CAN_STAT.STATE 1).get R.CAN_STAT.STATE = 1 ∧
      ((can 1).set R.CAN_STAT.STATE 1).canOn = true ∧ ((can 1).set R.CAN_STAT.STATE 2).get R.CAN_STAT.STATE = 2) ∧
    ((can 1).reqOn = true ∧ ([1, 2, 3, 4, 5, 6] : List Byte).length < 8 ∧ 8 ≤ 4095 ∧ (4095 : Nat) < 4096 ∧
      (can 1).bit R.CAN_CFG.FDEN = true ∧ ((can 1).setB R.CAN_CFG.FDEN false).reqOn = true) ∧
    (let s := withDsu (can 1) fun x => { x with rx := some { len := 30, buf := [1, 2, 3, 4, 5, 6], sn := 1, left := 0, fd := false } };
      s.reqOn = true ∧ s.dsu.rx = some { len := 30, buf := [1, 2, 3, 4, 5, 6], sn := 1, left := 0, fd := false } ∧ (1 : BitVec 4).toNat = 1 ∧
        6 + 7 < 30 ∧ (0 : Nat) ≠ 1 ∧ (2 : BitVec 4).toNat ≠ 1) ∧
    (let s := withDsu (can 1) fun x => { x with rx := some { len := 30, buf := [1, 2, 3, 4, 5, 6], sn := 1, left := 1, fd := false } };
      s.dsu.rx = some { len := 30, buf := [1, 2, 3, 4, 5, 6], sn := 1, left := 1, fd := false }) ∧
    (let s := withDsu (can 1) fun x => { x with tx := some { rest := [1, 2], sn := 1, fd := false } };
      s.diagOn = true ∧ s.dsu.tx = some { rest := [1, 2], sn := 1, fd := false }) ∧
    (let s := withDsu (can 1) fun x => { x with pend := some { sid := 0x14, kind := req } };
      s.diagOn = true ∧ s.dsu.pend = some { sid := 0x14, kind := req } ∧ (0x14 : BitVec 8).toNat = 0x14) := by
  decide +kernel

theorem witness_SessionsOpenCloseAndReset :
    ((can 1).takes req 2 ∧ (can 1).get R.DSU_STAT.SESS = 1 ∧ (can 3).get R.DSU_STAT.SESS = 3 ∧ (can 2).get R.DSU_STAT.SESS ≠ 3) ∧
    ((can 3).coreRuns = true ∧ (can 3).get R.DSU_STAT.SESS ≠ 1 ∧ ((can 3).setB R.IMG_STAT.DLACT true).bit R.IMG_STAT.DLACT = true) ∧
    ((can 3).takes { req with id := 0x7DF, functional := true } 7 ∧ (withDsu (can 1) fun x => { x with resetPend := true }).dsu.resetPend = true) ∧
    (up .play).reqOn = false ∧ (can 1).frameTaken { req with id := 0x6B3 } = false := by
  unfold State.takes; decide +kernel

/-- A record of the main ring. -/
def tRec2 : State := { (can 3).setB R.FLS_STAT.READY true with fls := { lastSeq := 9, main := [(4, .rcd { seq := 9, code := 0x0501, sev := 2, supp := 3 })] } }

/-- Security unlocked; SERVICE. -/
def unlocked (ses : Nat) : State := (can ses).setB R.DSU_STAT.SEC true
def unlockedService (ses : Nat) : State := { unlocked ses with sys := { mode := .service, past := true } }

/-- An identifier of the image, writable, of four bytes of Gallery (R359). -/
def withDid (sec : Bool) : State :=
  { ((can 3).setB R.DSU_STAT.SEC sec) with img := { ids := le 4 1 ++ le 4 (0xF190 + 4 * 65536 + 2 * 2 ^ 24) ++ le 4 0x10000000 } }

theorem witness_TroubleCodes :
    ((can 1).takes req 3 ∧ (can 1).get R.DSU_STAT.SESS ≠ 0 ∧ (tRec2.dtcCodes 0xFF).length = 1 ∧ (tRec2.dtcCodes 0xFF).length ≤ 1022) ∧
    (tRec2.takes req 6 ∧ (0xA10501 : BitVec 24).toNat / 65536 = 0xA1 ∧
      tRec2.dtcRecs.filter (fun r => r.code == BitVec.ofNat 16 (0xA10501 : BitVec 24).toNat) ≠ []) ∧
    (0xA20501 : BitVec 24).toNat / 65536 ≠ 0xA1 ∧
    ((can 3).takes req 2 ∧ (can 3).bit R.DSU_STAT.DTCOFF = false ∧ ((can 3).setB R.DSU_STAT.DTCOFF true).bit R.DSU_STAT.DTCOFF = true) ∧
    ((unlocked 3).takes req 4 ∧ (unlocked 3).bit R.DSU_STAT.SEC = true ∧ (unlocked 3).get R.DSU_STAT.SESS = 3 ∧
      (unlocked 3).sys.mode ≠ .service ∧ (unlocked 3).sys.mode ≠ .hold) ∧
    ((unlockedService 3).takes req 4 ∧ (unlockedService 3).sys.mode = .service) ∧
    (can 1).get R.DSU_STAT.SESS ≠ 3 := by
  unfold State.takes; decide +kernel

theorem witness_DataIdentifiersAndMemory :
    (didRegs 0xFD00 ≠ none ∧ (0xF190 : BitVec 16).toNat < 0xFD00 ∧ (can 1).didEntry 0xF190 = none) ∧
    ((can 1).takes req (1 + 2 * 3) ∧ (can 1).takes req (1 + 2 * 5) ∧ 4 < [(1 : BitVec 16), 2, 3, 4, 5].length) ∧
    ((can 1).takes req 10 ∧ memOk 0x44 0x10000000 8 = true ∧ memOk 0x44 0x10000000 4092 = false ∧
      ∀ k : Nat, k < 2 → (can 1).plainWord (0x10000000 + 4 * k)) ∧
    ((can 3).takes req (10 + 4) ∧ inPrivate 0x10000000 4 = false ∧ (can 3).bit R.DSU_STAT.SEC = false ∧
      ∃ a : Nat, inPrivate a 4 = true) ∧
    ((unlocked 3).bit R.DSU_STAT.SEC = true ∧ ([1, 2, 3, 4] : List Byte).length = (4 : Word).toNat ∧ memOk 0x44 0x10000000 4 = true ∧
      (unlocked 3).plainWord (0x10000000 + 4 * 0)) ∧
    ((withDid false).takes req (3 + 4) ∧
      (withDid false).didEntry 0xF190 = some { did := 0xF190, len := 4, kind := 2, res := 0, src := 0x10000000 } ∧
      (withDid false).bit R.DSU_STAT.SEC = false ∧ (withDid true).bit R.DSU_STAT.SEC = true ∧ (withDid true).plainWord 0x10000000 ∧
      ([1, 2, 3] : List Byte).length ≠ 4) := by
  refine ⟨by decide +kernel, by unfold State.takes; decide +kernel, ⟨by unfold State.takes; decide +kernel, by decide +kernel, by decide +kernel, ?_⟩,
    ⟨by unfold State.takes; decide +kernel, by decide +kernel, by decide +kernel, ⟨0x1000, by decide +kernel⟩⟩,
    by unfold State.plainWord; decide +kernel, by unfold State.takes State.plainWord; decide +kernel⟩
  unfold State.plainWord; decide +kernel

theorem witness_SeedsAndKeys :
    ((can 3).takes req 2 ∧ (can 3).bit R.DSU_STAT.LOCK = false ∧ ((can 3).setB R.DSU_STAT.LOCK true).bit R.DSU_STAT.LOCK = true ∧
      (unlocked 3).bit R.DSU_STAT.SEC = true ∧ (can 3).bit R.DSU_STAT.SEC = false) ∧
    ((can 3).takes req (2 + (List.replicate 16 (0 : Byte)).length) ∧ (can 3).dsu.seed = none) ∧
    (let s := withDsu (can 3) fun x => { x with seed := some (List.replicate 16 1) };
      s.dsu.seed = some (List.replicate 16 1) ∧ (cmac s.saKey (List.replicate 16 1)).length = 16 ∧
        cmac s.saKey (List.replicate 16 1) ≠ List.replicate 16 0 ∧ s.pwr.saCnt < 2) := by
  unfold State.takes; decide +kernel

theorem witness_Routines :
    ((unlockedService 3).takes req 16 ∧ (unlockedService 3).takes req 15 ∧ (15 : BitVec 8).toNat ≤ 15 ∧ (16 : BitVec 8).toNat > 15 ∧
      (unlockedService 3).zReady 15 = false) ∧
    (let s := (unlockedService 3).setI (R.LFC_RUN.RUN 2) 1 true;
      s.zReady 9 = true ∧ (s.dom (9 / 4)).zrun = false ∧ min ((1 : BitVec 16).toNat * (393216 / s.audioH (9 / 4))) 0xFFFFF ≠ 0) ∧
    ((unlocked 2).takes req 5 ∧ (unlocked 2).bit R.DSU_STAT.SEC = true ∧ (0x04 : BitVec 8).toNat % 16 = 2 ^ 2 ∧ ((unlocked 2).dom 2).dst = .off) ∧
    ((unlocked 3).routineResults 0xFE05 0 = none ∧ (unlocked 3).routineResults 0xFE03 0 = some [] ∧
      tblGet (fun _ => false) (unlocked 3).dsu.started 0xFE03 = false ∧
      tblGet (fun _ => false) (withDsu (unlocked 3) fun x => { x with started := [(0xFE03, true)] }).dsu.started 0xFE03 = true) := by
  unfold State.takes; decide +kernel

/-- The programming session over a flash of 8 MiB with every domain disabled; a download of an image of a length, so far. -/
def prog (act : Bool) (n : Nat) (l : List Byte) : State :=
  let s := (((unlocked 2).set R.SYS_DCFG.DEN 0).setB R.IMG_STAT.DLACT act).set R.IMG_DLCNT.V n
  { s with img := { par := { sfdp := true, dens := 23, dtr144 := none, m144 := none, m114 := none, suspend := none, page := 8, erase := [12, 16], statusWrite := false }, dlSize := l.length,
                    dlBuf := l.take (min n 256), dlCtr := 2, dlGot := true,
                    flash := tFlash 0 l |>.filter fun e => decide (256 ≤ e.1) && decide (e.1 < n) } }

theorem witness_Downloads :
    ((prog false 0 []).takes req 11 ∧ (prog false 0 []).inReload = false ∧
      (prog false 0 []).dlRefusal { kind := req, dfi := 0, fmt := 0x44, addr := 0x400000, size := 0x400000 } = 0 ∧
      dlTarget (0x400000 : Word).toNat = some 1 ∧
      (prog true 0 []).dlRefusal { kind := req, dfi := 0, fmt := 0x44, addr := 0, size := 0x1000 } ≠ 0) ∧
    (((prog true 0 []).modDom 2 fun x => { x with dst := .reload }).inReload = true ∧
      ((prog true 100 (List.replicate 300 1)).modPwr fun p => { p with inh := true }).pwr.inh = true ∧ 256 < 100 + 200) ∧
    (let s := prog true 100 (List.replicate 300 1);
      s.takes req (2 + 200) ∧ s.get R.IMG_DLCNT.V = 100 ∧ s.bit R.IMG_STAT.DLACT = true ∧ s.img.dlGot = true ∧
        (3 : BitVec 8) = s.img.dlCtr + 1 ∧ (5 : BitVec 8) ≠ s.img.dlCtr ∧ (5 : BitVec 8) ≠ s.img.dlCtr + 1 ∧
        100 + 200 ≤ s.img.dlSize ∧ s.img.dlSize < 100 + 201 ∧ s.pwr.inh = false ∧ s.img.dlBuf.length = min 100 256) ∧
    (let l := tImage 7 (tSecs 15); let s := prog true l.length l;
      s.takes req 1 ∧ s.copyCheck s.dlRd = none ∧ s.get R.IMG_DLCNT.V = s.img.dlSize ∧ s.genAbove (hdrOf (s.dlRd 0 64)).gen = true ∧
        s.img.dlCopy < 2) ∧
    (prog true 0 []).copyCheck (prog true 0 []).dlRd ≠ none ∧
    ((prog false 0 []).bit R.IMG_STAT.DLACT = false ∧ (prog false 0 []).img.fSusp = false ∧ (can 1).get R.DSU_STAT.SESS = 1) := by
  unfold State.takes; decide +kernel

/-! #### Drip and Flowstone -/

/-- Drip in an ordinary cycle at token 0xE270: armed or not, at a count of 64 μs units. -/
def drip (armed : Bool) (c : Nat) : State :=
  let s := ((((up .play).setB R.DRP_STAT.START false).set R.DRP_STAT.TOKEN 0xE270).setB R.DRP_STAT.ARMED armed).set R.DRP_CNT.C c
  { ((s.set R.DRP_WIN.TMIN 10).set R.DRP_WIN.TMAX 20).set R.DRP_WIN.FLIM 2 with fls := { dripOn := true } }

theorem witness_DripCycles :
    ((up .play).coreRuns = true ∧ (up .play).fls.dripOn = false) ∧
    ((drip false 0).fls.dripOn = true ∧ (drip false 0).bit R.DRP_STAT.START = false ∧ (drip false 0).get R.DRP_STAT.TOKEN = 0xE270 ∧
      (drip false 0).bit R.DRP_STAT.ARMED = false ∧ (0xE270 : Word).toNat = 0xE270) ∧
    ((drip true 640).bit R.DRP_STAT.ARMED = true ∧ (0xFFFF1D8F : Word).toNat = 0xFFFF0000 + (0xE270 ^^^ 0xFFFF) ∧
      (drip true 640).dripCauses = 0 ∧ ¬((drip true 640).get R.DRP_CNT.C < 64 * max ((drip true 640).get R.DRP_WIN.TMIN) 1) ∧
      (drip true 640).get R.DRP_CNT.C + 2 ≤ 64 * (drip true 640).get R.DRP_WIN.TMAX) ∧
    ((drip true 637).get R.DRP_CNT.C + 2 < 64 * max ((drip true 637).get R.DRP_WIN.TMIN) 1 ∧
      (drip true 637).get R.DRP_STAT.FAILCNT + 1 < max ((drip true 637).get R.DRP_WIN.FLIM) 1) ∧
    64 * (drip true 1280).get R.DRP_WIN.TMAX < (drip true 1280).get R.DRP_CNT.C + 1 ∧
    (let s := (drip true 637).set R.DRP_STAT.FAILCNT 1;
      max (s.get R.DRP_WIN.FLIM) 1 ≤ s.get R.DRP_STAT.FAILCNT + 1) ∧
    ((drip true 0).fls.csrc = false ∧ ({ drip true 0 with fls := { dripOn := true, csrc := true } } : State).fls.csrc = true) ∧
    (let s : State := { drip true 0 with fls := { dripOn := true, unexp := 4 } }; s.fls.unexp.testBit 2 = true ∧ s.dripCauses.testBit 4 = true) ∧
    (let s := ({ drip false 0 with sys := { mode := .hold } } : State).set R.IMG_STAT.COPY 3;
      s.sys.mode = .hold ∧ s.get R.IMG_STAT.COPY = 3 ∧ s.fls.dripOn = true ∧ s.bit R.DRP_STAT.START = false ∧
        (s.setB R.DRP_STAT.START true).bit R.DRP_STAT.START = true) := by
  decide +kernel

/-- The recorder at work, with a staged record and a main ring. -/
def fls (t : Tbl Slot) (ret : List Nat) : State :=
  { (up .play).setB R.FLS_STAT.READY true with
    fls := { stage := [{ code := 0x0501, sev := 1 }], main := t, retired := ret, buckets := [(0x0501, { tok := 2 })] } }

/-- The last block full of records of severity 1, every other block retired. -/
def fullRing (sev : BitVec 2) : Tbl Slot := (List.range 32).map fun k => (7136 + k, .rcd { seq := BitVec.ofNat 32 (k + 1), sev := sev })
def full (sev : BitVec 2) : State := fls (fullRing sev) (List.range 223)

theorem retired_below (s : State) (h : s.fls.retired = List.range 223) : ∀ j : Nat, j < 7136 → s.blockRetired j = true := by
  intro j hj; simp only [State.blockRetired, h, List.contains_eq_mem, List.mem_range, decide_eq_true_eq]; omega

theorem full_occupied : ∀ j : Nat, j < 7168 → (full 1).blockRetired j = true ∨
    slotEmpty (full 1).fls.cnt.clrSeq (tblGet (fun _ => .blank) (full 1).fls.main j) = false := by
  intro j hj
  rcases Nat.lt_or_ge j 7136 with h | h
  · exact .inl (retired_below _ rfl j h)
  · right
    obtain ⟨k, rfl⟩ := Nat.exists_eq_add_of_le h
    have : ∀ k : Nat, k < 32 → slotEmpty (full 1).fls.cnt.clrSeq (tblGet (fun _ => .blank) (full 1).fls.main (7136 + k)) = false := by decide +kernel
    exact this k (by omega)

theorem witness_FlowstoneCommits :
    ((fls [] []).commitReady = true ∧ (fls [] []).fls.stage = [{ code := 0x0501, sev := 1 }] ∧ (fls [] []).bit R.FLS_STAT.DEGRADED = false) ∧
    (let s := fls [(0, .rcd { seq := 5 })] [];
      s.blockRetired 1 = false ∧ slotEmpty s.fls.cnt.clrSeq (tblGet (fun _ => .blank) s.fls.main 1) = true ∧
        ∀ j : Nat, j < 1 → s.blockRetired j = true ∨ slotEmpty s.fls.cnt.clrSeq (tblGet (fun _ => .blank) s.fls.main j) = false) ∧
    ((7136, Slot.rcd { seq := 1, sev := 1 }) ∈ (full 1).fls.main ∧ (full 1).blockRetired 7136 = false ∧
      ∀ e ∈ (full 1).fls.main, e.1 = 7136 ∨ ∀ k : Nat, k < 32 → e.2 = .rcd { seq := BitVec.ofNat 32 (k + 1), sev := 1 } →
        seqLe (BitVec.ofNat 32 (k + 1)) 1 = false) ∧
    (fls [] []).spillSlot 1 = some 64 ∧
    (∀ e ∈ (full 2).fls.main, ∀ k : Nat, k < 32 → e.2 = .rcd { seq := BitVec.ofNat 32 (k + 1), sev := 2 } → (1 : BitVec 2) < 2) ∧
    (((fls [] []).setB R.FLS_STAT.DEGRADED true).bit R.FLS_STAT.DEGRADED = true ∧ (fls [] []).fls.mirror.length < 64) ∧
    (fls [] []).commitReady = true := by
  decide +kernel

theorem witness_FlowstoneScansClearsAndCopies :
    (evtExempt 0x0501 = false ∧ ((fls [] []).bucketDP 0x0501).2 ≠ 0 ∧ ((fls [] []).bucket 0x0501).tok < ((fls [] []).bucketDP 0x0501).1 ∧
      ((fls [] []).bucketDP 0x0502).1 ≤ ((fls [] []).bucket 0x0502).tok) ∧
    (let s := { fls [] [] with fls := { scanPend := true } }; s.fls.scanPend = true ∧ s.pwr.vauxGood = true ∧
      newestCopy s.fls.cntA s.fls.cntB ≠ none ∧ s.newestFound = none) ∧
    ((unlockedService 1).coreRuns = true ∧ (unlockedService 1).sys.mode = .service) ∧
    (let s := (fls [] []).setB R.FLS_STAT.CLRPEND true;
      s.bit R.FLS_STAT.CLRPEND = true ∧ s.commitReady = true ∧ s.fls.cnt.nextSeq - 1 = 0 ∧ s.dsu.pend = none ∧
        (s.evtEntry 0x0B61).any (fun e => e.dis) = false ∧ s.blockRetired 0 = false ∧ tblGet (fun _ => .blank) s.fls.main 0 = .blank) ∧
    (fldOf (0 : Word) R.FLS_CURSOR.SLOT < areaSlots (fldOf (0 : Word) R.FLS_CURSOR.AREA)) ∧
    (∃ w : Word, areaSlots (fldOf w R.FLS_CURSOR.AREA) ≤ fldOf w R.FLS_CURSOR.SLOT) ∧
    (let s := { fls [] [] with fls := { copyPend := true } }; s.coreRuns = true ∧ s.fls.copyPend = true) ∧
    ((fls [] []).bit R.FLS_CURSOR.AINC = false ∧ ((fls [] []).setB R.FLS_CURSOR.AINC true).bit R.FLS_CURSOR.AINC = true) := by
  refine ⟨by decide +kernel, by decide +kernel, by decide +kernel, by decide +kernel, by decide +kernel,
    ⟨(BitVec.ofNat 32 8191) <<< R.FLS_CURSOR.SLOT.lo, by decide +kernel⟩, by decide +kernel, by decide +kernel⟩

/-! #### The invariant -/

theorem witness_EveryStepKeepsTheInvariant :
    State.reset.inv ∧ (∃ t : State, step State.reset = .next t) ∧
    (let s : State := { State.reset with pending := [.sleep] };
      s.inv ∧ ∃ t : State, step s = .next t) := by
  refine ⟨⟨by decide +kernel, by decide +kernel, by decide +kernel⟩, ⟨_, rfl⟩, ⟨by decide +kernel, by decide +kernel, by decide +kernel⟩, ⟨_, rfl⟩⟩

/-! ### Well-formedness refuses each kind of operand that no event carries -/

/-- Parameters of a flash with one read mode. -/
def wfPar (m : Option Nat) : FlashParams := { sfdp := true, dens := 24, dtr144 := m, m144 := m, m114 := m, suspend := none, page := 8, erase := [12], statusWrite := false }

/-- A calibration of a slice with some bit weights. -/
def wfCal (n : Nat) : SliceCal := { ofs := 0, gndev := 0, weights := List.replicate n 1, skew := 0, weightsOk := true, skewOk := true }

theorem test_wf_powerAndImage :
    Instr.wf (.powerFailDetect 0 64) = true ∧ Instr.wf (.powerFailDetect 0 65) = false ∧
    Instr.wf (.flashDiscovery (wfPar (some 38))) = true ∧ Instr.wf (.flashDiscovery (wfPar (some 39))) = false ∧
    Instr.wf (.flashDiscovery { wfPar none with erase := [] }) = false := by decide +kernel

theorem test_wf_converter :
    Instr.wf (.sliceCalibrationDone (wfCal 18)) = true ∧ Instr.wf (.sliceCalibrationDone (wfCal 17)) = false ∧
    Instr.wf (.startCalibrationDone (List.replicate 13 (wfCal 18))) = true ∧
    Instr.wf (.startCalibrationDone (List.replicate 12 (wfCal 18))) = false ∧
    Instr.wf (.startCalibrationDone (List.replicate 13 (wfCal 19))) = false := by decide +kernel

theorem test_wf_monitors :
    Instr.wf (.filteredLevelChange 3 [100] [true]) = true ∧ Instr.wf (.filteredLevelChange 3 [] []) = false ∧
    Instr.wf (.filteredLevelChange 3 [100] []) = false ∧
    Instr.wf (.nfltLevelChange 3 []) = false ∧ Instr.wf (.nfltLevelChange 3 [false]) = true := by decide +kernel

theorem test_wf_links :
    Instr.wf (.weftFrameArrive tFrame 0) = true ∧
    Instr.wf (.weftFrameReturn { sym := tFrame.sym.drop 1 } 0) = false ∧
    Instr.wf (.gptpSync ⟨gHdr, 0⟩ 0 ⟨0, 999999999⟩ 0) = true ∧ Instr.wf (.gptpSync ⟨gHdr, 0⟩ 0 ⟨0, 1000000000⟩ 0) = false ∧
    Instr.wf (.gptpSync ⟨gHdr, 0⟩ (2 ^ 64) ⟨0, 0⟩ 0) = false ∧ Instr.wf (.gptpSync ⟨gHdr, 0⟩ 0 ⟨2 ^ 48, 0⟩ 0) = false ∧
    Instr.wf (.avtpPacket tPkt) = true ∧ Instr.wf (.avtpPacket { tPkt with frames := [[1]] }) = false ∧
    Instr.wf (.tdmFrame .a (List.replicate 16 0) [] ⟨0, false⟩) = true ∧ Instr.wf (.tdmFrame .a (List.replicate 17 0) [] ⟨0, false⟩) = false ∧
    Instr.wf (.tdmFrame .a [] (List.replicate 17 0) ⟨0, true⟩) = false ∧ Instr.wf (.tbNowLoRead 80) = true ∧ Instr.wf (.tbNowLoRead 81) = false := by
  decide +kernel

theorem test_wf_vehicleBus :
    Instr.wf (.controlFrameReceived ⟨ctlFrame 0x7FF, false⟩) = true ∧ Instr.wf (.controlFrameReceived ⟨ctlFrame 0x800, false⟩) = false ∧
    Instr.wf (.controlFrameReceived ⟨{ ctlFrame 0 with data := List.replicate 9 0 }, true⟩) = false ∧
    Instr.wf (.controlFrameReceived ⟨{ ctlFrame 0 with fd := true, data := List.replicate 65 0 }, false⟩) = false ∧
    Instr.wf (.firstFrame (.first 100 (List.replicate 63 0))) = false ∧ Instr.wf (.firstFrame (.consecutive 1 [])) = false ∧
    Instr.wf (.firstFrame (.consecutive 1 (List.replicate 64 0))) = false ∧ Instr.wf (.firstFrame (.consecutive 1 [0])) = true ∧
    Instr.wf (.readDataByIdentifier req []) = false ∧ Instr.wf (.readDataByIdentifier req [0xF190]) = true := by decide +kernel

theorem test_wf_longOperands :
    Instr.wf (.filteredLevelChange 3 (List.replicate 256 0) (List.replicate 256 false)) = false ∧ Instr.wf (.nfltLevelChange 3 (List.replicate 256 true)) = false ∧
    Instr.wf (.readDataByIdentifier req (List.replicate 2048 0)) = false ∧
    Instr.wf (.sendKey req (List.replicate 4094 0)) = false ∧ Instr.wf (.writeDataByIdentifier req 0 (List.replicate 4093 0)) = false ∧
    Instr.wf (.transferData req 0 (List.replicate 4094 0)) = false ∧
    Instr.wf (.writeMemoryByAddress req 0 0 0 (List.replicate 4086 0)) = false := by decide +kernel

theorem test_wf_registerWrites :
    Instr.wf (.registerWrite [{ master := 22, addr := 0x40010000, value := 0 }, { master := 23, addr := 0x40010000, value := 0 }]) = true ∧
    Instr.wf (.registerWrite [{ master := 22, addr := 0x40010000, value := 0 }, { master := 22, addr := 0x40010004, value := 0 }]) = false ∧
    Instr.wf (.registerWrite []) = false := by decide +kernel

/-! ### The spec's worked examples -/

/-- The coefficients of the audio loop of 03 R95. -/
def exCoef (i : Nat) : Coef :=
  match i with
  | 1 => { m := w32 1073741824, s := 1 }
  | 6 => { m := w32 (-1073741824), s := 0 }
  | 7 => { m := w32 (-536870912), s := 0 }
  | 8 => { m := w32 1073741824, s := 0 }
  | 9 => { m := w32 1073741824, s := 2 }
  | 12 => { m := w32 1342177280, s := 1 }
  | 14 => { m := w32 (-1073741824), s := 1 }
  | 34 => { m := w32 (-268435456), s := 0 }
  | 36 => { m := w32 1073741824, s := 1 }
  | 55 => { m := w32 1073741824, s := 1 }
  | 60 => { m := w32 268435456, s := 0 }
  | 72 => { m := w32 (-268435456), s := 0 }
  | 75 => { m := w32 1879048192, s := 0 }
  | 80 => { m := w32 1610612736, s := 0 }
  | 85 => { m := w32 (-1275068416) }
  | 86 => { m := w32 1275068416 }
  | 87 => { m := w32 536870912 }
  | 88 => { m := w32 4194304 }
  | 89 => { m := 0x1140#32 }
  | _ => {}

/-- Its states before the sample. -/
def exLoop : Loop :=
  { x := [67108864, 150994944, 33554432, 8388608, 159383552, 0], s11 := 20971520, s12 := 41943040, y := 155189248, rS := 167772160,
    fRail := 1342177280 }

/-- 03, worked audio loop: yp = 9 V and acc = -2.25 V. -/
theorem test_preSample_workedLoop :
    (preSample exCoef exLoop).l.yp = 150994944 ∧ (preSample exCoef exLoop).l.acc = -37748736 * 2147483648 := by decide +kernel

/-- 03, worked audio loop: g, v, q1, q2, u, d and the sign; and the sag to 64 V. -/
theorem test_kernUpdate_workedLoop :
    (let k := kernUpdate exCoef (preSample exCoef exLoop).l false 1342177280 none;
      k.e = 4194304 ∧ k.v = 167772160 ∧ k.q1 = 167772160 ∧ k.q2 = 167772160 ∧ k.u = 167772160 ∧ k.g = 429496730 ∧ k.d = 4096 ∧
        k.sgn = 1 ∧ k.clamped = false) ∧
    (kernUpdate exCoef (preSample exCoef exLoop).l false 1073741824 none).g = 536870912 ∧
    (kernUpdate exCoef (preSample exCoef exLoop).l false 1073741824 none).d = 5120 := by decide +kernel

/-- What the update hands to the post-update. -/
def exPost : Post :=
  { v := 167772160, q1 := 167772160, q2 := 167772160, ua := 167772160, r := 167772160, f := 1342177280, e := 4194304,
    clamped := false, missed := false, bank := false }

/-- 03, worked audio loop: the post-update leaves x3 = 0.59375 and x4 = 10 V. -/
theorem test_postUpdate_workedLoop :
    (postUpdate exCoef exLoop exPost).l.x.drop 3 = [9961472, 167772160, 0] := by decide +kernel

/-- 04: IL hands on 22 A while VL stands at 26 A and the limiters at 40 A; IL wins. -/
theorem test_winner_cascade :
    (let s := (List.range 4).foldl (fun t j => (t.setI (R.LFC_RUN.RUN 1) (4 + j) true).modLoop (16 + j) fun l =>
        { l with uLast := [436207616, 369098752, 671088640, 671088640].getD j 0 }) (up .play);
      s.winnerOf 1 = (some 5, 369098752)) := by decide +kernel

/-- 05 R118, worked ramp: the quanta of the reset limits at F = 2048. -/
theorem test_quanta_workedRamp : quantaOf 0x600 0x240 0x6C00 2048 = { vd := 4096000, j := 128000, n := 4 } := by decide +kernel

/-- 05 R120, worked ramp, steps 4, 5, 11, 12 and 15 (in quanta of 1): jerks 0, -J, 0, -J and 0. -/
theorem test_planStep_workedRamp :
    (let q : Quanta := { vd := 32, j := 1, n := 4 };
      (planStep q { p := 10, v := 6, a := 3, dir := 1 } 100 false).1 = { p := 19, v := 9, a := 3, dir := 1 } ∧
      (planStep q { p := 19, v := 9, a := 3, dir := 1 } 100 false).1 = { p := 30, v := 11, a := 2, dir := 1 } ∧
      (planStep q { p := 86, v := 9, a := -2, dir := 1 } 100 false).1 = { p := 93, v := 7, a := -2, dir := 1 } ∧
      (planStep q { p := 93, v := 7, a := -2, dir := 1 } 100 false).1 = { p := 97, v := 4, a := -3, dir := 1 } ∧
      (planStep q { p := 100, v := 1, a := -1, dir := 1 } 100 false).1 = { p := 100, v := 0, a := -1, dir := 1 }) := by decide +kernel

/-- 05, worked ramp: from step 7 the stop point is 84, and a target fallen back to 0 brakes to 65 with BRAKE set. -/
theorem test_stopPoint_workedRamp :
    (let q : Quanta := { vd := 32, j := 1, n := 4 };
      stopPoint q 54 12 0 = some 84 ∧ planStep q { p := 54, v := 12, a := 0, dir := 1 } 0 false = ({ p := 65, v := 11, a := -1, dir := 1 }, true)) := by
  decide +kernel

/-- 06, worked edge: P rises at 41322 and N at 41360 for the duty 4096, sign +1. -/
theorem test_armAudio_workedEdge :
    (let s := ((((up .play).set (R.PWM_CFG.ASW 0) 1).set (R.PWM_CFG.NSORD 0) 2).set (R.PWM_ATIM.TDA 0) 96).set (R.PWM_ATIM.AMIN 0) 256;
      let t := ((s.setI (R.LFC_RUN.RUN 0) 1 true).modLoop 1 fun l => { l with tS := 40960 }).armAudio 0 1 4096 1;
      (t.lane 1).armed = some ({ at16 := 41322 * 16, rise := true }, { at16 := 41360 * 16, rise := true })) := by decide +kernel

/-- 06 R131, worked quantiser at 2304.25 taps: half-periods 2, 3 and 8 of the cycle. -/
theorem test_quantStep_cycle :
    quantStep 2 { e1 := 16384, e2 := 0 } 151011328 = ({ e1 := -16384, e2 := 16384 }, 2305) ∧
    quantStep 2 { e1 := -16384, e2 := 16384 } 151011328 = ({ e1 := -32768, e2 := -16384 }, 2304) ∧
    quantStep 2 { e1 := 0, e2 := 16384 } 151011328 = ({ e1 := 0, e2 := 0 }, 2304) := by decide +kernel

/-- 06 R143, worked glide: phase 2 from 10 752 taps steps 170 to 10 922; from 8192 it steps 512. -/
theorem test_glideStep_worked :
    glideStep 10752 10922 16384 512 = 170 ∧ glideStep 8192 10922 16384 512 = 512 ∧ glideStep 5120 5461 16384 512 = 341 := by decide +kernel

/-- 06 R139, worked shed: ipred is 36 A. -/
theorem test_ipred_worked :
    (let s := (((up .play).setReg (R.PWM_IGM.at 1) (w32 67108864)).set (R.PWM_CFG.IGS 1) 24).setReg (R.PWM_IQ.at 1) 0;
      let t : State := { s with prfs := [(1, { dem := 12288 })] };
      t.ipred 1 = 603979776) := by decide +kernel

/-- 07 R162, R163, worked conversion: the code 2368 at the pins gives y = 155 189 248. -/
theorem test_chanCorrect_worked :
    chanCorrect ({ m := 0x40000000#32, s := 17 }, 0) 2368 = (155189248, false) ∧
    sliceCorrect { ofs := 48, gndev := 0, w := [37936], skew := 0 } 1 false = (2368, false) := by decide +kernel

/-- 07, worked conversion: an input overload clamps to 32 767 with OVR. -/
theorem test_sliceCorrect_overload :
    (sliceCorrect { ofs := 0, gndev := 0, w := [600000], skew := 0 } 1 true) = (32767, true) := by decide +kernel

/-- 08 R186: the recommended word 0x94A0 of a phase-current monitor. -/
theorem test_actionWord :
    awLatch 0x94A0 = true ∧ awScope 0x94A0 = 1 ∧ awOvr 0x94A0 = 1 ∧ awState 0x94A0 = 0 ∧ awNflt 0x94A0 = true ∧ awEns 0x94A0 = false ∧
      awSev 0x94A0 = 2 := by decide +kernel

/-- 09 R213, R214, worked windows: 0x1000_2010 goes to 0x1008_2010, LFC_REF1 of cluster 1 through descriptor 1, and 0x1000_9000
is covered by none. -/
theorem test_winCheck_worked :
    (let s := ((up .play).setWin 4 0 0 { desc := 0x10000007#32, map := 0x10080007#32 }).setWin 4 0 1 { desc := 0x4001100F#32, map := 0x40011000#32 };
      s.place 4 0 0x10002010 false = .at_ 0x10082010 ∧ s.place 4 0 0x40011034 true = .at_ 0x40011034 ∧
        s.place 4 0 0x10009000 false = .viol 1) := by decide +kernel

/-- 10 R233, worked packet: a tick maps to gPTP, the timestamp extends to 12.003 s, frames release 8192 ticks apart. -/
theorem test_release_worked :
    (let s := (((up .play).setReg R.TB_MAP_TB_LO.at (w32 1000000)).setReg R.TB_MAP_SEC_LO.at 12);
      nearestPt 3413065408 (s.gptpAt 2000000) = 12003000000 ∧ s.tbAt3 (3 * 12003000000) = 2179648 ∧
        s.tbAt3 (3 * 12003000000 + 5 * fsThird .k48) = 2220608) := by decide +kernel

/-- 13 R294, worked battery: x = 4450 is 8.90 V. -/
theorem test_vbOf_worked :
    ((up .play).set R.PWR_VBCAL.GAIN 13107).vbOf 4450 = 890 := by decide +kernel

/-- 14 R313, worked filter: the eighth bit of fifteen asserts, the eighth clear bit releases. -/
theorem test_filtStep_worked :
    filtStep { bits := 0b10101010101010, on := false } (some true) = { bits := 0b101010101010101, on := true } ∧
    (filtStep { bits := 0b111111110000000, on := true } (some false)).on = false ∧
    (up .play).reached 4 1 false 8944 = false ∧ (up .play).reached 4 1 true 8944 = true ∧ (up .play).reached 4 1 true 8608 = false := by
  decide +kernel

/-- 15 R331, worked tokens. -/
theorem test_dripNext_worked :
    dripNext 0xE270 = 0x7138 ∧ dripNext 0x7138 = 0x389C ∧ dripNext 0x389C = 0x1C4E ∧ dripNext 0x1C4E = 0x0E27 := by decide +kernel

/-- 15 R325, worked cycle 1: W2 at 1024 = 64 × TMIN ends it as good; cycle 5: at 10 it is early; R326 adds one or two edges. -/
theorem test_drpKick_worked :
    (let s := (drip true 1024).set R.DRP_WIN.TMIN 16;
      s.dripCauses = 0 ∧ ¬(1024 < 64 * max (s.get R.DRP_WIN.TMIN) 1) ∧
        ∀ e ∈ [1, 2], let t := s.dripClose (1024 + e) e 0; t.get R.DRP_STAT.TOKEN = 0x7138 ∧ t.get R.DRP_STAT.FAILCNT = 0) ∧
    (let s := (drip true 8).set R.DRP_WIN.TMIN 16;
      8 + 2 < 64 * max (s.get R.DRP_WIN.TMIN) 1 ∧
        ∀ e ∈ [1, 2], let t := s.dripClose (8 + e) e 1; t.get R.DRP_STAT.LASTC = 1 ∧ t.get R.DRP_STAT.FAILCNT = 1) := by decide +kernel

/-- 15 R335, worked bucket: at 11.5 ms the raise passes with SUPP 2 and leaves no token; a raise without a token counts. -/
theorem test_bucket_worked :
    (let s (b : Bucket) : State := { up .play with fls := { evt := [{ code := 0x0301, dis := false, p := 1, b := 2 }], evtOn := true, buckets := [(0x0301, b)] } };
      (s { tok := 1, ms := 0, supp := 2 }).raise 0x0301 1 [] |>.fls.stage.map (·.supp)) = [2] ∧
    (let s (b : Bucket) : State := { up .play with fls := { evt := [{ code := 0x0301, dis := false, p := 1, b := 2 }], evtOn := true, buckets := [(0x0301, b)] } };
      ((s { tok := 0, ms := 0, supp := 1 }).raise 0x0301 1 []).bucket 0x0301) = { tok := 0, ms := 0, supp := 2 } := by decide +kernel

/-- 16 R366, worked measurement: 4.0 + j0.5 Ω. -/
theorem test_zRecord_worked :
    zRecord false (-500000000) 4000000000 0 1000000000 = [1, 0, 4, 0, 0, 0, 0, 0x80, 0] := by decide +kernel

/-- 17 and 06 R151, worked ball: high under both currents is the code 0b01. -/
theorem test_resistorCode_worked : resistorCode true true = 1 ∧ resistorCode false false = 0 := by decide +kernel

/-- 02 R51, worked ensemble: slave 1 shifts by 42 and 170 ticks, slave 2 by 85 and 341. -/
theorem test_ensShift_worked :
    (let s (p : Nat) := (((up .play).setB R.ENS_CFG.EN true).set R.ENS_CFG.NDEV 2).set R.ENS_CFG.POS p;
      ((s 1).ensShift 512, (s 1).ensShift 2048, (s 2).ensShift 512, (s 2).ensShift 2048)) = (42, 170, 85, 341) := by decide +kernel

/-- 00 R4: phase 2 of domain 3 has loop 46, channel 13 has loop 37. -/
theorem test_loopNo_worked : loopNo 3 10 = 46 ∧ loopNo 3 1 = 37 := by decide +kernel

/-- The published check values: of the two CRCs for the ASCII digits 1 to 9, of AES-128-CMAC for the empty message (RFC 4493). -/
theorem test_checkValues :
    crc16 [0x31, 0x32, 0x33, 0x34, 0x35, 0x36, 0x37, 0x38, 0x39] = 0x29B1 ∧
    crc32 [0x31, 0x32, 0x33, 0x34, 0x35, 0x36, 0x37, 0x38, 0x39] = 0xCBF43926 ∧
    cmac 0x2b7e151628aed2a6abf7158809cf4f3c#128 [] = be 16 0xbb1d6929e95937287fa37d129b756746 := by decide +kernel

end Sys2Proof.Tests
end

section
/-! Reads and writes of unassigned offsets of the register blocks (00_scope.md R10). -/

namespace Sys2Proof.Machine

/-! ### Rows of the register map (00_scope.md R10; 01_signal_to_speaker.md R24) -/

theorem mem_regRows_of_regRow {a : Nat} {r : RegRow} (h : regRow a = some r) : r ∈ regRows a :=
  List.mem_of_find?_eq_some h

theorem regRowHas_of_regRow {a : Nat} {r : RegRow} (h : regRow a = some r) : regRowHas r (a % 0x1000) = true :=
  List.find?_some (p := fun r => regRowHas r (a % 0x1000)) h

theorem regRows_base (a : Nat) : regRows (0x1000 * blkOf a) = regRows a := by
  unfold regRows blkOf
  rw [Nat.mul_div_cancel_left _ (by decide)]

/-- The row list of a block, by its number. -/
theorem regRows_of_blkOf {a b : Nat} (h : blkOf a = b) : regRows a = regRows (0x1000 * b) := by
  subst h
  exact (regRows_base a).symm

theorem regRows_lfc {a : Nat} (h : 0x40010 ≤ blkOf a ∧ blkOf a ≤ 0x40013) : regRows a = regRows40010a ++ regRows40010b := by
  have hb : blkOf a = 0x40010 ∨ blkOf a = 0x40011 ∨ blkOf a = 0x40012 ∨ blkOf a = 0x40013 := by omega
  rcases hb with hb | hb | hb | hb <;> exact regRows_of_blkOf hb

theorem regRows_prf {a : Nat} (h : 0x40020 ≤ blkOf a ∧ blkOf a ≤ 0x40023) : regRows a = regRows40020a ++ regRows40020b := by
  have hb : blkOf a = 0x40020 ∨ blkOf a = 0x40021 ∨ blkOf a = 0x40022 ∨ blkOf a = 0x40023 := by omega
  rcases hb with hb | hb | hb | hb <;> exact regRows_of_blkOf hb

/-! ### Offsets that no row assigns (00_scope.md R10) -/

/-- A row of a block lies on an offset. -/
def rowAt (rows : List RegRow) (o : Nat) : Bool := rows.any fun r => regRowHas r o

theorem rowAt_of_regRow_none {a : Nat} (h : regRow a = none) : rowAt (regRows a) (offOf a) = false := by
  rw [rowAt, List.any_eq_false]
  exact List.find?_eq_none.1 h

/-- An offset without a row is none of those that have one. -/
theorem ne_of_rowAt {rows : List RegRow} {o k : Nat} (h : rowAt rows o = false) (hk : rowAt rows k = true) : o ≠ k := by
  rintro rfl
  simp [h] at hk

/-- An offset without a row lies in no run of n words that all have one. -/
theorem not_mem_of_rowAt {rows : List RegRow} {o base n : Nat} (h : rowAt rows o = false) (h4 : o % 4 = 0) (hb : base % 4 = 0)
    (hk : ∀ k < n, rowAt rows (base + 4 * k) = true) : o < base ∨ base + 4 * n ≤ o := by
  by_contra hc
  exact ne_of_rowAt h (hk ((o - base) / 4) (by omega)) (by omega)

theorem State.plainWrite_unassigned {a : Nat} (h : regRow a = none) (s : State) (w : Word) : s.plainWrite a w = s := by
  simp [State.plainWrite, h]

section
variable {o : Nat} (h4 : o % 4 = 0)
include h4

theorem State.lfcWr_unassigned (h : rowAt (regRows40010a ++ regRows40010b) o = false) (s : State) (m d : Nat) (w : Word) :
    s.lfcWr m d o w = s.plainWrite (0x40010000 + 0x1000 * d + o) w := by
  have href := not_mem_of_rowAt (base := 0x30) (n := 4) h h4 (by decide) (by decide)
  rw [State.lfcWr, if_neg (ne_of_rowAt h (by decide)), if_neg (by omega), if_neg (ne_of_rowAt h (by decide)),
    if_neg (ne_of_rowAt h (by decide)), if_neg (ne_of_rowAt h (by decide)), if_neg (ne_of_rowAt h (by decide)),
    if_neg (ne_of_rowAt h (by decide))]

omit h4 in
theorem State.prfWr_unassigned (h : rowAt (regRows40020a ++ regRows40020b) o = false) (s : State) (d : Nat) (w : Word) :
    s.prfWr d o w = s.plainWrite (0x40020000 + 0x1000 * d + o) w := by
  rw [State.prfWr, if_neg (ne_of_rowAt h (by decide)), if_neg (ne_of_rowAt h (by decide)), if_neg (ne_of_rowAt h (by decide)),
    if_neg (ne_of_rowAt h (by decide))]

theorem State.adcWr_unassigned (ho : o < 0x1000) (h : rowAt regRows40040 o = false) (s : State) (w : Word) :
    s.adcWr o w = s.plainWrite (0x40040000 + o) w := by
  have hframe := not_mem_of_rowAt (base := 0x400) (n := 192) h h4 (by decide) (by decide +kernel)
  have hcorr := not_mem_of_rowAt (base := 0x800) (n := 64) h h4 (by decide) (by decide +kernel)
  have hcorrB := not_mem_of_rowAt (base := 0xA00) (n := 88) h h4 (by decide) (by decide +kernel)
  have hcode : ¬ (0x800 ≤ o ∧ corrCode (corrAt o) = true) := by
    rintro ⟨hlo, hc⟩
    by_cases hA : o < 0xA00 <;> simp [corrCode, corrAt, hA] at hc <;> omega
  rw [State.adcWr, if_neg (ne_of_rowAt h (by decide)), if_neg (ne_of_rowAt h (by decide)), if_neg (ne_of_rowAt h (by decide)),
    if_neg (by omega), if_neg hcode]

theorem State.monWr_unassigned (h : rowAt regRows40050 o = false) (s : State) (w : Word) :
    s.monWr o w = s.plainWrite (0x40050000 + o) w := by
  have hlatch := not_mem_of_rowAt (base := 0x300) (n := 42) h h4 (by decide) (by decide +kernel)
  rw [State.monWr, if_neg (by omega), if_neg (ne_of_rowAt h (by decide)), if_neg (ne_of_rowAt h (by decide))]

omit h4 in
theorem State.flsWr_unassigned (h : rowAt regRows40080 o = false) (s : State) (m : Nat) (w : Word) :
    s.flsWr m o w = s.plainWrite (0x40080000 + o) w := by
  rw [State.flsWr, if_neg (ne_of_rowAt h (by decide)), if_neg (ne_of_rowAt h (by decide))]

theorem State.engWr_unassigned (h : rowAt regRows40090 o = false) (s : State) (m : Nat) (w : Word) :
    s.engWr m o w = if m < 20 then s else s.plainWrite (0x40090000 + o) w := by
  have hctl := not_mem_of_rowAt (base := 0) (n := 16) h h4 (by decide) (by decide +kernel)
  have hrow : ∀ k < 48, rowAt regRows40090 (0x400 + 0x20 * k) = true := by decide +kernel
  have hctx : ¬ (0x400 ≤ o ∧ o < 0xA00 ∧ (ctxPlace o).2.2 = 0) := by
    rintro ⟨h1, h2, h3⟩
    simp only [ctxPlace] at h3
    exact ne_of_rowAt h (hrow ((o - 0x400) / 0x20) (by omega)) (by omega)
  rw [State.engWr, if_neg (c := o < 0x40) (by omega), if_neg hctx]

omit h4 in
theorem State.winWr_unassigned (h : rowAt regRows400A0 o = false) (s : State) (m : Nat) (w : Word) :
    s.winWr m o w = if m < 20 then s else s.plainWrite (0x400A0000 + o) w := by
  rw [State.winWr, if_neg (c := o = 4) (ne_of_rowAt h (by decide)), if_neg (c := o = 8) (ne_of_rowAt h (by decide))]

omit h4 in
theorem State.dmaWr_unassigned (h : rowAt regRows400B0 o = false) (s : State) (m : Nat) (w : Word) :
    s.dmaWr m o w = if m < 20 then s else s.plainWrite (0x400B0000 + o) w := by
  have hrow : ∀ k < 32, rowAt regRows400B0 (0x10 * k) = true := by decide +kernel
  have hch : ¬ (o < 0x200 ∧ o % 0x10 = 0) := fun ⟨h1, h2⟩ => ne_of_rowAt h (hrow (o / 0x10) (by omega)) (by omega)
  rw [State.dmaWr, if_neg (c := o < 0x200 ∧ o % 0x10 = 0) hch, if_neg (c := o = 0x204) (ne_of_rowAt h (by decide))]

omit h4 in
theorem State.netWr_unassigned (h : rowAt regRows400C0 o = false) (s : State) (w : Word) :
    s.netWr o w = s.plainWrite (0x400C0000 + o) w := by
  have hrow : ∀ k < 4, rowAt regRows400C0 (0x100 + 0x20 * k) = true := by decide +kernel
  have hcfg : ¬ (0x100 ≤ o ∧ o < 0x180 ∧ o % 0x20 = 0) :=
    fun ⟨h1, h2, h3⟩ => ne_of_rowAt h (hrow ((o - 0x100) / 0x20) (by omega)) (by omega)
  rw [State.netWr, if_neg hcfg]

omit h4 in
theorem State.tdmWr_unassigned (h : rowAt regRows400D0 o = false) (s : State) (w : Word) :
    s.tdmWr o w = s.plainWrite (0x400D0000 + o) w := by
  rw [State.tdmWr, if_neg (ne_of_rowAt h (by decide)), if_neg (ne_of_rowAt h (by decide))]

omit h4 in
theorem State.pwrWr_unassigned (h : rowAt regRows40110 o = false) (s : State) (w : Word) :
    s.pwrWr o w = s.plainWrite (0x40110000 + o) w := by
  have hctl : o ≠ 0x1C := ne_of_rowAt h (by decide)
  simp [State.pwrWr, hctl]
end

theorem State.busWr_unassigned {a : Nat} (h : regRow a = none) (hin : inRegs a = true) (h4 : a % 4 = 0) (s : State) (m : Nat) (w : Word) :
    s.busWr m a w = s := by
  have hrow := rowAt_of_regRow_none h
  have ho : offOf a % 4 = 0 := by simp only [offOf]; omega
  have hlt : offOf a < 0x1000 := Nat.mod_lt _ (by decide)
  have ha : 0x1000 * blkOf a + offOf a = a := Nat.div_add_mod a 0x1000
  have hp : ∀ k, k = a → s.plainWrite k w = s := fun k hk => hk ▸ State.plainWrite_unassigned h s w
  have hout : ¬ ((!inRegs a) = true) := by simp [hin]
  unfold State.busWr
  rw [if_neg hout]
  refine ite_eq_iff'.2 ⟨fun hdrp => ?_, fun _ => ite_eq_iff'.2 ⟨fun hlfc => ?_, fun _ => ite_eq_iff'.2 ⟨fun hprf => ?_, fun _ =>
    ite_eq_iff'.2 ⟨fun hadc => ?_, fun _ => ite_eq_iff'.2 ⟨fun hmon => ?_, fun _ => ite_eq_iff'.2 ⟨fun hfls => ?_, fun _ =>
    ite_eq_iff'.2 ⟨fun heng => ?_, fun _ => ite_eq_iff'.2 ⟨fun hwin => ?_, fun _ => ite_eq_iff'.2 ⟨fun hdma => ?_, fun _ =>
    ite_eq_iff'.2 ⟨fun hnet => ?_, fun _ => ite_eq_iff'.2 ⟨fun htdm => ?_, fun _ => ite_eq_iff'.2 ⟨fun himg => ?_, fun _ =>
    ite_eq_iff'.2 ⟨fun hpwr => ?_, fun _ => hp a rfl⟩⟩⟩⟩⟩⟩⟩⟩⟩⟩⟩⟩⟩
  · simp only [Bool.and_eq_true, beq_iff_eq] at hdrp
    rw [regRows_of_blkOf hdrp.1] at hrow
    exact absurd hdrp.2 (ne_of_rowAt hrow (by decide))
  · rw [regRows_lfc hlfc] at hrow
    rw [State.lfcWr_unassigned ho hrow, hp _ (by omega)]
  · rw [regRows_prf hprf] at hrow
    rw [State.prfWr_unassigned hrow, hp _ (by omega)]
  · rw [regRows_of_blkOf hadc] at hrow
    rw [State.adcWr_unassigned ho hlt hrow, hp _ (by omega)]
  · rw [regRows_of_blkOf hmon] at hrow
    rw [State.monWr_unassigned ho hrow, hp _ (by omega)]
  · rw [regRows_of_blkOf hfls] at hrow
    rw [State.flsWr_unassigned hrow, hp _ (by omega)]
  · rw [regRows_of_blkOf heng] at hrow
    rw [State.engWr_unassigned ho hrow, hp _ (by omega), ite_self]
  · rw [regRows_of_blkOf hwin] at hrow
    rw [State.winWr_unassigned hrow, hp _ (by omega), ite_self]
  · rw [regRows_of_blkOf hdma] at hrow
    rw [State.dmaWr_unassigned hrow, hp _ (by omega), ite_self]
  · rw [regRows_of_blkOf hnet] at hrow
    rw [State.netWr_unassigned hrow, hp _ (by omega)]
  · rw [regRows_of_blkOf htdm] at hrow
    rw [State.tdmWr_unassigned hrow, hp _ (by omega)]
  · rw [regRows_of_blkOf himg] at hrow
    rw [if_neg (c := offOf a = 4) (ne_of_rowAt hrow (by decide)), hp a rfl, ite_self]
  · rw [regRows_of_blkOf hpwr] at hrow
    rw [State.pwrWr_unassigned hrow, hp _ (by omega)]

theorem State.busBad_unassigned {a : Nat} (h : regRow a = none) (h4 : a % 4 = 0) (s : State) (m : Nat) (w : Word) :
    s.busBad m a w = none := by
  simp [State.busBad, h, h4]

/-- A read of an unassigned offset changes nothing. -/
theorem State.busRdEffect_unassigned {a : Nat} (h : regRow a = none) (s : State) (lk : Nat) : s.busRdEffect lk a = s := by
  have hrow := rowAt_of_regRow_none h
  have hne : ∀ k, regRow k ≠ none → a ≠ k := fun k hk hak => hk (hak ▸ h)
  have hlfc : 0x40010 ≤ blkOf a → blkOf a ≤ 0x40013 → offOf a ≠ 0x54 ∧ offOf a ≠ 0x58 := by
    intro h1 h2
    rw [regRows_lfc ⟨h1, h2⟩] at hrow
    exact ⟨ne_of_rowAt hrow (by decide), ne_of_rowAt hrow (by decide)⟩
  rw [State.busRdEffect, if_neg (hne _ (by decide)), if_neg (hne _ (by decide)), if_neg fun hc => (hlfc hc.1 hc.2.1).1 hc.2.2.1,
    if_neg fun hc => (hlfc hc.1 hc.2.1).2 hc.2.2, if_neg (hne _ (by decide))]

theorem State.busRdBad_unassigned {a : Nat} (h : regRow a = none) (h4 : a % 4 = 0) (s : State) (m : Nat) : s.busRdBad m a = none := by
  have hrow := rowAt_of_regRow_none h
  have hlfc : ¬ (0x40010 ≤ blkOf a ∧ blkOf a ≤ 0x40013 ∧ (offOf a = 0x54 ∨ offOf a = 0x58)) := by
    rintro ⟨h1, h2, ho⟩
    rw [regRows_lfc ⟨h1, h2⟩] at hrow
    exact ho.elim (ne_of_rowAt hrow (by decide)) (ne_of_rowAt hrow (by decide))
  simp [State.busRdBad, h4, hlfc]

theorem State.busVal_unassigned {a : Nat} (h : regRow a = none) (s : State) (lk : Nat) : s.busVal lk a = 0 := by
  simp [State.busVal, h]

/-! ### The statement of R10 -/

/-- Settles O47, block by block: no offset with a meaning of its own is without a row. -/
theorem unassignedOffsetsReadZeroAndIgnoreWrites : Obligations.UnassignedOffsetsReadZeroAndIgnoreWrites := by
  unfold Obligations.UnassignedOffsetsReadZeroAndIgnoreWrites
  intro m lk a w s hin h4 h
  constructor
  · rw [State.busRead, State.busRdBad_unassigned h h4]
    simp only [State.busRd, hin, if_true, State.busVal_unassigned h, State.busRdEffect_unassigned h]
  · rw [State.busWrite, State.busBad_unassigned h h4]
    exact State.busWr_unassigned h hin h4 s m w

end Sys2Proof.Machine
end

section
/-! The register arbiter, and what a write stores (00_scope.md R11 to R13; 01_signal_to_speaker.md R21). -/

namespace Sys2Proof.Machine

/-! ### What a write stores under the access codes (00_scope.md R11, R12) -/

theorem toNat_and_ofNat (x : Word) (m : Nat) : x.toNat &&& m = (x &&& BitVec.ofNat 32 m).toNat := by
  apply Nat.eq_of_testBit_eq
  intro j
  by_cases hj : j < 32
  · simp only [Nat.testBit_and, BitVec.testBit_toNat, BitVec.getLsbD_and, BitVec.getLsbD_ofNat, hj, decide_true, Bool.true_and]
  · simp [BitVec.testBit_toNat, BitVec.getLsbD_of_ge x j (by omega)]

/-- A word without the bits that it shares with a mask. -/
theorem toNat_sub_and (x m : Word) : x.toNat - (x &&& m).toNat = (x &&& ~~~m).toNat := by
  have hdisj : (x &&& ~~~m) &&& (x &&& m) = 0 := by
    ext i hi; cases h : m[i] <;> simp [h]
  have hsplit : (x &&& ~~~m) ||| (x &&& m) = x := by
    ext i hi; cases h : m[i] <;> simp [h]
  have hadd := BitVec.toNat_add_of_and_eq_zero hdisj
  rw [BitVec.add_eq_or_of_and_eq_zero _ _ hdisj, hsplit] at hadd
  omega

/-- The bits that a write may replace: RW, and RWL while it is open. -/
def openMask (r : RegRow) (rwl : Bool) : Nat := if rwl then r.rw ||| r.rwl else r.rw

/-- The word that `accessWrite` leaves, bit by bit: open bits written, W1C bits cleared by 1, the rest kept. -/
theorem ofNat_accessWrite (r : RegRow) (rwl : Bool) (old w : Word) :
    BitVec.ofNat 32 (accessWrite r rwl old.toNat w.toNat) =
      ((old &&& ~~~BitVec.ofNat 32 (openMask r rwl)) &&& ~~~(BitVec.ofNat 32 r.w1c &&& w)) ||| (w &&& BitVec.ofNat 32 (openMask r rwl)) := by
  have hdisj : ((old &&& ~~~BitVec.ofNat 32 (openMask r rwl)) &&& ~~~(BitVec.ofNat 32 r.w1c &&& w)) &&&
      (w &&& BitVec.ofNat 32 (openMask r rwl)) = 0 := by
    ext i hi; cases h : (BitVec.ofNat 32 (openMask r rwl))[i] <;> simp [h]
  have hval : accessWrite r rwl old.toNat w.toNat =
      ((old &&& ~~~BitVec.ofNat 32 (openMask r rwl)) &&& ~~~(BitVec.ofNat 32 r.w1c &&& w)).toNat +
        (w &&& BitVec.ofNat 32 (openMask r rwl)).toNat := by
    change old.toNat - (old.toNat &&& openMask r rwl) -
      ((old.toNat - (old.toNat &&& openMask r rwl)) &&& r.w1c &&& w.toNat) + (w.toNat &&& openMask r rwl) = _
    rw [toNat_and_ofNat old, toNat_sub_and, toNat_and_ofNat _ r.w1c, ← BitVec.toNat_and, BitVec.and_assoc, toNat_sub_and,
      toNat_and_ofNat w]
  rw [hval, ← BitVec.add_eq_or_of_and_eq_zero _ _ hdisj, ← BitVec.toNat_add_of_and_eq_zero hdisj, BitVec.ofNat_toNat, BitVec.setWidth_eq]

/-- A bit after a write under the access codes (00_scope.md R11). -/
theorem getLsbD_accessWrite (r : RegRow) (rwl : Bool) (old w : Word) {i : Nat} (hi : i < 32) :
    (BitVec.ofNat 32 (accessWrite r rwl old.toNat w.toNat)).getLsbD i =
      if r.rw.testBit i ∨ (rwl = true ∧ r.rwl.testBit i) then w.getLsbD i
      else if r.w1c.testBit i ∧ w.getLsbD i then false else old.getLsbD i := by
  have hopen : (r.rw.testBit i = true ∨ (rwl = true ∧ r.rwl.testBit i = true)) ↔ (openMask r rwl).testBit i = true := by
    cases rwl <;> simp [openMask]
  rw [ofNat_accessWrite]
  simp only [BitVec.getLsbD_or, BitVec.getLsbD_and, BitVec.getLsbD_not, BitVec.getLsbD_ofNat, hi, decide_true, Bool.true_and, hopen]
  by_cases ho : (openMask r rwl).testBit i = true
  · simp [ho]
  · cases hc : r.w1c.testBit i <;> cases hw : w.getLsbD i <;> simp [ho]

/-- A write under the access codes leaves every other register and the rest of the state. -/
theorem State.plainWrite_frame (s : State) (a : Nat) (w : Word) :
    s.onlyRegs (s.plainWrite a w) [a] ∧ s.onlyRegsDiffer (s.plainWrite a w) := by
  unfold State.plainWrite
  split
  · refine ⟨fun k hk => State.reg_setReg_other s _ (by simpa using hk), rfl⟩
  · exact ⟨fun _ _ => rfl, rfl⟩

theorem State.getLsbD_plainWrite {a i : Nat} {r : RegRow} (hr : regRow a = some r) (hi : i < 32) (s : State) (w : Word) :
    ((s.plainWrite a w).reg a).getLsbD i =
      if r.rw.testBit i ∨ (modeRwl s.sys.mode = true ∧ r.rwl.testBit i) then w.getLsbD i
      else if r.w1c.testBit i ∧ w.getLsbD i then false else (s.reg a).getLsbD i := by
  simp only [State.plainWrite, hr, State.reg_setReg_same]
  exact getLsbD_accessWrite r _ _ w hi

/-! ### What the hardware does in the cycle of a write (00_scope.md R13) -/

/-- Counters that do not hold a bit leave it. -/
theorem State.getLsbD_foldl_incSat {a i : Nat} (p : Fld → Prop) [DecidablePred p] (l : List Fld)
    (hl : ∀ f ∈ l, f.addr = a → i < f.lo ∨ f.hi < i) (s : State) :
    ((l.foldl (fun t f => if p f then t.incSat f else t) s).reg a).getLsbD i = (s.reg a).getLsbD i := by
  induction l generalizing s with
  | nil => rfl
  | cons f l ih =>
    rw [List.foldl_cons, ih fun g hg => hl g (List.mem_cons_of_mem f hg)]
    split
    · refine State.onlyFields_incSat s f a i fun g hg hin => ?_
      obtain rfl := List.mem_singleton.1 hg
      have := hl g List.mem_cons_self hin.1
      omega
    · rfl

/-- A W1C bit that the hardware sets stays set. -/
theorem State.getLsbD_hwUpdate {a i : Nat} {r : RegRow} (hr : regRow a = some r) (hi : i < 32) {w : Word} (hc : r.w1c.testBit i = true)
    (hw : w.getLsbD i = true) (hout : ∀ f ∈ hwCounters, f.addr = a → i < f.lo ∨ f.hi < i) (s : State) :
    ((s.hwUpdate a w).reg a).getLsbD i = true := by
  have hbit : (w &&& BitVec.ofNat 32 r.w1c).getLsbD i = true := by
    simp only [BitVec.getLsbD_and, BitVec.getLsbD_ofNat, hw, hc, hi, decide_true, Bool.and_self]
  have hne : w &&& BitVec.ofNat 32 r.w1c ≠ 0 := by
    intro h0
    simp [h0] at hbit
  simp only [State.hwUpdate, hr, if_neg hne]
  rw [State.getLsbD_foldl_incSat (fun f => f.addr = a ∧ w.getLsbD f.lo = true) hwCounters hout, State.reg_setReg_same,
    BitVec.getLsbD_or, hbit, Bool.or_true]

/-- The hardware leaves a register of which it sets and counts nothing. -/
theorem State.hwUpdate_zero (s : State) (a : Nat) : s.hwUpdate a 0 = s := by
  unfold State.hwUpdate
  split
  · rfl
  · simp

/-! ### The order of service (01_signal_to_speaker.md R21) -/

/-- How far a master stands above the rotation pointer. -/
def serviceDist (rho m : Nat) : Nat := (m + 25 - rho % 25) % 25

theorem eq_of_serviceDist {rho m i : Nat} (hm : m < 25) (hi : i < 25) : m = (rho + i) % 25 ↔ serviceDist rho m = i := by
  unfold serviceDist
  omega

theorem find_master_spec {rho i : Nat} {l : List RegAccess} {x : RegAccess} (hi : i < 25)
    (h : (l.find? fun x => x.master.val == (rho + i) % 25) = some x) : x ∈ l ∧ serviceDist rho x.master.val = i := by
  have hx := List.find?_some h
  exact ⟨List.mem_of_find?_eq_some h, (eq_of_serviceDist x.master.isLt hi).1 (by simpa using hx)⟩

/-- The accesses stand in the order of their distance from the pointer. -/
theorem rotate_pairwise (rho : Nat) (l : List RegAccess) :
    (rotate rho l).Pairwise fun a b => serviceDist rho a.master.val < serviceDist rho b.master.val := by
  unfold rotate
  rw [List.pairwise_filterMap]
  refine List.Pairwise.imp_of_mem ?_ List.pairwise_lt_range
  intro i j hi hj hij a ha b hb
  rw [(find_master_spec (List.mem_range.1 hi) ha).2, (find_master_spec (List.mem_range.1 hj) hb).2]
  exact hij

theorem mem_rotate {rho : Nat} {l : List RegAccess} (hl : (l.map fun a => a.master).Nodup) (x : RegAccess) : x ∈ rotate rho l ↔ x ∈ l := by
  simp only [rotate, List.mem_filterMap, List.mem_range]
  constructor
  · rintro ⟨i, hi, h⟩
    exact (find_master_spec hi h).1
  · intro hx
    have hlt : serviceDist rho x.master.val < 25 := Nat.mod_lt _ (by decide)
    have hm := (eq_of_serviceDist x.master.isLt hlt).2 rfl
    refine ⟨_, hlt, ?_⟩
    obtain ⟨y, hy⟩ : ∃ y, (l.find? fun a => a.master.val == (rho + serviceDist rho x.master.val) % 25) = some y :=
      Option.isSome_iff_exists.1 (List.find?_isSome.2 ⟨x, hx, by simpa using hm⟩)
    have hxy : y.master = x.master :=
      Fin.ext (((eq_of_serviceDist y.master.isLt hlt).2 (find_master_spec hlt hy).2).trans hm.symm)
    rw [hy, List.inj_on_of_nodup_map hl (List.mem_of_find?_eq_some hy) hx hxy]

/-- Every access is served once. -/
theorem rotate_perm {rho : Nat} {l : List RegAccess} (hl : (l.map fun a => a.master).Nodup) : (rotate rho l).Perm l := by
  have hnd : (rotate rho l).Nodup := (rotate_pairwise rho l).imp fun hlt heq => by simp [heq] at hlt
  exact (List.perm_ext_iff_of_nodup hnd hl.of_map).2 (mem_rotate hl)

/-! ### The service of one access -/

theorem State.serve_cons (s : State) (a : RegAccess) (l : List RegAccess) : s.serve (a :: l) = (s.serveOne a).serve l := rfl

/-- A write that is no queued access. -/
theorem State.serveOne_write {a : RegAccess} (hq : a.queued = false) (hr : a.read = false) (hh : a.hw = 0) (s : State) :
    s.serveOne a = s.busWrite a.master.val a.addr.toNat a.value := by
  simp only [State.serveOne, hq, hr, hh, Bool.false_eq_true, if_false]
  exact State.hwUpdate_zero _ _

/-- A read that is no queued access. -/
theorem State.serveOne_read {a : RegAccess} (hq : a.queued = false) (hr : a.read = true) (s : State) :
    s.serveOne a = (s.busRead a.master.val (latchKey a.master.val) a.addr.toNat).2 := by
  simp [State.serveOne, hq, hr]

/-- A queued access is the oldest one of its master's queue. -/
theorem State.serveOne_queued {a : RegAccess} (hq : a.queued = true) (s : State) :
    s.serveOne a = if a.master.val < 20 then s.serveQueue a.master.val else s := by
  simp [State.serveOne, hq]

theorem State.serveQueue_nil {s : State} {m : Nat} (h : s.regQ m = []) : s.serveQueue m = s := by
  simp [State.serveQueue, h]

theorem State.serveQueue_write {s : State} {m : Nat} {q : QAcc} {r : List QAcc} (h : s.regQ m = q :: r) {w : Word} (hw : q.word = some w) :
    s.serveQueue m = (s.setRegQ m r).busWrite m q.addr w := by
  simp [State.serveQueue, h, hw]

theorem State.serveQueue_read {s : State} {m : Nat} {q : QAcc} {r : List QAcc} (h : s.regQ m = q :: r) {x : Nat} (hw : q.word = none)
    (hx : q.ctx = some x) :
    s.serveQueue m = ((s.setRegQ m r).busRead m (3 * m + x) q.addr).2.modCtx m x fun c =>
      { c with rd := fillRead ((s.setRegQ m r).busRead m (3 * m + x) q.addr).1 c.rd } := by
  simp [State.serveQueue, h, hw, hx]

/-! ### Blocks -/

/-- In these blocks every register is written under its access codes alone. -/
theorem State.busWr_plain {a : Nat} (hin : inRegs a = true)
    (hb : blkOf a = 0x40060 ∨ blkOf a = 0x400E0 ∨ blkOf a = 0x400F0 ∨ blkOf a = 0x40120) (s : State) (m : Nat) (w : Word) :
    s.busWr m a w = s.plainWrite a w := by
  unfold State.busWr
  rcases hb with hb | hb | hb | hb <;> simp [hin, hb]

/-- Engines and DMA queues write nothing in ENG, WIN, DMA and IMG (09_zuelm_engines_and_gallery.md R214). -/
theorem State.busWr_engine {m a : Nat} (hm : m < 20) (hin : inRegs a = true)
    (hb : blkOf a = 0x40090 ∨ blkOf a = 0x400A0 ∨ blkOf a = 0x400B0 ∨ blkOf a = 0x40100) (s : State) (w : Word) :
    s.busWr m a w = s := by
  unfold State.busWr
  rcases hb with hb | hb | hb | hb <;> simp [hin, hb, hm, State.engWr, State.winWr, State.dmaWr]

/-- The accesses of REGISTER_WRITE are served in the order of `rotate`. -/
theorem execRegisterWrite_order {l : List RegAccess} {s : State} (hc : s.coreRuns = true) (hl : (l.map fun a => a.master).Nodup) :
    ∃ q : List RegAccess, q.Perm l ∧ q.Pairwise (fun a b => serviceDist s.eng.rhoR a.master.val < serviceDist s.eng.rhoR b.master.val) ∧
      (∀ u : State, s.serve q = u →
        exec (.registerWrite l) s = .next (u.modEng fun g => { g with rhoR := rhoAfter s.eng.rhoR q }).settle) := by
  refine ⟨rotate s.eng.rhoR l, rotate_perm hl, rotate_pairwise _ l, ?_⟩
  rintro u rfl
  change execRegisterWrite l s = _
  rw [execRegisterWrite, if_pos hc]

theorem execRegisterWrite_idle {s : State} (hc : s.coreRuns = false) (l : List RegAccess) : exec (.registerWrite l) s = .next s := by
  change execRegisterWrite l s = _
  simp [execRegisterWrite, hc]

/-! ### The statement of R11, R12 and R214 -/

/-- Settles O48: the order is that of `rotate`, each access is served by its kind, and a stored word follows bit by bit. -/
theorem registerWritesAreServedInOrderUnderTheirAccessCodes :
    Obligations.RegisterWritesAreServedInOrderUnderTheirAccessCodes := by
  unfold Obligations.RegisterWritesAreServedInOrderUnderTheirAccessCodes
  refine ⟨fun l s hc hl => execRegisterWrite_order hc hl, fun l s hc => execRegisterWrite_idle hc l, ?service, ?write,
    fun a i r w s hr hi hc hw hout => State.getLsbD_hwUpdate hr hi hc hw hout s, ?plain,
    fun m a w s hin hb => State.busWr_plain hin hb s m w, fun m a w s hm hin hb => State.busWr_engine hm hin hb s w⟩
  case service =>
    intro a l s
    refine ⟨fun hq hr hh => ?_, fun hq hr => ⟨latchKey a.master.val, ?_⟩, fun hq hn => ?_, ?_⟩
    · rw [State.serve_cons, State.serveOne_write hq hr hh]
    · rw [State.serve_cons, State.serveOne_read hq hr]
    · rw [State.serve_cons, State.serveOne_queued hq]
      rcases hn with hm | hnil
      · rw [if_neg (by omega)]
      · rw [State.serveQueue_nil hnil, ite_self]
    · rintro q r u hq hm hcons rfl
      rw [State.serve_cons, State.serveOne_queued hq, if_pos hm]
      refine ⟨fun w hw => ?_, fun x hw hx => ?_⟩
      · rw [State.serveQueue_write hcons hw]
      · rw [State.serveQueue_read hcons hw hx]
  case write =>
    intro m a w s
    refine ⟨fun hb => ?_, fun r hb => ⟨busFix (a / 4 * 4) w (s.freeWord a), ?_⟩⟩
    · simp only [State.busWrite, hb]
    · simp only [State.busWrite, hb]; rfl
  case plain =>
    intro a i r w s hr hi
    exact ⟨State.getLsbD_plainWrite hr hi s w, State.plainWrite_frame s a w⟩

end Sys2Proof.Machine
end

section
/-! The invariant of a step: a state that meets it and whose next state does not. -/

namespace Sys2Proof.Machine

/-! ### A context number that no engine has

`Eng.run` keeps the number of the running context as plain data, and `State.inv` does not bound it. A context beyond 2 has its
ENG_CTX at an address of another block, and WAIT then writes STATE there: the invariant holds of such a state and not of the next. -/

/-- A context number whose STATE field in the map of ENG lies over SESS and SEC of DSU_STAT. -/
def strayCtx : Nat := 12256

/-- A state that meets the invariant and runs context `strayCtx` on engine 0: DSU_STAT holds SESS 1 with SEC set, which read as STATE RUN,
the stream registers hold no READY pattern, and the word at index 0 of program memory is WAIT. -/
def strayState : State :=
  { State.reset with
    regs := [(R.CLK_STAT.at, 0x2), (R.NET_SCFG.at 0, 0), (R.NET_SCFG.at 1, 0), (R.NET_SCFG.at 2, 0), (R.NET_SCFG.at 3, 0),
      (R.DSU_STAT.at, 0x60000000)]
    mem := [(0x20000007, 0x18)]
    pwr := { coreUp := true }
    eng := { run := [(0, strayCtx + 1)] }
    pending := [.wait 0] }

theorem strayState_inv : strayState.inv :=
  ⟨by decide +kernel, by decide +kernel, by decide +kernel⟩

/-- The rows from ENG up to DSU whose reset value has the pattern of READY in bits 31 to 29: beside NET_SCFG none on a multiple of 32. -/
theorem readyReset_rows : ∀ b < 96, ∀ r ∈ regRows (0x1000 * (0x40090 + b)), bitsAt (BitVec.ofNat 32 r.reset).toNat 29 3 = cxReady →
    r.n2 = 1 ∧ r.s2 = 4 ∧ ((r.off % 32 ≠ 0 ∧ (r.s1 = 32 ∨ (r.s1 = 4 ∧ r.n1 = 1))) ∨ (b = 48 ∧ r.off = 0x100 ∧ r.s1 = 32 ∧ r.n1 = 4)) := by
  decide +kernel

theorem resetWord_not_ready {y : Nat} (hy : y < strayCtx) (hn : ∀ n < 4, R.ENG_CTX.at 0 y ≠ R.NET_SCFG.at n) :
    bitsAt (resetWord (R.ENG_CTX.at 0 y)).toNat 29 3 ≠ cxReady := by
  have ha : R.ENG_CTX.at 0 y = 0x40090400 + 0x20 * y := by simp [R.ENG_CTX.at]
  have hs : ∀ n, R.NET_SCFG.at n = 0x400C0100 + 0x20 * n := fun n => rfl
  simp only [strayCtx] at hy
  generalize R.ENG_CTX.at 0 y = a at *
  have hscan : ¬ (0x40040100 ≤ a ∧ a < 0x40040180) := by omega
  rw [resetWord, if_neg hscan]
  split
  · rename_i r hr
    intro hready
    have hb : blkOf a = 0x40090 + (a / 0x1000 - 0x40090) := by simp only [blkOf]; omega
    have hmem := regRows_of_blkOf hb ▸ mem_regRows_of_regRow hr
    have hhas := regRowHas_of_regRow hr
    obtain ⟨hn2, hs2, hrow⟩ := readyReset_rows _ (by omega) r hmem hready
    simp only [regRowHas, hn2, hs2, Bool.and_eq_true, decide_eq_true_eq, beq_iff_eq] at hhas
    obtain ⟨hoff, hs1 | ⟨hs1, hn1⟩⟩ | ⟨hblk, hoff, hs1, hn1⟩ := hrow
    · rw [hs1] at hhas; omega
    · rw [hs1, hn1] at hhas; omega
    · rw [hs1, hn1, hoff] at hhas
      refine hn ((a - 0x400C0100) / 0x20) (by omega) ?_
      rw [hs]; omega
  · decide

/-- No context before the stray one is READY. -/
theorem strayState_cxState_ne_ready {y : Nat} (hy : y < strayCtx) : strayState.dropFront.cxState 0 y ≠ cxReady := by
  have hclk : R.CLK_STAT.at ≠ R.ENG_CTX.at 0 y := by simp [R.CLK_STAT.at, R.ENG_CTX.at]; omega
  have hdsu : R.DSU_STAT.at ≠ R.ENG_CTX.at 0 y := by simp [R.DSU_STAT.at, R.ENG_CTX.at, strayCtx] at hy ⊢; omega
  show bitsAt (strayState.reg (R.ENG_CTX.at 0 y)).toNat 29 3 ≠ cxReady
  by_cases hn : ∀ n < 4, R.ENG_CTX.at 0 y ≠ R.NET_SCFG.at n
  · have hreg : strayState.reg (R.ENG_CTX.at 0 y) = resetWord (R.ENG_CTX.at 0 y) := by
      simp [State.reg, strayState, tblGet, hclk, hdsu, Ne.symm (hn 0 (by decide)), Ne.symm (hn 1 (by decide)),
        Ne.symm (hn 2 (by decide)), Ne.symm (hn 3 (by decide))]
    rw [hreg]
    exact resetWord_not_ready hy hn
  · push Not at hn
    obtain ⟨n, hlt, hat⟩ := hn
    rw [hat]
    clear hat hclk hdsu
    revert n
    decide +kernel

theorem strayState_issuing : strayState.dropFront.issuing 0 = some strayCtx := by
  have hfree : strayState.dropFront.preempted 0 strayCtx = false := by
    rw [State.preempted, List.any_eq_false]
    intro y hy
    simpa using strayState_cxState_ne_ready (List.mem_range.1 hy)
  have hclk : strayState.dropFront.eclkRuns = true := by decide +kernel
  have hrun : strayState.dropFront.running? 0 = some strayCtx := by decide +kernel
  have hst : strayState.dropFront.cxState 0 strayCtx = cxRun := by decide +kernel
  simp [State.issuing, hclk, hrun, hst, hfree]

/-- The WAIT at hand writes STATE of the stray context. -/
theorem step_strayState : step strayState = .next (strayState.dropFront.waitNow 0 strayCtx) := by
  have hissues : strayState.dropFront.issues 0 strayCtx (strayState.dropFront.instrAt 0 0) :=
    ⟨strayState_issuing, rfl, by decide +kernel, by decide +kernel⟩
  have hop : (strayState.dropFront.instrAt 0 0).op = 0x06 := by decide +kernel
  calc step strayState = strayState.dropFront.engine 0 0x06 fun x _ => .done (strayState.dropFront.waitNow 0 x) := rfl
    _ = _ := State.engine_issues hissues hop _

/-- STATE becomes IDLE, which leaves 0 in SESS. -/
theorem waitNow_strayState_sess : (strayState.dropFront.waitNow 0 strayCtx).get R.DSU_STAT.SESS = 0 := by
  decide +kernel

/-- Refutes O59: in `strayState` the invariant holds, and the step writes IDLE (0b001) over SESS and SEC of DSU_STAT, so that SESS
becomes 0. Nothing in the invariant bounds the running context of an engine. -/
theorem not_everyStepKeepsTheInvariant : ¬ Obligations.EveryStepKeepsTheInvariant := by
  unfold Obligations.EveryStepKeepsTheInvariant
  rintro ⟨-, hkeeps⟩
  obtain ⟨⟨-, -, hsess⟩, -, -⟩ := hkeeps strayState _ strayState_inv step_strayState
  exact hsess waitNow_strayState_sess

end Sys2Proof.Machine
end

section
/-! The planner and the phase manager: what an update, a write and an evaluation publish, and what they leave
(05_rail_tracking.md R110 to R123; 06_edges_and_phases.md R139, R140). -/

namespace Sys2Proof.Machine

/-! ### Chains of field writes -/

/-- Two fields share no bit. -/
abbrev apart (f g : Fld) : Prop := f.addr ≠ g.addr ∨ g.hi < f.lo ∨ f.hi < g.lo

/-- Registers differ in the fields listed at most, and memory does not differ. -/
def State.writesWithin (s t : State) (l : List Fld) : Prop := s.onlyFields t l ∧ t.mem = s.mem

section
variable {s t u : State} {l m : List Fld}

theorem State.writesWithin_refl (s : State) (l : List Fld) : s.writesWithin s l := ⟨State.onlyFields_refl s l, rfl⟩

theorem State.writesWithin.trans (h : s.writesWithin t l) (k : t.writesWithin u l) : s.writesWithin u l :=
  ⟨State.onlyFields_trans_same h.1 k.1, k.2.trans h.2⟩

theorem State.writesWithin.mono (h : s.writesWithin t l) (hm : l ⊆ m) : s.writesWithin t m :=
  ⟨State.onlyFields_mono h.1 fun _ hf => hm hf, h.2⟩

/-- One more field of the list is written. -/
theorem State.writesWithin.set (h : s.writesWithin t l) (f : Fld) (v : Nat) (hf : f ∈ l := by simp) : s.writesWithin (t.set f v) l :=
  h.trans ⟨State.onlyFields_mono (State.onlyFields_set t f v) (by simpa using hf), rfl⟩

theorem State.writesWithin.setB (h : s.writesWithin t l) (f : Fld) (b : Bool) (hf : f ∈ l := by simp) : s.writesWithin (t.setB f b) l :=
  h.set f _ hf

theorem State.writesWithin.setI (h : s.writesWithin t l) (f : Fld) (i : Nat) (b : Bool) (hf : f ∈ l := by simp) :
    s.writesWithin (t.setI f i b) l :=
  h.set f _ hf

theorem State.writesWithin.setS (h : s.writesWithin t l) (f : Fld) (x : Int) (hf : f ∈ l := by simp) : s.writesWithin (t.setS f x) l :=
  h.set f _ hf

/-- State that is neither a register nor memory changes. -/
theorem State.writesWithin.rest (h : s.writesWithin t l) (hr : u.regs = t.regs) (hm : u.mem = t.mem) : s.writesWithin u l :=
  h.trans ⟨State.onlyFields_of_regs l hr, hm⟩

theorem State.writesWithin.modDom (h : s.writesWithin t l) (d : Nat) (f : Dom → Dom) : s.writesWithin (t.modDom d f) l := h.rest rfl rfl

theorem State.writesWithin.modLoop (h : s.writesWithin t l) (i : Nat) (f : Loop → Loop) : s.writesWithin (t.modLoop i f) l :=
  h.rest rfl rfl

theorem State.writesWithin.modLane (h : s.writesWithin t l) (c : Nat) (f : Lane → Lane) : s.writesWithin (t.modLane c f) l :=
  h.rest rfl rfl

theorem State.writesWithin.modMon (h : s.writesWithin t l) (f : Mon → Mon) : s.writesWithin (t.modMon f) l := h.rest rfl rfl

theorem State.writesWithin.modPhase (h : s.writesWithin t l) (d p : Nat) (f : Phase → Phase) : s.writesWithin (t.modPhase d p f) l :=
  h.rest rfl rfl

theorem State.writesWithin.setQuant (h : s.writesWithin t l) (d g : Nat) (q : Quant) : s.writesWithin (t.setQuant d g q) l :=
  h.rest rfl rfl

theorem State.writesWithin.raise (h : s.writesWithin t l) (code sev : Nat) (data : List Byte) (hl : evFields ⊆ l) :
    s.writesWithin (t.raise code sev data) l :=
  h.trans ⟨State.onlyFields_mono (State.raise_frame t code sev data).2 fun _ hf => hl hf, State.raise_mem t code sev data⟩

theorem State.writesWithin.foldl {α : Type} {f : State → α → State} (hf : ∀ (t : State) (x : α), t.writesWithin (f t x) l)
    (xs : List α) (h : s.writesWithin t l) : s.writesWithin (xs.foldl f t) l := by
  induction xs generalizing t with
  | nil => exact h
  | cons x xs ih => exact ih (h.trans (hf t x))

theorem State.writesWithin.get (h : s.writesWithin t l) (g : Fld) (hg : ∀ f ∈ l, apart f g) :
    t.get g = s.get g :=
  State.onlyFields_get h.1 g hg

end

/-! ### Fields given back -/

theorem fldOf_lt (w : Word) (f : Fld) : fldOf w f < 2 ^ (f.hi + 1 - f.lo) := Nat.mod_lt _ (Nat.two_pow_pos _)

theorem State.keepFlds_cons (s t : State) (f : Fld) (l : List Fld) :
    s.keepFlds t (f :: l) = s.keepFlds (t.set f (s.get f)) l := rfl

theorem State.keepFlds_within (s t : State) (l : List Fld) : t.writesWithin (s.keepFlds t l) l := by
  have hstep : ∀ m, m ⊆ l → ∀ u, t.writesWithin u l → t.writesWithin (s.keepFlds u m) l := by
    intro m
    induction m with
    | nil => exact fun _ _ h => h
    | cons f m ih =>
      intro hm u h
      exact ih (List.subset_of_cons_subset hm) _ (h.set f _ (hm List.mem_cons_self))
  exact hstep l (List.Subset.refl l) t (State.writesWithin_refl t l)

/-- A field given back holds what it held in s. -/
theorem State.get_keepFlds (s t : State) {l : List Fld} (hl : l.Pairwise fun f g => apart g f) (hi : ∀ f ∈ l, f.hi < 32) {f : Fld}
    (hf : f ∈ l) : (s.keepFlds t l).get f = s.get f := by
  induction l generalizing t with
  | nil => cases hf
  | cons g l ih =>
    obtain ⟨hg, hl⟩ := List.pairwise_cons.1 hl
    rw [State.keepFlds_cons]
    rcases List.mem_cons.1 hf with rfl | hf
    · rw [(State.keepFlds_within s _ l).get f hg, State.get_set_same _ _ _ (hi f List.mem_cons_self)]
      exact Nat.mod_eq_of_lt (fldOf_lt _ f)
    · exact ih _ hl (fun f h => hi f (List.mem_cons_of_mem g h)) hf

theorem State.mem_freeFlds (l : List Fld) (s : State) : (s.freeFlds l).mem = s.mem := by
  induction l generalizing s with
  | nil => rfl
  | cons f l ih => exact (ih _).trans rfl

/-! ### The writes of the host -/

/-- A field of RW bits holds what a bus write put into it (00_scope.md R11). -/
theorem State.get_plainWrite {f : Fld} {r : RegRow} (hr : regRow f.addr = some r) (hi : f.hi < 32)
    (hrw : ∀ i, f.lo ≤ i → i ≤ f.hi → r.rw.testBit i = true) (s : State) (w : Word) : (s.plainWrite f.addr w).get f = fldOf w f := by
  apply Nat.eq_of_testBit_eq
  intro j
  simp only [State.get, fldOf, testBit_bitsAt]
  by_cases hj : j < f.hi + 1 - f.lo
  · rw [BitVec.testBit_toNat, State.getLsbD_plainWrite hr (by omega), if_pos (.inl (hrw _ (by omega) (by omega))), BitVec.testBit_toNat]
  · simp [hj]

@[simp] theorem State.prf_plainWrite (s : State) (a : Nat) (w : Word) (k : Nat) : (s.plainWrite a w).prf k = s.prf k := by
  rw [(State.plainWrite_frame s a w).2]; rfl

theorem regRow_prfTgt (d : Fin 4) : regRow (R.PRF_TGT.at d) = some ⟨0x000, 1, 4, 1, 4, 0xFFFF, 0x0, 0x0, 0x0, 0x0⟩ := by
  revert d; decide +kernel

/-- PRF_TGT_WRITE: the demand stored and the write noted (01_signal_to_speaker.md R18). -/
theorem State.tgtWrite_spec (d : Fin 4) (w : Word) (s : State) :
    (s.tgtWrite d w).prf d = { s.prf d with wrote := true } ∧ (s.tgtWrite d w).get (R.PRF_TGT.DEM d) = fldOf w (R.PRF_TGT.DEM d) ∧
      s.onlyRegs (s.tgtWrite d w) [R.PRF_TGT.at d] ∧ (∀ k : Nat, k ≠ d → (s.tgtWrite d w).prf k = s.prf k) ∧
      s.tgtWrite d w = { s with regs := (s.tgtWrite d w).regs, prfs := (s.tgtWrite d w).prfs } := by
  obtain ⟨hregs, hrest⟩ := State.plainWrite_frame s (R.PRF_TGT.at d) w
  refine ⟨?prf, ?dem, hregs, fun k hk => ?other, ?frame⟩
  case prf => simp [State.tgtWrite]
  case dem =>
    have hbits : ∀ i, 0 ≤ i → i ≤ 15 → (0xFFFF : Nat).testBit i = true := by decide
    exact State.get_plainWrite (f := R.PRF_TGT.DEM d) (regRow_prfTgt d) (by decide : 15 < 32) hbits s w
  case other => rw [State.tgtWrite, State.prf_modPrf_other _ _ hk, State.prf_plainWrite]
  case frame =>
    rw [State.tgtWrite, hrest]
    rfl

theorem State.onlyRegsDiffer_trans {s t u : State} (h : s.onlyRegsDiffer t) (k : t.onlyRegsDiffer u) : s.onlyRegsDiffer u := by
  unfold State.onlyRegsDiffer at *
  rw [k, h]

/-- PRF_LIMIT_WRITE: the register written and LPEND set (05_rail_tracking.md R122). -/
theorem State.limWrite_spec (d : Nat) (which : PrfLimit) (w : Word) (s : State) :
    (s.limWrite d which w).bit (R.PRF_STAT.LPEND d) = true ∧
      s.onlyRegs (s.limWrite d which w) [prfLimAddr d which, (R.PRF_STAT.LPEND d).addr] ∧
      (∀ i : Nat, i < 32 → i ≠ (R.PRF_STAT.LPEND d).lo →
        ((s.limWrite d which w).reg (R.PRF_STAT.LPEND d).addr).getLsbD i = (s.reg (R.PRF_STAT.LPEND d).addr).getLsbD i) ∧
      s.onlyRegsDiffer (s.limWrite d which w) := by
  obtain ⟨hregs, hrest⟩ := State.plainWrite_frame s (prfLimAddr d which) w
  have hstat : (R.PRF_STAT.LPEND d).addr ∉ [prfLimAddr d which] := by
    cases which <;> simp [R.PRF_STAT.LPEND, R.PRF_STAT.at, prfLimAddr, R.PRF_LIMV.at, R.PRF_LIMA.at, R.PRF_LIMJ.at]
  refine ⟨State.bit_setB_same _ _ _ (by decide : 28 < 32) (Nat.le_refl 28), fun a ha => ?_, fun i _ hne => ?_, ?_⟩
  · simp only [List.mem_cons, List.not_mem_nil, or_false, not_or] at ha
    exact (State.reg_set_other _ _ _ ha.2).trans (hregs a (by simpa using ha.1))
  · rw [← hregs _ hstat]
    refine State.onlyFields_setB _ _ _ _ i fun f hf hin => ?_
    obtain rfl := List.mem_singleton.1 hf
    exact hne (Nat.le_antisymm hin.2.2 hin.2.1)
  · exact State.onlyRegsDiffer_trans hrest (State.onlyRegsDiffer_set _ _ _)

theorem execPrfTgtWrite_runs {s : State} (hc : s.coreRuns = true) (d : Fin 4) (w : Word) :
    exec (.prfTgtWrite d w) s = .next (s.tgtWrite d w) := by
  change execPrfTgtWrite d w s = _
  rw [execPrfTgtWrite, if_pos hc]

theorem execPrfLimitWrite_runs {s : State} (hc : s.coreRuns = true) (d : Fin 4) (which : PrfLimit) (w : Word) :
    exec (.prfLimitWrite d which w) s = .next (s.limWrite d which w) := by
  change execPrfLimitWrite d which w s = _
  rw [execPrfLimitWrite, if_pos hc]

theorem execPrfWrites_idle {s : State} (hc : s.coreRuns = false) (d : Fin 4) (which : PrfLimit) (w : Word) :
    exec (.prfTgtWrite d w) s = .next s ∧ exec (.prfLimitWrite d which w) s = .next s := by
  change execPrfTgtWrite d w s = _ ∧ execPrfLimitWrite d which w s = _
  simp [execPrfTgtWrite, execPrfLimitWrite, hc]

/-! ### The planner's update -/

/-- Nothing but registers, the recorder, the counter of free values and the planner of domain d differs. -/
def State.onlyPlannerDiffers (s t : State) (d : Nat) : Prop :=
  (∀ k : Nat, k ≠ d → t.prf k = s.prf k) ∧ t = { s with regs := t.regs, fls := t.fls, freeCtr := t.freeCtr, prfs := t.prfs }

theorem State.onlyPlannerDiffers.trans {s t u : State} {d : Nat} (h : s.onlyPlannerDiffers t d) (k : t.onlyPlannerDiffers u d) :
    s.onlyPlannerDiffers u d :=
  ⟨fun n hn => (k.1 n hn).trans (h.1 n hn), by rw [k.2, h.2]⟩

theorem State.onlyRegsFlsDiffer.prf {s t : State} (h : s.onlyRegsFlsDiffer t) (k : Nat) : t.prf k = s.prf k := by
  rw [h]; rfl

theorem State.onlyRegsFlsDiffer.planner {s t : State} (h : s.onlyRegsFlsDiffer t) (d : Nat) : s.onlyPlannerDiffers t d :=
  ⟨fun k _ => h.prf k, by rw [h]⟩

theorem State.onlyPlannerDiffers_modPrf (s : State) (d : Nat) (f : Prf → Prf) : s.onlyPlannerDiffers (s.modPrf d f) d :=
  ⟨fun _ hk => State.prf_modPrf_other s f hk, rfl⟩

theorem State.onlyRegsFlsDiffer.set {s t : State} (h : s.onlyRegsFlsDiffer t) (f : Fld) (v : Nat) : s.onlyRegsFlsDiffer (t.set f v) :=
  State.onlyRegsFlsDiffer_trans h (State.onlyRegsFlsDiffer_set t f v)

theorem State.onlyRegsFlsDiffer.setB {s t : State} (h : s.onlyRegsFlsDiffer t) (f : Fld) (b : Bool) : s.onlyRegsFlsDiffer (t.setB f b) :=
  h.set f _

theorem State.onlyRegsFlsDiffer.setS {s t : State} (h : s.onlyRegsFlsDiffer t) (f : Fld) (x : Int) : s.onlyRegsFlsDiffer (t.setS f x) :=
  h.set f _

theorem State.onlyRegsFlsDiffer_bump (s : State) : s.onlyRegsFlsDiffer s.bump := rfl

theorem State.onlyRegsFlsDiffer.raise {s t : State} (h : s.onlyRegsFlsDiffer t) (code sev : Nat) (data : List Byte) :
    s.onlyRegsFlsDiffer (t.raise code sev data) :=
  State.onlyRegsFlsDiffer_trans h (State.raise_frame t code sev data).1

theorem State.planStart_planner (s : State) (d : Nat) : s.onlyPlannerDiffers (s.planStart d) d := by
  unfold State.planStart
  split
  · exact State.onlyPlannerDiffers_modPrf s d _
  · exact s.onlyRegsFlsDiffer_refl.planner d

theorem State.takeLimits_planner (s : State) (d : Nat) : s.onlyPlannerDiffers (s.takeLimits d) d := by
  unfold State.takeLimits
  split
  · exact (State.onlyPlannerDiffers_modPrf s d _).trans ((State.onlyRegsFlsDiffer_set _ _ _).planner d)
  · exact s.onlyRegsFlsDiffer_refl.planner d

theorem State.targetFlags_frame (s : State) (d : Nat) (g : Target) : s.onlyRegsFlsDiffer (s.targetFlags d g) := by
  unfold State.targetFlags
  extract_lets was s1 s2 s3 s4
  have h1 : s.onlyRegsFlsDiffer s1 := s.onlyRegsFlsDiffer_refl.setB _ _
  have h2 : s.onlyRegsFlsDiffer s2 := by
    unfold s2
    split
    · exact (h1.setB _ _).raise _ _ _
    · exact h1
  have h3 : s.onlyRegsFlsDiffer s3 := by
    unfold s3
    split
    · exact (h2.setB _ _).raise _ _ _
    · exact h2
  exact (((h3.set _ _).setB _ _).setB _ _).set _ _

/-- The registers of a planner that an update writes beside PSTATE and PRF_POS, and the fields of its event (05 R123, R124). -/
@[simp] def planFlds (d : Nat) : List Fld :=
  [R.PRF_STAT.BRAKE d, R.PRF_TGTI.V d, R.PRF_VEL.V d, R.PRF_ACC.V d, R.PRF_QJ.V d, R.PRF_QV.V d, R.PRF_QN.V d,
    R.PRF_STAT.OSAT d] ++ evFields

theorem evFields_subset_planFlds (d : Nat) : evFields ⊆ planFlds d := List.subset_append_right _ _

theorem planFlds_apart_pstate (d : Fin 4) : ∀ f ∈ R.PRF_POS.V d :: planFlds d, apart f (R.PRF_STAT.PSTATE d) := by
  revert d; decide +kernel

theorem planFlds_apart_pos (d : Fin 4) : ∀ f ∈ planFlds d, apart f (R.PRF_POS.V d) := by
  revert d; decide +kernel

theorem sat32u_lt (x : Int) : sat32u x < 2 ^ 32 := by
  unfold sat32u; omega

theorem pstateOf_lt (dir : Int) : pstateOf dir < 2 ^ 2 := by
  unfold pstateOf; split_ifs <;> omega

/-- The registers show the position and the direction of the planner, and no written demand waits (05 R110, R123). -/
def State.planShown (u : State) (d : Nat) : Prop :=
  (u.prf d).wrote = false ∧ u.get (R.PRF_POS.V d) = sat32u (u.prf d).p ∧ u.get (R.PRF_STAT.PSTATE d) = pstateOf (u.prf d).dir

/-- The results of an update: the planner's state shown, and nothing of another planner (05 R123). -/
theorem State.planPublish_spec {s u : State} {d : Fin 4} {g : Target} {q : Quanta} {n : Plan × Bool} (hu : s.planPublish d g q n = u) :
    u.planShown d ∧ s.onlyPlannerDiffers u d := by
  unfold State.planPublish at hu
  extract_lets r s1 s2 s3 s4 s5 at hu
  obtain ⟨hflds, hrec⟩ : s5.writesWithin u (planFlds d) ∧ s5.onlyRegsFlsDiffer u := by
    subst hu
    split
    · exact ⟨((State.writesWithin_refl s5 _).setB _ _).raise _ _ _ (evFields_subset_planFlds d),
        (s5.onlyRegsFlsDiffer_refl.setB _ _).raise _ _ _⟩
    · exact ⟨State.writesWithin_refl s5 _, s5.onlyRegsFlsDiffer_refl⟩
  have hregs : s1.onlyRegsFlsDiffer u := by
    refine State.onlyRegsFlsDiffer_trans ?_ hrec
    exact ((((((((s1.onlyRegsFlsDiffer_refl.set _ _).setB _ _).set _ _).set _ _).setS _ _).setS _ _).set _ _).set _ _).set _ _
  have hpos : ((s2.set (R.PRF_TGTI.V d) g.t).set (R.PRF_POS.V d) (sat32u n.1.p)).writesWithin u (planFlds d) := by
    refine State.writesWithin.trans ?_ hflds
    exact (((((State.writesWithin_refl _ _).setS _ _).setS _ _).set _ _).set _ _).set _ _
  have hpst : (s1.set (R.PRF_STAT.PSTATE d) (pstateOf n.1.dir)).writesWithin u (R.PRF_POS.V d :: planFlds d) := by
    refine State.writesWithin.trans ?_ (hpos.mono (List.subset_cons_self _ _))
    exact (((State.writesWithin_refl _ _).setB _ _).set _ _).set _ _
  have hprf : u.prf d = s1.prf d := hregs.prf d
  rw [State.prf_modPrf_same] at hprf
  unfold State.planShown
  rw [hprf]
  refine ⟨⟨rfl, ?pos, ?pst⟩, (State.onlyPlannerDiffers_modPrf s d _).trans (hregs.planner d)⟩
  case pos =>
    rw [hpos.get _ (planFlds_apart_pos d), State.get_set_same _ _ _ (by decide : 31 < 32)]
    exact Nat.mod_eq_of_lt (sat32u_lt _)
  case pst =>
    rw [hpst.get _ (planFlds_apart_pstate d), State.get_set_same _ _ _ (by decide : 31 < 32)]
    exact Nat.mod_eq_of_lt (pstateOf_lt _)

/-- An update of the planner forms flags, and publishes one step: a free one where limits give no quantum (05 R116, R118; log 4). -/
theorem State.profileStep_publishes (s : State) (d : Nat) :
    ∃ (t : State) (n : Plan × Bool), s.onlyRegsFlsDiffer t ∧ s.profileStep d = t.planPublish d (s.target d) (s.quanta d) n := by
  unfold State.profileStep
  extract_lets g q s1
  have h1 : s.onlyRegsFlsDiffer s1 := s.targetFlags_frame d g
  split
  · exact ⟨s1.bump, s1.freePlan d, State.onlyRegsFlsDiffer_trans h1 s1.onlyRegsFlsDiffer_bump, rfl⟩
  · exact ⟨s1, _, h1, rfl⟩

/-- PROFILE_UPDATE while the domain updates (05 R116, R123). -/
theorem execProfileUpdate_started {d : Fin 4} {s : State} (hu : s.updates d = true) (hs : ((s.planStart d).prf d).started = true) :
    exec (.profileUpdate d) s = .next (((s.planStart d).takeLimits d).profileStep d).settle := by
  change execProfileUpdate d s = _
  simp [execProfileUpdate, hu, hs]

theorem execProfileUpdate_idle {d : Fin 4} {s : State} (h : s.updates d = false ∨ ((s.planStart d).prf d).started = false) :
    exec (.profileUpdate d) s = .next s := by
  change execProfileUpdate d s = _
  rcases h with h | h <;> simp [execProfileUpdate, h]

/-- What an update publishes, and what it leaves, from its start to its results. -/
theorem State.profileStep_spec {s u : State} {d : Fin 4} (hu : ((s.planStart d).takeLimits d).profileStep d = u) :
    u.planShown d ∧ s.onlyPlannerDiffers u d := by
  obtain ⟨t, n, ht, hstep⟩ := ((s.planStart d).takeLimits d).profileStep_publishes d
  obtain ⟨hshown, hrest⟩ := State.planPublish_spec (hstep.symm.trans hu)
  exact ⟨hshown, (((s.planStart_planner d).trans (State.takeLimits_planner _ d)).trans (ht.planner d)).trans hrest⟩

/-! ### RUN bits set -/

/-- The fields that setting RUN bits of a domain writes (03_kareo_loop_fabric.md R78; 04_loop_nesting_and_plausibility.md R87, R102). -/
@[simp] def startFlds (d : Nat) : List Fld :=
  [R.LFC_RUN.RUN d, R.LFC_FAULT.LF d, R.LFC_PLSTAT.DEG d, R.LFC_FCAUSE.CAUSE d, R.LFC_PLCAUSE.CAUSE d, R.LFC_SELVAL.W d,
    R.LFC_SEL.WIN d, R.LFC_SEL.WON d] ++ (List.range 4).map (R.LFC_LDR.BLK d)

theorem State.selTrig_within (s : State) (d j : Nat) : s.writesWithin (s.selTrig d j) (startFlds d) := by
  unfold State.selTrig
  split
  · unfold State.selEval
    extract_lets w s0 s1
    have h0 : s.writesWithin s0 (startFlds d) := by
      unfold s0
      split
      · exact State.writesWithin_refl s _
      · exact (State.writesWithin_refl s _).modDom _ _
    have h1 : s.writesWithin s1 (startFlds d) := h0.setS _ _
    split
    · exact (h1.set _ _).setI _ _ _
    · exact h1.set _ _
  · exact State.writesWithin_refl s _

theorem State.startLoop_within (s : State) (d j : Nat) : s.writesWithin (s.startLoop d j) (startFlds d) := by
  unfold State.startLoop
  extract_lets ln s1 s2 bk inst s3 s4 c
  have h1 : s.writesWithin s1 (startFlds d) := (((State.writesWithin_refl s _).setI _ _ _).setI _ _ _).setI _ _ _
  have h2 : s.writesWithin s2 (startFlds d) := (h1.set _ _).set _ _
  have h4 : s.writesWithin s4 (startFlds d) := (h2.modLoop _ _).modMon _
  split
  · rename_i hj
    exact (((h4.setQuant _ _ _).setQuant _ _ _).modLane _ _).set _ _ (List.mem_append_right _ (List.mem_map.2 ⟨j, List.mem_range.2 hj, rfl⟩))
  · split
    · exact (h4.setQuant _ _ _).modPhase _ _ _
    · exact h4

theorem State.setRun_within (s : State) (d mask : Nat) : s.writesWithin (s.setRun d mask) (startFlds d) := by
  refine State.writesWithin.foldl (fun t j => ?_) _ (State.writesWithin_refl s _)
  split
  · exact (t.startLoop_within d j).trans (State.selTrig_within _ d j)
  · exact State.writesWithin_refl t _

/-! ### The evaluation of the phase manager -/

/-- The fields that an evaluation writes beside the predicted current (06 R140, R143, R144). -/
@[simp] def phaseFlds (d : Nat) : List Fld :=
  startFlds d ++ [R.PWM_PHASES.SOFT d, R.PWM_PHASES.ACT d, R.PWM_PHASES.CNT d, R.PWM_PHASES.GLIDE d] ++ evFields

theorem evFields_subset_phaseFlds (d : Nat) : evFields ⊆ phaseFlds d := List.subset_append_right _ _

theorem startFlds_subset_phaseFlds (d : Nat) : startFlds d ⊆ phaseFlds d :=
  fun _ hf => List.mem_append_left _ (List.mem_append_left _ hf)

theorem phaseFlds_apart_ipred (d : Fin 4) : ∀ f ∈ phaseFlds d, apart f (R.PWM_IPRED.V d) := by
  revert d; decide +kernel

theorem State.giveTargets_within (d n : Nat) (ps : List Nat) (i : Nat) (s : State) (l : List Fld) :
    s.writesWithin (s.giveTargets d n i ps) l := by
  induction ps generalizing i s with
  | nil => exact State.writesWithin_refl s l
  | cons p ps ih => exact ((State.writesWithin_refl s l).modPhase _ _ _).trans (ih _ _)

theorem State.setActive_within (s : State) (d mask : Nat) : s.writesWithin (s.setActive d mask) (phaseFlds d) := by
  unfold State.setActive
  extract_lets s1 s2
  have h2 : s.writesWithin s2 (phaseFlds d) := (((State.writesWithin_refl s _).set _ _).set _ _).modDom _ _
  exact (h2.trans (State.giveTargets_within d _ _ 0 s2 _)).setB _ _

theorem State.phaseStart_within (s : State) (d p : Nat) : s.writesWithin (s.phaseStart d p) (phaseFlds d) := by
  unfold State.phaseStart
  extract_lets s1 s2
  split
  · exact (State.writesWithin_refl s _).modPhase _ _ _
  · have h2 : s.writesWithin s2 (phaseFlds d) := (((State.writesWithin_refl s _).modLoop _ _).modPhase _ _ _).setI _ _ _
    split
    · exact h2.trans ((State.setRun_within _ d _).mono (startFlds_subset_phaseFlds d))
    · exact h2

theorem State.addPhases_within (s : State) (d : Nat) (ps : List Nat) : s.writesWithin (s.addPhases d ps) (phaseFlds d) :=
  ((State.writesWithin.foldl (fun t p => t.phaseStart_within d p) ps (State.writesWithin_refl s _)).trans
    (State.setActive_within _ d _)).raise _ _ _ (evFields_subset_phaseFlds d)

theorem State.shedPhases_within (s : State) (d : Nat) (ps : List Nat) : s.writesWithin (s.shedPhases d ps) (phaseFlds d) :=
  ((State.writesWithin.foldl (fun t _ => (State.writesWithin_refl t _).modPhase _ _ _) ps (State.writesWithin_refl s _)).trans
    (State.setActive_within _ d _)).raise _ _ _ (evFields_subset_phaseFlds d)

theorem State.crankShed_within (s : State) (d nmin : Nat) : s.writesWithin (s.crankShed d nmin) (phaseFlds d) := by
  unfold State.crankShed
  extract_lets ps
  split
  · exact State.writesWithin_refl s _
  · exact s.shedPhases_within d ps

theorem State.countShed_within (s : State) (d : Nat) : s.writesWithin (s.countShed d) (phaseFlds d) := by
  unfold State.countShed
  extract_lets dw n
  split
  · exact (State.writesWithin_refl s _).modDom _ _
  · split
    · exact s.shedPhases_within d _
    · exact (State.writesWithin_refl s _).modDom _ _

/-- An evaluation publishes the predicted current, and then writes other fields alone (06 R139, R140). -/
theorem State.phaseEval_within (s : State) (d : Nat) :
    (s.setReg (R.PWM_IPRED.at d) (BitVec.ofNat 32 (s.ipred d))).writesWithin (s.phaseEval d) (phaseFlds d) := by
  unfold State.phaseEval
  extract_lets ip s1 act n avail nmin dtot need en fl ps
  split
  · exact s1.crankShed_within d nmin
  · split
    · exact s1.addPhases_within d _
    · split
      · exact s1.countShed_within d
      · exact (State.writesWithin_refl s1 _).modDom _ _

theorem State.mem_phaseEval (s : State) (d : Nat) : (s.phaseEval d).mem = s.mem := (s.phaseEval_within d).2

theorem State.ipred_lt (s : State) (d : Nat) : s.ipred d < 2 ^ 32 := by
  exact Nat.lt_of_le_of_lt (Nat.min_le_right _ 0xFFFFFFFF) (by decide)

theorem State.get_phaseEval_ipred (s : State) (d : Fin 4) : (s.phaseEval d).get (R.PWM_IPRED.V d) = s.ipred d := by
  rw [(s.phaseEval_within d).get _ (phaseFlds_apart_ipred d), State.get]
  change fldOf ((s.setReg (R.PWM_IPRED.at d) _).reg (R.PWM_IPRED.at d)) _ = _
  rw [State.reg_setReg_same]
  change (BitVec.ofNat 32 (s.ipred d)).toNat / 2 ^ 0 % 2 ^ 32 = _
  have hlt := s.ipred_lt d
  rw [BitVec.toNat_ofNat]
  omega

/-- The settings of the phase manager that can be in error together (06 R139). -/
def phaseSettings (d : Nat) : List Fld := [R.PWM_PHASES.MINPH d, R.PWM_IADD.V d, R.PWM_ISHED.V d]

theorem phaseSettings_apart (d : Fin 4) :
    (phaseSettings d).Pairwise (fun f g => apart g f) ∧ ∀ f ∈ phaseSettings d, f.hi < 32 := by
  revert d; decide +kernel

/-- An evaluation under settings in error: free settings, and the host's given back (log 4). -/
theorem State.get_phaseEval_bad (s : State) (d : Fin 4) {f : Fld} (hf : f ∈ phaseSettings d) :
    (s.underSettings true (phaseSettings d) fun t => t.phaseEval d).get f = s.get f :=
  State.get_keepFlds s _ (phaseSettings_apart d).1 (phaseSettings_apart d).2 hf

theorem State.mem_phaseEval_bad (s : State) (d : Nat) :
    (s.underSettings true (phaseSettings d) fun t => t.phaseEval d).mem = s.mem :=
  calc _ = ((s.freeFlds (phaseSettings d)).phaseEval d).mem := (State.keepFlds_within s _ _).2
    _ = (s.freeFlds (phaseSettings d)).mem := State.mem_phaseEval _ d
    _ = s.mem := State.mem_freeFlds _ s

/-- PHASE_EVALUATION while the planner of a running domain has started (06 R139). -/
theorem execPhaseEvaluation_started {d : Fin 4} {s : State} (hc : s.coreRuns = true) (hd : dstRuns (s.dom d).dst = true)
    (hs : (s.prf d).started = true) :
    exec (.phaseEvaluation d) s = .next (s.underSettings (s.phSetBad d) (phaseSettings d) fun t => t.phaseEval d).settle := by
  change execPhaseEvaluation d s = _
  simp [execPhaseEvaluation, hc, hd, hs, phaseSettings]

theorem execPhaseEvaluation_idle {d : Fin 4} {s : State}
    (h : s.coreRuns = false ∨ dstRuns (s.dom d).dst = false ∨ (s.prf d).started = false) : exec (.phaseEvaluation d) s = .next s := by
  change execPhaseEvaluation d s = _
  rcases h with h | h | h <;> simp [execPhaseEvaluation, h]

/-! ### The statement of R116, R122, R123 and R139 -/

/-- Settles O34: an update ends in `planPublish`, a write in `plainWrite`, and an evaluation writes `phaseFlds` alone after PWM_IPRED. -/
theorem profileCommandsMoveThePlanner : Obligations.ProfileCommandsMoveThePlanner := by
  unfold Obligations.ProfileCommandsMoveThePlanner
  refine ⟨fun d s hu hs => ?update, fun d s h => execProfileUpdate_idle h,
    fun d w s hc => ⟨_, execPrfTgtWrite_runs hc d w, s.tgtWrite_spec d w⟩,
    fun d which w s hc => ⟨_, execPrfLimitWrite_runs hc d which w, s.limWrite_spec d which w⟩,
    fun d which w s hc => execPrfWrites_idle hc d which w, fun d s hc hd hs hok => ?legal, fun d s hc hd hs hbad => ?bad,
    fun d s h => execPhaseEvaluation_idle h⟩
  case update =>
    obtain ⟨⟨hwrote, hpos, hpst⟩, hothers, hframe⟩ :=
      State.profileStep_spec (rfl : ((s.planStart d).takeLimits d).profileStep d = _)
    exact ⟨_, execProfileUpdate_started hu hs, rfl, hwrote, hpos, hpst, hothers, hframe⟩
  case legal =>
    have hexec := execPhaseEvaluation_started hc hd hs
    rw [hok] at hexec
    exact ⟨hexec, s.get_phaseEval_ipred d⟩
  case bad =>
    have hexec := execPhaseEvaluation_started hc hd hs
    rw [hbad] at hexec
    exact ⟨_, hexec, s.get_phaseEval_bad d (by simp [phaseSettings]), s.get_phaseEval_bad d (by simp [phaseSettings]),
      s.get_phaseEval_bad d (by simp [phaseSettings]), s.mem_phaseEval_bad d⟩

end Sys2Proof.Machine
end

section
/-! TB_NOW: what a tick counts, and the latch of its high word (02_time_base_and_clocks.md R36, R37; 15_drip_and_flowstone.md R323). -/

namespace Sys2Proof.Machine

/-! ### A saturating counter -/

theorem satN_eq_min (hi x : Nat) : satN hi x = min hi x := by
  unfold satN
  split <;> omega

theorem State.get_incSat_same (s : State) (f : Fld) (h : f.hi < 32) :
    (s.incSat f).get f = min (2 ^ (f.hi + 1 - f.lo) - 1) (s.get f + 1) := by
  have hp : 0 < 2 ^ (f.hi + 1 - f.lo) := Nat.two_pow_pos _
  rw [State.incSat, State.get_set_same _ _ _ h, satN_eq_min]
  exact Nat.mod_eq_of_lt (by omega)

/-! ### The latch of TB_NOW[63:32] (02 R37) -/

theorem State.tbLatch_tbLoRead_same (s : State) (m : Nat) : (s.tbLoRead m).tbLatch m = BitVec.ofNat 32 (s.now / 2 ^ 32) :=
  tblGet_tblSet_same _ _ _ _

theorem State.tbLatch_tbLoRead_other (s : State) {m k : Nat} (h : k ≠ m) : (s.tbLoRead m).tbLatch k = s.tbLatch k :=
  tblGet_tblSet_other _ _ _ h

theorem execTbNowLoRead_runs {s : State} (hc : s.coreRuns = true) (m : Nat) : exec (.tbNowLoRead m) s = .next (s.tbLoRead m) := by
  change Host.Outcome.next (if s.coreRuns = true then s.tbLoRead m else s) = _
  rw [if_pos hc]

theorem execTbNowLoRead_idle {s : State} (hc : s.coreRuns = false) (m : Nat) : exec (.tbNowLoRead m) s = .next s := by
  change Host.Outcome.next (if s.coreRuns = true then s.tbLoRead m else s) = _
  rw [if_neg (by simp [hc])]

/-- Settles O12: a read sets the entry of its own master in the table of latches. -/
theorem timeBaseHighWordIsLatchedPerMaster : Obligations.TimeBaseHighWordIsLatchedPerMaster := by
  unfold Obligations.TimeBaseHighWordIsLatchedPerMaster
  exact ⟨fun m s hc => ⟨_, execTbNowLoRead_runs hc m, s.tbLatch_tbLoRead_same m, fun _ hk => s.tbLatch_tbLoRead_other hk, rfl⟩,
    fun m _ hc => execTbNowLoRead_idle hc m⟩

/-! ### The clock of Drip (15 R323) -/

/-- A tick completes a period of the Drip clock that DRP_CNT counts: no edge to the start of the cycle is awaited. -/
abbrev State.dripCounts (s : State) : Prop :=
  s.fls.dripOn = true ∧ s.pwr.supplyHeld = false ∧ 383 ≤ s.fls.dripSub ∧ s.fls.dripSkip = 0

/-- Such a tick counts, and a new period of the Drip clock begins. -/
theorem State.dripTick_counts {s : State} (h : s.dripCounts) :
    s.dripTick = (s.modFls fun f => { f with dripSub := 0, dripSkip := f.dripSkip - 1 }).incSat R.DRP_CNT.C := by
  obtain ⟨hon, hheld, hsub, hskip⟩ := h
  simp [State.dripTick, hon, hheld, hsub, hskip]

/-- Any other tick changes the divider and the awaited edges at most. -/
theorem State.dripTick_counts_not {s : State} (h : ¬ s.dripCounts) :
    ∃ sub skip : Nat, s.dripTick = s.modFls fun f => { f with dripSub := sub, dripSkip := skip } := by
  unfold State.dripTick
  split
  · rename_i hrun
    simp only [Bool.and_eq_true, Bool.not_eq_true'] at hrun
    split
    · rename_i hsub
      have hskip : s.fls.dripSkip ≠ 0 := fun hskip => h ⟨hrun.1, hrun.2, hsub, hskip⟩
      exact ⟨0, s.fls.dripSkip - 1, by simp only [if_neg hskip]; rfl⟩
    · exact ⟨s.fls.dripSub + 1, s.fls.dripSkip, rfl⟩
  · exact ⟨s.fls.dripSub, s.fls.dripSkip, rfl⟩

/-! ### One tick (02 R36) -/

/-- The state in which a tick reaches Drip: TB_NOW has counted, and the buckets may have. -/
def State.ticked (s : State) (b : Tbl Bucket) : State :=
  { s with tb := { s.tb with now := if s.tb.run then (s.tb.now + 1) % 2 ^ 64 else s.tb.now }, fls := { s.fls with buckets := b } }

theorem State.tick_eq_dripTick (s : State) : ∃ b : Tbl Bucket, s.tick = (s.ticked b).dripTick := by
  have hms : ∀ t : State, ∃ b : Tbl Bucket, t.bucketMs = { t with fls := { t.fls with buckets := b } } := fun _ => ⟨_, rfl⟩
  have hnow : (if s.tb.run then s.modTb fun t => { t with now := (t.now + 1) % 2 ^ 64 } else s) = s.ticked s.fls.buckets := by
    unfold State.ticked
    split <;> rfl
  unfold State.tick
  rw [hnow]
  extract_lets s1 s2
  unfold s2
  split
  · obtain ⟨b, hb⟩ := hms s1
    exact ⟨b, by rw [hb]; rfl⟩
  · exact ⟨s.fls.buckets, rfl⟩

/-- Settles O2: a tick ends in the clock of Drip, which counts in DRP_CNT or leaves the registers. -/
theorem idleStepIsOneTick : Obligations.IdleStepIsOneTick := by
  unfold Obligations.IdleStepIsOneTick
  intro s hs
  obtain ⟨b, htick⟩ := s.tick_eq_dripTick
  refine ⟨s.tick, step_idle s hs, ?_⟩
  change _ ∧ _ ∧ s.tick.get R.DRP_CNT.C = (if s.dripCounts then _ else _) ∧ _
  by_cases hc : s.dripCounts
  · have hdrip : (s.ticked b).dripCounts := hc
    rw [htick, State.dripTick_counts hdrip, if_pos hc]
    exact ⟨rfl, State.onlyFields_incSat _ _, State.get_incSat_same _ _ (by decide), rfl⟩
  · have hdrip : ¬ (s.ticked b).dripCounts := hc
    obtain ⟨sub, skip, hother⟩ := State.dripTick_counts_not hdrip
    rw [htick, hother, if_neg hc]
    exact ⟨rfl, State.onlyFields_of_regs _ rfl, rfl, rfl⟩

end Sys2Proof.Machine
end

section
/-! The T1 port: the mapping of TB_NOW to gPTP, its loss, and the holdover (02_time_base_and_clocks.md R41; 10_audio_inputs.md R229 to
R231, R243, R245). -/

namespace Sys2Proof.Machine

/-! ### Fields of a register written whole -/

theorem State.get_setReg_same (s : State) {f : Fld} {a : Nat} (w : Word) (h : f.addr = a) : (s.setReg a w).get f = fldOf w f := by
  rw [State.get, h, State.reg_setReg_same]

theorem State.get_setReg_other (s : State) {f : Fld} {a : Nat} (w : Word) (h : f.addr ≠ a) : (s.setReg a w).get f = s.get f := by
  rw [State.get, State.reg_setReg_other s w h, State.get]

/-- A field that is the whole word. -/
theorem fldOf_ofNat_whole {f : Fld} (hlo : f.lo = 0) (hhi : f.hi = 31) (v : Nat) : fldOf (BitVec.ofNat 32 v) f = v % 2 ^ 32 := by
  simp [fldOf, bitsAt, hlo, hhi]

theorem State.onlyRegs.setReg {s t : State} {l : List Nat} (h : s.onlyRegs t l) (a : Nat) (w : Word) (ha : a ∈ l) :
    s.onlyRegs (t.setReg a w) l :=
  fun b hb => (State.reg_setReg_other t w fun hba => hb (by rwa [hba])).trans (h b hb)

theorem State.onlyRegs.set {s t : State} {l : List Nat} (h : s.onlyRegs t l) (f : Fld) (v : Nat) (ha : f.addr ∈ l) :
    s.onlyRegs (t.set f v) l :=
  h.setReg _ _ ha

theorem State.onlyRegsDiffer.setReg {s t : State} (h : s.onlyRegsDiffer t) (a : Nat) (w : Word) : s.onlyRegsDiffer (t.setReg a w) :=
  State.onlyRegsDiffer_trans h rfl

theorem State.onlyRegsDiffer.set {s t : State} (h : s.onlyRegsDiffer t) (f : Fld) (v : Nat) : s.onlyRegsDiffer (t.set f v) :=
  h.setReg _ _

theorem State.onlyRegsDiffer.setB {s t : State} (h : s.onlyRegsDiffer t) (f : Fld) (b : Bool) : s.onlyRegsDiffer (t.setB f b) :=
  h.set f _

theorem State.writesWithin.bit {s t : State} {l : List Fld} (h : s.writesWithin t l) (g : Fld) (hg : ∀ f ∈ l, apart f g) :
    t.bit g = s.bit g := by
  rw [State.bit, h.get g hg, State.bit]

theorem State.bit_raise (s : State) (code sev : Nat) (data : List Byte) {g : Fld} (hg : ∀ f ∈ evFields, apart f g) :
    (s.raise code sev data).bit g = s.bit g := by
  rw [State.bit, State.get_raise s code sev data g hg, State.bit]

/-! ### The mapping (02 R41) -/

/-- What a Sync exchange leaves in the mapping registers. -/
def State.maps (t : State) (tbAt sec ns : Nat) (rate : BitVec 32) (gen : Nat) : Prop :=
  t.get R.TB_MAP_TB_LO.V = tbAt % 2 ^ 32 ∧ t.get R.TB_MAP_TB_HI.V = tbAt / 2 ^ 32 % 2 ^ 32 ∧
    t.get R.TB_MAP_SEC_LO.V = sec % 2 ^ 32 ∧ t.get R.TB_MAP_SEC_HI.V = sec / 2 ^ 32 % 2 ^ 16 ∧
    t.get R.TB_MAP_NS.V = ns % 2 ^ 32 ∧ t.reg R.TB_MAP_RATE.at = rate ∧ t.get R.TB_MAP_STAT.GEN = gen

/-- The registers of the mapping. -/
def mapRegs : List Nat :=
  [R.TB_MAP_TB_LO.at, R.TB_MAP_TB_HI.at, R.TB_MAP_SEC_LO.at, R.TB_MAP_SEC_HI.at, R.TB_MAP_NS.at, R.TB_MAP_RATE.at, R.TB_MAP_STAT.at]

theorem State.mapUpdate_maps (s : State) (tbAt sec ns : Nat) (rate : BitVec 32) :
    (s.mapUpdate tbAt sec ns rate).maps tbAt sec ns rate ((s.get R.TB_MAP_STAT.GEN + 1) % 2 ^ 16) := by
  unfold State.mapUpdate State.incWrap
  extract_lets w s1 s2
  simp (disch := decide) only [State.maps, w, s1, s2, State.get_set_same, State.get_set_other, State.get_setReg_same,
    State.get_setReg_other, State.reg_set_other, State.reg_setReg_same, fldOf_ofNat_whole, true_and]
  exact ⟨rfl, rfl⟩

theorem State.mapUpdate_onlyRegs (s : State) (tbAt sec ns : Nat) (rate : BitVec 32) :
    s.onlyRegs (s.mapUpdate tbAt sec ns rate) mapRegs := by
  have h0 : s.onlyRegs s mapRegs := fun _ _ => rfl
  exact ((((((h0.setReg _ _ (by decide)).setReg _ _ (by decide)).setReg _ _ (by decide)).set R.TB_MAP_SEC_HI.V _ (by decide)).setReg
    _ _ (by decide)).setReg _ _ (by decide)).set R.TB_MAP_STAT.GEN _ (by decide)

theorem State.mapUpdate_frame (s : State) (tbAt sec ns : Nat) (rate : BitVec 32) : s.onlyRegsDiffer (s.mapUpdate tbAt sec ns rate) :=
  ((((((s.onlyRegsDiffer_refl.setReg _ _).setReg _ _).setReg _ _).set R.TB_MAP_SEC_HI.V _).setReg _ _).setReg _ _).set
    R.TB_MAP_STAT.GEN _

theorem State.mapUpdate_valid (s : State) (tbAt sec ns : Nat) (rate : BitVec 32) :
    (s.mapUpdate tbAt sec ns rate).bit R.TB_MAP_STAT.VALID = s.bit R.TB_MAP_STAT.VALID := by
  unfold State.mapUpdate State.incWrap State.bit
  extract_lets w s1 s2
  simp (disch := decide) only [w, s1, s2, State.get_set_other, State.get_setReg_other]

/-! ### Syncs (10 R230, R231) -/

/-- The Syncs in a row with the one at hand. -/
def State.syncRun (s : State) : Nat := if s.bit R.NET_STAT.ASCAP then min (s.net.syncs + 1) 8 else 0

theorem State.syncRun_eq_eight {s : State} : s.syncRun = 8 ↔ s.bit R.NET_STAT.ASCAP = true ∧ 7 ≤ s.net.syncs := by
  unfold State.syncRun
  split
  · rename_i hcap
    simp only [hcap, true_and]
    omega
  · rename_i hcap
    simp [hcap]

theorem State.syncRun_of_lt {s : State} (h : s.bit R.NET_STAT.ASCAP = false ∨ s.net.syncs < 7) :
    s.syncRun = if s.bit R.NET_STAT.ASCAP then s.net.syncs + 1 else 0 := by
  unfold State.syncRun
  split
  · rename_i hcap
    have : s.net.syncs < 7 := h.resolve_left (by simp [hcap])
    omega
  · rfl

/-- The state with the run of Syncs counted. -/
def State.synced (s : State) : State := s.modNet fun x => { x with syncs := s.syncRun }

theorem State.gptpSync_cases (s : State) (tbAt sec ns : Nat) (rate : BitVec 32) : s.gptpSync tbAt sec ns rate =
    if s.syncRun = 8 then ((s.synced.mapUpdate tbAt sec ns rate).setB R.TB_MAP_STAT.VALID true).setB R.NET_STAT.HOLD false
    else if s.bit R.TB_MAP_STAT.VALID then s.synced.mapUpdate tbAt sec ns rate else s.synced := rfl

/-- A Sync that writes the mapping: the registers of R41, VALID and HOLD, the run, and the frame. -/
def State.syncMaps (s t : State) (tbAt sec ns : Nat) (rate : BitVec 32) : Prop :=
  t.maps tbAt sec ns rate ((s.get R.TB_MAP_STAT.GEN + 1) % 2 ^ 16) ∧ t.bit R.TB_MAP_STAT.VALID = true ∧
    t.bit R.NET_STAT.HOLD = (if s.syncRun = 8 then false else s.bit R.NET_STAT.HOLD) ∧ t.net = { s.net with syncs := s.syncRun } ∧
    s.onlyRegs t (mapRegs ++ [R.NET_STAT.at]) ∧ t = { s with regs := t.regs, net := t.net }

/-- Registers written after a change of the T1 port. -/
theorem State.onlyRegsDiffer.modNet {s t : State} {f : Net → Net} (h : (s.modNet f).onlyRegsDiffer t) :
    t.net = f s.net ∧ t = { s with regs := t.regs, net := t.net } := by
  rw [h]
  exact ⟨rfl, rfl⟩

theorem State.gptpSync_maps {s : State} (h : s.syncRun = 8 ∨ s.bit R.TB_MAP_STAT.VALID = true) (tbAt sec ns : Nat) (rate : BitVec 32) :
    s.syncMaps (s.gptpSync tbAt sec ns rate) tbAt sec ns rate := by
  have hmaps := s.synced.mapUpdate_maps tbAt sec ns rate
  have hkept := s.synced.mapUpdate_onlyRegs tbAt sec ns rate
  have hframe := s.synced.mapUpdate_frame tbAt sec ns rate
  have hvalid := s.synced.mapUpdate_valid tbAt sec ns rate
  rw [State.gptpSync_cases]
  generalize s.synced.mapUpdate tbAt sec ns rate = t at *
  have hregs : s.onlyRegs t (mapRegs ++ [R.NET_STAT.at]) := fun a ha => hkept a fun hmem => ha (List.mem_append_left _ hmem)
  unfold State.syncMaps
  split
  · obtain ⟨hnet, hrest⟩ := ((hframe.setB R.TB_MAP_STAT.VALID true).setB R.NET_STAT.HOLD false).modNet
    refine ⟨?_, ?_, ?_, hnet, (hregs.set R.TB_MAP_STAT.VALID _ (by decide)).set R.NET_STAT.HOLD _ (by decide), hrest⟩
    · simp (disch := decide) only [State.maps, State.setB, State.get_set_other, State.reg_set_other] at hmaps ⊢
      exact hmaps
    · simp (disch := decide) only [State.bit_setB_other, State.bit_setB_same]
    · simp (disch := decide) only [State.bit_setB_same]
  · rename_i hrun
    obtain ⟨hnet, hrest⟩ := hframe.modNet
    have hhold : R.NET_STAT.at ∉ mapRegs := by decide
    rw [if_pos (h.resolve_left hrun)]
    refine ⟨hmaps, hvalid.trans (h.resolve_left hrun), ?_, hnet, hregs, hrest⟩
    exact congrArg (fun w => decide (fldOf w R.NET_STAT.HOLD ≠ 0)) (hkept _ hhold)

theorem State.gptpSync_counts {s : State} (h : s.syncRun ≠ 8) (hv : s.bit R.TB_MAP_STAT.VALID = false) (tbAt sec ns : Nat)
    (rate : BitVec 32) : s.gptpSync tbAt sec ns rate = s.synced := by
  rw [State.gptpSync_cases, if_neg h, if_neg (by simp [hv])]

/-! ### The messages that the MAC passes (10 R229) -/

theorem State.tagOk_eq_true {s : State} {e : EthHdr} :
    s.tagOk e = true ↔ e.tag = none ∨ ∃ v : BitVec 12, e.tag = some v ∧ v.toNat = s.get R.NET_CFG.VID ∧ v ≠ 0 := by
  unfold State.tagOk
  cases htag : e.tag with
  | none => simp
  | some v =>
    have hzero : v ≠ 0 ↔ v.toNat ≠ 0 := by simp [BitVec.toNat_eq]
    simp only [Bool.and_eq_true, bne_iff_ne, beq_iff_eq, reduceCtorEq, Option.some.injEq, exists_eq_left', false_or, hzero]
    constructor
    · rintro ⟨hvid, heq⟩
      exact ⟨heq, heq ▸ hvid⟩
    · rintro ⟨heq, hv⟩
      exact ⟨heq ▸ hv, heq⟩

theorem State.gptpFrame_eq_true {s : State} {e : EthHdr} : s.gptpFrame e = true ↔
    s.netOn = true ∧ (e.tag = none ∨ ∃ v : BitVec 12, e.tag = some v ∧ v.toNat = s.get R.NET_CFG.VID ∧ v ≠ 0) ∧
      e.etherType = 0x88F7 ∧ e.dst = 0x0180C200000E := by
  simp only [State.gptpFrame, Bool.and_eq_true, beq_iff_eq, State.tagOk_eq_true, and_assoc]
  rfl

theorem State.gptpOurs_eq_true {s : State} {e : EthHdr} {dn : BitVec 8} (he : s.gptpFrame e = true) (hd : dn.toNat = s.get R.NET_CFG.GDOM) :
    s.gptpOurs ⟨e, dn⟩ = true := by
  simp [State.gptpOurs, he, hd]

theorem State.gptpOurs_eq_false {s : State} {e : EthHdr} {dn : BitVec 8} (h : s.gptpFrame e = false ∨ dn.toNat ≠ s.get R.NET_CFG.GDOM) :
    s.gptpOurs ⟨e, dn⟩ = false := by
  rcases h with h | h <;> simp [State.gptpOurs, h]

theorem execGptpSync_ours {s : State} {h : GptpHdr} (ho : s.gptpOurs h = true) (tbAt sec ns : Nat) (rate : BitVec 32) :
    exec (.gptpSync h tbAt ⟨sec, ns⟩ rate) s = .next (s.gptpSync tbAt sec ns rate) := by
  change execGptpSync h tbAt ⟨sec, ns⟩ rate s = _
  rw [execGptpSync, if_pos ho]

theorem execGptp_foreign {s : State} {h : GptpHdr} (ho : s.gptpOurs h = false) (tbAt sec ns : Nat) (rate : BitVec 32) (g : BitVec 64) :
    exec (.gptpSync h tbAt ⟨sec, ns⟩ rate) s = .next s ∧ exec (.gptpAnnounce ⟨h, g⟩) s = .next s := by
  change execGptpSync h tbAt ⟨sec, ns⟩ rate s = _ ∧ execGptpAnnounce ⟨h, g⟩ s = _
  simp [execGptpSync, execGptpAnnounce, ho]

/-- The first grandmaster is kept. -/
theorem execGptpAnnounce_first {s : State} {h : GptpHdr} (ho : s.gptpOurs h = true) (hgm : s.net.gm = none) (g : BitVec 64) :
    exec (.gptpAnnounce ⟨h, g⟩) s = .next (s.modNet fun n => { n with gm := some g }) := by
  change execGptpAnnounce ⟨h, g⟩ s = _
  simp [execGptpAnnounce, ho, hgm]

theorem execGptpAnnounce_same {s : State} {h : GptpHdr} (ho : s.gptpOurs h = true) {g : BitVec 64} (hgm : s.net.gm = some g) :
    exec (.gptpAnnounce ⟨h, g⟩) s = .next s := by
  change execGptpAnnounce ⟨h, g⟩ s = _
  simp [execGptpAnnounce, ho, hgm]

/-- Another grandmaster sets GMCHG and ends the mapping. -/
theorem execGptpAnnounce_changed {s : State} {h : GptpHdr} (ho : s.gptpOurs h = true) {g k : BitVec 64} (hgm : s.net.gm = some k)
    (hk : k ≠ g) :
    exec (.gptpAnnounce ⟨h, g⟩) s = .next (((s.modNet fun n => { n with gm := some g }).setB R.NET_STAT.GMCHG true).gptpLost 2) := by
  change execGptpAnnounce ⟨h, g⟩ s = _
  simp [execGptpAnnounce, ho, hgm, hk]

/-! ### The loss of the mapping (10 R231, R245) -/

/-- The fields that a loss writes: HOLD, VALID and those of its event. -/
@[simp] def lossFlds : List Fld := [R.NET_STAT.HOLD, R.TB_MAP_STAT.VALID] ++ evFields

theorem evFields_subset_lossFlds : evFields ⊆ lossFlds := List.subset_append_right _ _

/-- Nothing but registers, the recorder, the counter of free values and the T1 port differs. -/
def State.onlyNetDiffers (s t : State) : Prop := t = { s with regs := t.regs, fls := t.fls, freeCtr := t.freeCtr, net := t.net }

theorem State.onlyNetDiffers_trans {s t u : State} (h : s.onlyNetDiffers t) (k : t.onlyNetDiffers u) : s.onlyNetDiffers u := by
  unfold State.onlyNetDiffers at *
  rw [k, h]

theorem State.onlyNetDiffers_modNet (s : State) (f : Net → Net) : s.onlyNetDiffers (s.modNet f) := rfl

theorem State.onlyRegsFlsDiffer.net {s t : State} (h : s.onlyRegsFlsDiffer t) : s.onlyNetDiffers t := by
  unfold State.onlyNetDiffers
  rw [h]

/-- A change of the T1 port alone. -/
theorem State.modNet_within (s : State) (f : Net → Net) (l : List Fld) : s.writesWithin (s.modNet f) l :=
  (State.writesWithin_refl s l).rest rfl rfl

theorem State.gptpLost_within (s : State) (cause : Nat) : s.writesWithin (s.gptpLost cause) lossFlds := by
  have hcount : s.writesWithin (s.modNet fun n => { n with syncs := 0 }) lossFlds := s.modNet_within _ _
  unfold State.gptpLost
  extract_lets s1
  split
  · exact ((hcount.setB _ _).setB _ _).raise _ _ _ evFields_subset_lossFlds
  · exact hcount

/-- A loss ends the run of Syncs and VALID, and begins the holdover where VALID was set. -/
theorem State.gptpLost_spec (s : State) (cause : Nat) :
    (s.gptpLost cause).net = { s.net with syncs := 0 } ∧ (s.gptpLost cause).bit R.TB_MAP_STAT.VALID = false ∧
      (s.gptpLost cause).bit R.NET_STAT.HOLD = (s.bit R.NET_STAT.HOLD || s.bit R.TB_MAP_STAT.VALID) ∧
      s.onlyNetDiffers (s.gptpLost cause) := by
  unfold State.gptpLost
  extract_lets s1
  have h1 : s.onlyNetDiffers s1 := rfl
  have hvalid : s1.bit R.TB_MAP_STAT.VALID = s.bit R.TB_MAP_STAT.VALID := rfl
  have hhold : s1.bit R.NET_STAT.HOLD = s.bit R.NET_STAT.HOLD := rfl
  split
  · rename_i hv
    have hev : ∀ g ∈ [R.NET_STAT.HOLD, R.TB_MAP_STAT.VALID], ∀ f ∈ evFields, apart f g := by decide
    refine ⟨State.raise_net _ _ _ _, ?_, ?_, ?_⟩
    · rw [State.bit_raise _ _ _ _ (hev _ (by simp))]
      simp (disch := decide) only [State.bit_setB_other, State.bit_setB_same]
    · rw [State.bit_raise _ _ _ _ (hev _ (by simp)), hv, Bool.or_true]
      exact State.bit_setB_same _ _ _ (by decide) (by decide)
    · exact State.onlyNetDiffers_trans h1 (((s1.onlyRegsFlsDiffer_refl.setB _ _).setB _ _).raise _ _ _).net
  · rename_i hv
    simp only [Bool.not_eq_true] at hv
    exact ⟨rfl, hvalid.trans hv, by rw [hhold, hv, Bool.or_false], h1⟩

/-- A loss after a change of the port that leaves HOLD and VALID. -/
theorem State.gptpLost_after {s u : State} {l : List Fld} (hu : s.writesWithin u l) (hl : ∀ f ∈ l, apart f R.NET_STAT.HOLD)
    (hl' : ∀ f ∈ l, apart f R.TB_MAP_STAT.VALID) (hn : s.onlyNetDiffers u) (cause : Nat) :
    (u.gptpLost cause).bit R.TB_MAP_STAT.VALID = false ∧
      (u.gptpLost cause).bit R.NET_STAT.HOLD = (s.bit R.NET_STAT.HOLD || s.bit R.TB_MAP_STAT.VALID) ∧
      s.onlyFields (u.gptpLost cause) (l ++ lossFlds) ∧ s.onlyNetDiffers (u.gptpLost cause) := by
  obtain ⟨-, hvalid, hhold, hrest⟩ := u.gptpLost_spec cause
  rw [hu.bit _ hl, hu.bit _ hl'] at hhold
  exact ⟨hvalid, hhold, State.onlyFields_trans hu.1 (u.gptpLost_within cause).1, State.onlyNetDiffers_trans hn hrest⟩

theorem State.gptpLost_net (u : State) (cause : Nat) : (u.gptpLost cause).net = { u.net with syncs := 0 } := (u.gptpLost_spec cause).1

/-- A field that a loss does not write. -/
theorem State.gptpLost_bit (u : State) (cause : Nat) {g : Fld} (hg : ∀ f ∈ lossFlds, apart f g) : (u.gptpLost cause).bit g = u.bit g :=
  (u.gptpLost_within cause).bit g hg

/-- The fields of the neighbour and the link. -/
abbrev portFlds : List Fld := [R.NET_STAT.LINK, R.NET_STAT.ASCAP]

/-- What a lost neighbour, a link down and a Sync time-out leave, beside what each makes of asCapable and LINK. -/
def State.losesTime (s t : State) (cap link : Bool) : Prop :=
  t.net.syncs = 0 ∧ t.bit R.TB_MAP_STAT.VALID = false ∧ t.bit R.NET_STAT.HOLD = (s.bit R.NET_STAT.HOLD || s.bit R.TB_MAP_STAT.VALID) ∧
    t.bit R.NET_STAT.ASCAP = cap ∧ t.bit R.NET_STAT.LINK = link ∧ s.onlyFields t (portFlds ++ lossFlds) ∧ s.onlyNetDiffers t

theorem State.gptpLost_losesTime {s u : State} (hu : s.writesWithin u portFlds) (hn : s.onlyNetDiffers u) (cause : Nat) :
    s.losesTime (u.gptpLost cause) (u.bit R.NET_STAT.ASCAP) (u.bit R.NET_STAT.LINK) := by
  obtain ⟨hvalid, hhold, hflds, hrest⟩ := State.gptpLost_after hu (by decide) (by decide) hn cause
  exact ⟨congrArg Net.syncs (u.gptpLost_net cause), hvalid, hhold, u.gptpLost_bit cause (by decide), u.gptpLost_bit cause (by decide),
    hflds, hrest⟩

theorem State.setAsCap_true (u : State) : u.setAsCap true = u.setB R.NET_STAT.ASCAP true := by
  simp [State.setAsCap]

theorem State.setAsCap_false (u : State) : u.setAsCap false = (u.setB R.NET_STAT.ASCAP false).gptpLost 1 := by
  simp [State.setAsCap]

/-- The end of asCapable is such a loss. -/
theorem State.setAsCap_losesTime {s u : State} (hu : s.writesWithin u portFlds) (hn : s.onlyNetDiffers u) :
    s.losesTime (u.setAsCap false) false (u.bit R.NET_STAT.LINK) := by
  have hu' : s.writesWithin (u.setB R.NET_STAT.ASCAP false) portFlds := hu.setB _ _ (by simp)
  have hn' : s.onlyNetDiffers (u.setB R.NET_STAT.ASCAP false) := State.onlyNetDiffers_trans hn (State.onlyRegsFlsDiffer_set _ _ _).net
  have h := State.gptpLost_losesTime hu' hn' 1
  rwa [← State.setAsCap_false, State.bit_setB_same _ _ _ (by decide) (by decide),
    State.bit_setB_other _ _ _ _ (by decide) (by decide)] at h

/-- Another grandmaster. -/
theorem State.gmChanged_spec (s : State) (g : BitVec 64) {t : State}
    (ht : ((s.modNet fun n => { n with gm := some g }).setB R.NET_STAT.GMCHG true).gptpLost 2 = t) :
    t.net = { s.net with gm := some g, syncs := 0 } ∧ t.bit R.NET_STAT.GMCHG = true ∧ t.bit R.TB_MAP_STAT.VALID = false ∧
      t.bit R.NET_STAT.HOLD = (s.bit R.NET_STAT.HOLD || s.bit R.TB_MAP_STAT.VALID) ∧
      s.onlyFields t (R.NET_STAT.GMCHG :: lossFlds) ∧ s.onlyNetDiffers t := by
  subst ht
  have hu := (s.modNet_within (fun n => { n with gm := some g }) [R.NET_STAT.GMCHG]).setB R.NET_STAT.GMCHG true (by simp)
  have hn : s.onlyNetDiffers ((s.modNet fun n => { n with gm := some g }).setB R.NET_STAT.GMCHG true) :=
    State.onlyNetDiffers_trans (State.onlyNetDiffers_modNet s _) (State.onlyRegsFlsDiffer_set _ _ _).net
  obtain ⟨hvalid, hhold, hflds, hrest⟩ := State.gptpLost_after hu (by decide) (by decide) hn 2
  exact ⟨State.gptpLost_net _ 2, (State.gptpLost_bit _ 2 (by decide)).trans (State.bit_setB_same _ _ _ (by decide) (by decide)), hvalid,
    hhold, hflds, hrest⟩

/-! ### The neighbour and the link (10 R230, R243) -/

theorem execPdelayReqSend_counts {s : State} (hn : s.netOn = true) (hsent : s.net.pdelaySent < allowedLost) :
    exec .pdelayReqSend s = .next (s.modNet fun n => { n with pdelaySent := n.pdelaySent + 1 }) := by
  change execPdelayReqSend s = _
  have hmin : min (s.net.pdelaySent + 1) (allowedLost + 1) = s.net.pdelaySent + 1 := by omega
  simp [execPdelayReqSend, hn, Nat.ne_of_lt hsent, State.modNet, hmin]

theorem execPdelayReqSend_lost {s : State} (hn : s.netOn = true) (hsent : s.net.pdelaySent = allowedLost)
    (hcap : s.bit R.NET_STAT.ASCAP = true) :
    exec .pdelayReqSend s =
      .next ((s.modNet fun n => { n with pdelaySent := min (n.pdelaySent + 1) (allowedLost + 1) }).setAsCap false) := by
  change execPdelayReqSend s = _
  simp [execPdelayReqSend, hn, hsent, hcap]

theorem execPdelayReqReceived_answers {s : State} (hn : s.netOn = true) :
    exec .pdelayReqReceived s = .next (s.modNet fun n => { n with pdelayAnswered := n.pdelayAnswered + 1 }) := by
  change execPdelayReqReceived s = _
  simp [execPdelayReqReceived, hn]

theorem execPdelayRespReceived_ours {s : State} {e : EthHdr} (he : s.gptpFrame e = true) (d : Nat) (b : Bool) :
    exec (.pdelayRespReceived e ⟨d, b⟩) s =
      .next ((s.modNet fun n => { n with delay := d, pdelaySent := 0 }).setAsCap (b && decide (d ≤ 800))) := by
  change execPdelayRespReceived e ⟨d, b⟩ s = _
  rw [execPdelayRespReceived, if_pos he]

theorem execPdelayRespReceived_foreign {s : State} {e : EthHdr} (he : s.gptpFrame e = false) (r : PdelayResult) :
    exec (.pdelayRespReceived e r) s = .next s := by
  change execPdelayRespReceived e r s = _
  simp [execPdelayRespReceived, he]

theorem execPhyLink_down {s : State} (hn : s.netOn = true) :
    exec (.phyLink false) s = .next ((s.setB R.NET_STAT.LINK false).setAsCap false) := by
  change execPhyLink false s = _
  simp [execPhyLink, hn]

theorem execPhyLink_up {s : State} (hn : s.netOn = true) : exec (.phyLink true) s = .next (s.setB R.NET_STAT.LINK true) := by
  change execPhyLink true s = _
  simp [execPhyLink, hn]

theorem execSyncTimeout_on {s : State} (hn : s.netOn = true) : exec .syncTimeout s = .next (s.gptpLost 0) := by
  change execSyncTimeout s = _
  simp [execSyncTimeout, hn]

theorem execEthernetFrameRejected_on {s : State} (hn : s.netOn = true) : exec (.ethernetFrameRejected .other) s = .next s ∧
    exec (.ethernetFrameRejected .badFcs) s = .next (s.incSat R.NET_STAT.FCSCNT) := by
  change execEthernetFrameRejected .other s = _ ∧ execEthernetFrameRejected .badFcs s = _
  simp [execEthernetFrameRejected, hn]

/-! ### The end of the holdover (10 R231, R236) -/

/-- A stream in WAIT or RUN loses its time. -/
def State.strmExpires (s : State) (n : Nat) : State := if s.sst n = stWait ∨ s.sst n = stRun then s.strmLost n else s

/-- Nothing but registers, the recorder, the counter of free values and the streams differs. -/
def State.onlyStrmsDiffer (s t : State) : Prop :=
  t = { s with regs := t.regs, fls := t.fls, freeCtr := t.freeCtr, net := { s.net with strms := t.net.strms } }

theorem State.onlyStrmsDiffer_trans {s t u : State} (h : s.onlyStrmsDiffer t) (k : t.onlyStrmsDiffer u) : s.onlyStrmsDiffer u := by
  unfold State.onlyStrmsDiffer at *
  rw [k, h]

theorem State.onlyRegsFlsDiffer.strms {s t : State} (h : s.onlyRegsFlsDiffer t) : s.onlyStrmsDiffer t := by
  unfold State.onlyStrmsDiffer
  rw [h]

theorem sst_apart_evFields (n : Nat) : ∀ f ∈ evFields, apart f (R.NET_SST.STATE n) := by
  have hlow : ∀ f ∈ evFields, f.addr < 0x400C0118 := by decide
  have hat : (R.NET_SST.STATE n).addr = 0x400C0118 + 0x20 * n := rfl
  intro f hf
  have := hlow f hf
  exact .inl (by omega)

theorem sst_apart {n k : Nat} (h : n ≠ k) : apart (R.NET_SST.STATE n) (R.NET_SST.STATE k) := by
  have hat : ∀ m, (R.NET_SST.STATE m).addr = 0x400C0118 + 0x20 * m := fun _ => rfl
  exact .inl (by rw [hat, hat]; omega)

/-- A change of one stream alone. -/
theorem State.modStrm_within (s : State) (n : Nat) (f : Strm → Strm) (l : List Fld) : s.writesWithin (s.modStrm n f) l :=
  s.modNet_within _ l

theorem State.onlyStrmsDiffer_modStrm (s : State) (n : Nat) (f : Strm → Strm) : s.onlyStrmsDiffer (s.modStrm n f) := rfl

theorem State.sst_modStrm (s : State) (n : Nat) (f : Strm → Strm) (k : Nat) : (s.modStrm n f).sst k = s.sst k := rfl

theorem State.strmLost_spec (s : State) (n : Nat) : (s.strmLost n).sst n = stLost ∧
    s.writesWithin (s.strmLost n) (R.NET_SST.STATE n :: evFields) ∧ s.onlyStrmsDiffer (s.strmLost n) := by
  unfold State.strmLost
  extract_lets s1
  have hset : s.writesWithin s1 (R.NET_SST.STATE n :: evFields) :=
    ((State.writesWithin_refl s _).set _ _ (by simp)).trans (State.modStrm_within _ _ _ _)
  have hstate : s1.sst n = stLost := (State.sst_modStrm _ n _ n).trans (State.get_set_same _ _ _ (by decide : 31 < 32))
  have hrest : s.onlyStrmsDiffer s1 :=
    State.onlyStrmsDiffer_trans (State.onlyRegsFlsDiffer_set _ _ _).strms (State.onlyStrmsDiffer_modStrm _ _ _)
  exact ⟨(State.get_raise _ _ _ _ _ (sst_apart_evFields n)).trans hstate, hset.raise _ _ _ (List.subset_cons_self _ _),
    State.onlyStrmsDiffer_trans hrest (State.raise_frame _ _ _ _).1.strms⟩

theorem State.strmExpires_spec (s : State) (n : Nat) :
    (s.strmExpires n).sst n = (if s.sst n = stWait ∨ s.sst n = stRun then stLost else s.sst n) ∧
      s.writesWithin (s.strmExpires n) (R.NET_SST.STATE n :: evFields) ∧ s.onlyStrmsDiffer (s.strmExpires n) := by
  unfold State.strmExpires
  split
  · exact s.strmLost_spec n
  · exact ⟨rfl, State.writesWithin_refl s _, rfl⟩

theorem State.strmExpires_within (s : State) (n : Nat) : s.writesWithin (s.strmExpires n) (R.NET_SST.STATE n :: evFields) :=
  (s.strmExpires_spec n).2.1

/-- The state of another stream. -/
theorem State.sst_strmExpires_other (s : State) {n k : Nat} (h : n ≠ k) : (s.strmExpires n).sst k = s.sst k :=
  (s.strmExpires_within n).get _ (List.forall_mem_cons.2 ⟨sst_apart h, sst_apart_evFields k⟩)

/-- Streams expire one by one: each by itself, and once. -/
theorem State.foldl_strmExpires_sst (l : List Nat) (s : State) (n : Nat) :
    (l.foldl State.strmExpires s).sst n = if n ∈ l ∧ (s.sst n = stWait ∨ s.sst n = stRun) then stLost else s.sst n := by
  induction l generalizing s with
  | nil => simp
  | cons m l ih =>
    rw [List.foldl_cons, ih]
    by_cases hmn : m = n
    · subst hmn
      have hlost : ¬ (stLost = stWait ∨ stLost = stRun) := by decide
      rw [(s.strmExpires_spec m).1]
      by_cases hon : s.sst m = stWait ∨ s.sst m = stRun <;> simp [hon, hlost]
    · simp [s.sst_strmExpires_other hmn, Ne.symm hmn]

theorem State.foldl_strmExpires_frame (l : List Nat) (s : State) :
    s.writesWithin (l.foldl State.strmExpires s) (l.map R.NET_SST.STATE ++ evFields) ∧
      s.onlyStrmsDiffer (l.foldl State.strmExpires s) := by
  induction l generalizing s with
  | nil => exact ⟨State.writesWithin_refl s _, rfl⟩
  | cons m l ih =>
    obtain ⟨-, hwithin, hrest⟩ := s.strmExpires_spec m
    obtain ⟨hlwithin, hlrest⟩ := ih (s.strmExpires m)
    have hm : R.NET_SST.STATE m :: evFields ⊆ (m :: l).map R.NET_SST.STATE ++ evFields := by
      simp [List.cons_subset]
    have hl : l.map R.NET_SST.STATE ++ evFields ⊆ (m :: l).map R.NET_SST.STATE ++ evFields := List.subset_cons_self _ _
    exact ⟨(hwithin.mono hm).trans (hlwithin.mono hl), State.onlyStrmsDiffer_trans hrest hlrest⟩

theorem execHoldoverEnd_ends {s : State} (hn : s.netOn = true) (hh : s.bit R.NET_STAT.HOLD = true) :
    exec .holdoverEnd s = .next ((List.range 4).foldl State.strmExpires (s.setB R.NET_STAT.HOLD false)) := by
  change execHoldoverEnd s = _
  rw [execHoldoverEnd, if_pos (by simp [hn, hh])]
  rfl

theorem execHoldoverEnd_idle {s : State} (h : s.netOn = false ∨ s.bit R.NET_STAT.HOLD = false) : exec .holdoverEnd s = .next s := by
  change execHoldoverEnd s = _
  rcases h with h | h <;> simp [execHoldoverEnd, h]

/-- The end of the holdover: HOLD clears, the streams expire, and the frame. -/
theorem State.holdoverEnd_spec {s t : State} (ht : (List.range 4).foldl State.strmExpires (s.setB R.NET_STAT.HOLD false) = t) :
    t.bit R.NET_STAT.HOLD = false ∧
      (∀ n : Nat, n < 4 → t.sst n = if s.sst n = stWait ∨ s.sst n = stRun then stLost else s.sst n) ∧
      s.onlyFields t ([R.NET_STAT.HOLD] ++ (List.range 4).map R.NET_SST.STATE ++ evFields) ∧ s.onlyStrmsDiffer t := by
  subst ht
  obtain ⟨hwithin, hrest⟩ := (s.setB R.NET_STAT.HOLD false).foldl_strmExpires_frame (List.range 4)
  refine ⟨?hold, fun n hn => ?sst, ?fields, ?rest⟩
  case hold =>
    rw [hwithin.bit _ (by decide)]
    exact State.bit_setB_same _ _ _ (by decide) (by decide)
  case sst =>
    have hkept : (s.setB R.NET_STAT.HOLD false).sst n = s.sst n := by
      have hat : (R.NET_SST.STATE n).addr = 0x400C0118 + 0x20 * n := rfl
      exact State.get_set_reg _ _ _ _ (by rw [hat]; simp [R.NET_STAT.HOLD, R.NET_STAT.at]; omega)
    simp only [State.foldl_strmExpires_sst, List.mem_range, hn, true_and, hkept]
  case fields =>
    rw [List.append_assoc]
    exact State.onlyFields_trans (State.onlyFields_setB s _ _) hwithin.1
  case rest => exact State.onlyStrmsDiffer_trans (State.onlyRegsFlsDiffer_set _ _ _).strms hrest

/-! ### A port not in use -/

theorem exec_netOff {s : State} (hn : s.netOn = false) {c : Instr} (hc : c = .pdelayReqSend ∨ c = .syncTimeout ∨ c = .holdoverEnd ∨
    (∃ b : Bool, c = .phyLink b) ∨ ∃ w : FrameReject, c = .ethernetFrameRejected w) : exec c s = .next s := by
  rcases hc with rfl | rfl | rfl | ⟨b, rfl⟩ | ⟨w, rfl⟩
  · change execPdelayReqSend s = _
    simp [execPdelayReqSend, hn]
  · change execSyncTimeout s = _
    simp [execSyncTimeout, hn]
  · exact execHoldoverEnd_idle (.inl hn)
  · change execPhyLink b s = _
    simp [execPhyLink, hn]
  · change execEthernetFrameRejected w s = _
    simp [execEthernetFrameRejected, hn]

/-! ### The statement of R41, R230, R231 and R243 -/

/-- A command that ends the mapping as a time-out does. -/
theorem exec_losesTime {s : State} {c : Instr} (hn : s.netOn = true)
    (hc : (c = .pdelayReqSend ∧ s.net.pdelaySent = allowedLost ∧ s.bit R.NET_STAT.ASCAP = true) ∨ c = .phyLink false ∨
      c = .syncTimeout ∨
      ∃ (e : EthHdr) (d : Nat) (b : Bool), c = .pdelayRespReceived e ⟨d, b⟩ ∧ s.gptpFrame e = true ∧ (b = false ∨ 800 < d)) :
    ∃ t : State, exec c s = .next t ∧ s.losesTime t (if c = .syncTimeout then s.bit R.NET_STAT.ASCAP else false)
      (if c = .phyLink false then false else s.bit R.NET_STAT.LINK) := by
  rcases hc with ⟨rfl, hsent, hcap⟩ | rfl | rfl | ⟨e, d, b, rfl, he, hbad⟩
  · exact ⟨_, execPdelayReqSend_lost hn hsent hcap, State.setAsCap_losesTime (s.modNet_within _ _) (s.onlyNetDiffers_modNet _)⟩
  · have hdown : (s.setB R.NET_STAT.LINK false).bit R.NET_STAT.LINK = false := State.bit_setB_same _ _ _ (by decide) (by decide)
    have h := State.setAsCap_losesTime ((State.writesWithin_refl s portFlds).setB R.NET_STAT.LINK false (by simp))
      (State.onlyRegsFlsDiffer_set _ _ _).net
    rw [hdown] at h
    exact ⟨_, execPhyLink_down hn, h⟩
  · exact ⟨_, execSyncTimeout_on hn, State.gptpLost_losesTime (State.writesWithin_refl s _) rfl 0⟩
  · have hcap : (b && decide (d ≤ 800)) = false := by
      rcases hbad with rfl | hd
      · rfl
      · simp [Nat.not_le.2 hd]
    have hexec := execPdelayRespReceived_ours he d b
    rw [hcap] at hexec
    exact ⟨_, hexec, State.setAsCap_losesTime (s.modNet_within _ _) (s.onlyNetDiffers_modNet _)⟩

/-- Settles O52: a Sync counts or maps, every loss ends in `gptpLost`, and the holdover ends in `strmExpires`. -/
theorem theT1PortKeepsTimeAndItsNeighbour : Obligations.TheT1PortKeepsTimeAndItsNeighbour := by
  unfold Obligations.TheT1PortKeepsTimeAndItsNeighbour
  refine ⟨fun s hn => ?reject, fun e s => State.gptpFrame_eq_true,
    fun e dn tbAt sec ns rate s he hd => ⟨fun h => ?maps, fun h hv => ?counts⟩,
    fun e dn tbAt sec ns dl rate g b s => ⟨fun h => execGptp_foreign (State.gptpOurs_eq_false h) tbAt sec ns rate g,
      fun he => execPdelayRespReceived_foreign he _⟩,
    fun e dn g s he hd => ?announce, fun s hn => execPdelayReqReceived_answers hn, fun s hn hsent => execPdelayReqSend_counts hn hsent,
    fun c s hn hc => ?loses, fun e d s he h => ?capable, fun s hn => ?linkUp, fun s hn hh => ?holdover,
    fun s _ hh => execHoldoverEnd_idle (.inr hh), fun c s hn hc => exec_netOff hn hc⟩
  case reject =>
    obtain ⟨hother, hbad⟩ := execEthernetFrameRejected_on hn
    exact ⟨hother, _, hbad, State.get_incSat_same _ _ (by decide), State.onlyFields_incSat _ _, State.onlyRegsDiffer_set _ _ _⟩
  case maps =>
    rw [← State.syncRun_eq_eight] at h
    obtain ⟨⟨hlo, hhi, hslo, hshi, hns, hrate, hgen⟩, hvalid, hhold, hnet, hregs, hrest⟩ := State.gptpSync_maps h tbAt sec ns rate
    simp only [State.syncRun_eq_eight] at hhold
    exact ⟨_, execGptpSync_ours (State.gptpOurs_eq_true he hd) tbAt sec ns rate, hlo, hhi, hslo, hshi, hns, hrate, hgen, hvalid, hhold,
      hnet, hregs, hrest⟩
  case counts =>
    have hrun : s.syncRun ≠ 8 := by
      rw [ne_eq, State.syncRun_eq_eight, not_and_or, Nat.not_le, Bool.not_eq_true]
      exact h
    rw [execGptpSync_ours (State.gptpOurs_eq_true he hd), State.gptpSync_counts hrun hv, State.synced, State.syncRun_of_lt h]
    rfl
  case announce =>
    have hours := State.gptpOurs_eq_true he hd
    exact ⟨fun hgm => execGptpAnnounce_first hours hgm g, fun hgm => execGptpAnnounce_same hours hgm,
      fun h hgm hne => ⟨_, execGptpAnnounce_changed hours hgm hne, s.gmChanged_spec g rfl⟩⟩
  case loses => exact exec_losesTime hn hc
  case capable =>
    have hexec := execPdelayRespReceived_ours he d true
    rw [decide_eq_true h, Bool.and_true, State.setAsCap_true] at hexec
    obtain ⟨hnet, hrest⟩ := ((State.onlyRegsDiffer_refl _).setB R.NET_STAT.ASCAP true).modNet
    exact ⟨_, hexec, hnet, State.bit_setB_same _ _ _ (by decide) (by decide), State.onlyFields_setB _ _ _, hrest⟩
  case linkUp =>
    exact ⟨_, execPhyLink_up hn, State.bit_setB_same _ _ _ (by decide) (by decide), State.onlyFields_setB _ _ _,
      State.onlyRegsDiffer_set _ _ _⟩
  case holdover => exact ⟨_, execHoldoverEnd_ends hn hh, State.holdoverEnd_spec rfl⟩

end Sys2Proof.Machine
end

section
/-! The fields of a Weft frame, and of one that is put around a body (02_time_base_and_clocks.md R44). -/

namespace Sys2Proof

open Sys2Proof.Machine

/-! ### The CRC -/

theorem crc16Bits_lt (n : Nat) {c : Nat} (h : c < 2 ^ 16) : crc16Bits n c < 2 ^ 16 := by
  induction n generalizing c with
  | zero => exact h
  | succ n ih =>
    rw [crc16Bits]
    refine ih ?_
    split
    · omega
    · exact Nat.xor_lt_two_pow (Nat.mod_lt _ (by decide)) (by decide)

theorem crc16From_lt (l : List Byte) {c : Nat} (h : c < 2 ^ 16) : crc16From c l < 2 ^ 16 := by
  induction l generalizing c with
  | nil => exact h
  | cons b l ih =>
    have hb : b.toNat * 256 < 2 ^ 16 := by
      have := b.isLt
      omega
    rw [crc16From]
    exact ih (crc16Bits_lt 8 (Nat.xor_lt_two_pow h hb))

theorem crc16_lt (l : List Byte) : crc16 l < 2 ^ 16 := crc16From_lt l (by decide)

theorem leVal_le_two {v : Nat} (h : v < 2 ^ 16) : leVal (le 2 v) = v := by
  rw [leVal_le]
  exact Nat.mod_eq_of_lt h

/-! ### The fields, byte by byte -/

namespace WeftFrame
variable (f : WeftFrame)

theorem getD_bytes (i : Nat) {n k : Nat} (h : k < n) : (f.bytes i n).getD k 0 = f.byte (i + k) := by
  simp [bytes, h]

theorem getD_rail {k : Nat} (h : k < 16) :
    f.rail.getD k 0 = BitVec.ofNat 16 (leVal [f.byte (16 + 2 * k), f.byte (16 + 2 * k + 1)]) := by
  simp [rail, h]
  rfl

theorem getD_status {k : Nat} (h : k < 4) : f.status.getD k 0 = f.byte (48 + k) := f.getD_bytes 48 h

end WeftFrame

/-! ### A frame put around a body of 61 bytes -/

section
variable {body : List Byte} (hl : body.length = 61) (good : Bool)
include hl

theorem weftFrameOf_byte {i : Nat} (hi : i < 61) : (weftFrameOf body good).byte (i + 1) = body.getD i 0 := by
  simp [weftFrameOf, WeftFrame.byte, hl, hi, List.getElem?_append]

theorem weftFrameOf_bytes : (weftFrameOf body good).bytes 1 61 = body := by
  refine List.ext_getElem (by simp [WeftFrame.bytes, hl]) fun i h hi => ?_
  rw [← List.getD_eq_getElem _ 0 hi, ← weftFrameOf_byte hl good (hl ▸ hi)]
  simp [WeftFrame.bytes, Nat.add_comm]

theorem weftFrameOf_sym : (weftFrameOf body good).sym.length = 65 ∧ (weftFrameOf body good).sym.head? = some 0x1FB ∧
    (weftFrameOf body good).sym.getLast? = some 0x1FD :=
  ⟨by simp [weftFrameOf, hl], rfl, List.getLast?_concat⟩

/-- The CRC symbols. -/
theorem weftFrameOf_crcBytes : (weftFrameOf body good).bytes 62 2 = le 2 (if good then crc16 body else 0xFFFF - crc16 body) := by
  simp [weftFrameOf, WeftFrame.bytes, WeftFrame.byte, hl, List.range_succ, le]

theorem weftFrameOf_crcOk : (weftFrameOf body good).crcOk = good := by
  have hc := crc16_lt body
  rw [WeftFrame.crcOk, WeftFrame.crc, weftFrameOf_bytes hl, weftFrameOf_crcBytes hl]
  cases good
  · rw [if_neg (by simp), leVal_le_two (by omega), beq_eq_false_iff_ne]
    omega
  · rw [if_pos rfl, leVal_le_two hc, beq_self_eq_true]
end

end Sys2Proof
end

section
/-! The frames that this device forms: its own fields, those of the master, and the rest (02_time_base_and_clocks.md R44, R45). -/

namespace Sys2Proof.Machine

/-! ### The fields of this device -/

theorem State.ensPos_lt (s : State) : s.ensPos < 4 := fldOf_lt _ R.ENS_CFG.POS

theorem State.length_ownBody (s : State) (body : List Byte) : (s.ownBody body).length = 61 := by
  simp [State.ownBody]

/-- The bytes of the RAIL fields of this device. -/
def State.ownRail (s : State) : List Byte := (List.range 4).flatMap fun d => le 2 (s.railSym d).toNat

theorem State.getD_ownRail (s : State) {d : Nat} (hd : d < 4) :
    s.ownRail.getD (2 * d) 0 = BitVec.ofNat 8 (s.railSym d).toNat ∧
      s.ownRail.getD (2 * d + 1) 0 = BitVec.ofNat 8 ((s.railSym d).toNat / 256) := by
  have hcases : d = 0 ∨ d = 1 ∨ d = 2 ∨ d = 3 := by omega
  rcases hcases with rfl | rfl | rfl | rfl <;> exact ⟨rfl, rfl⟩

theorem State.getD_ownBody (s : State) (body : List Byte) {i : Nat} (hi : i < 61) : (s.ownBody body).getD i 0 =
    if 15 + 8 * s.ensPos ≤ i ∧ i < 23 + 8 * s.ensPos then s.ownRail.getD (i - (15 + 8 * s.ensPos)) 0
    else if i = 47 + s.ensPos then s.statusByte else body.getD i 0 := by
  simp [State.ownBody, State.ownRail, hi]

section
variable (s : State) (body : List Byte) (good : Bool)

/-- A frame that carries the fields of this device. -/
abbrev State.ownFrame : WeftFrame := weftFrameOf (s.ownBody body) good

/-- A byte outside the fields of this device. -/
theorem State.byte_ownFrame {i : Nat} (hi : i < 61) (hrail : i < 15 + 8 * s.ensPos ∨ 23 + 8 * s.ensPos ≤ i)
    (hstat : i ≠ 47 + s.ensPos) : (s.ownFrame body good).byte (i + 1) = body.getD i 0 := by
  rw [weftFrameOf_byte (s.length_ownBody body) good hi, s.getD_ownBody body hi, if_neg (by omega), if_neg hstat]

theorem State.rail_ownFrame {d : Nat} (hd : d < 4) : (s.ownFrame body good).rail.getD (4 * s.ensPos + d) 0 = s.railSym d := by
  have hpos := s.ensPos_lt
  obtain ⟨hlo, hhi⟩ := s.getD_ownRail hd
  have hbyte : ∀ k < 2, (s.ownFrame body good).byte (16 + 2 * (4 * s.ensPos + d) + k) = s.ownRail.getD (2 * d + k) 0 := by
    intro k hk
    have hi : 15 + 8 * s.ensPos + 2 * d + k < 61 := by omega
    have he : 16 + 2 * (4 * s.ensPos + d) + k = 15 + 8 * s.ensPos + 2 * d + k + 1 := by omega
    rw [he, weftFrameOf_byte (s.length_ownBody body) good hi, s.getD_ownBody body hi, if_pos (by omega)]
    congr 1
    omega
  have hle : leVal [BitVec.ofNat 8 (s.railSym d).toNat, BitVec.ofNat 8 ((s.railSym d).toNat / 256)] = (s.railSym d).toNat :=
    leVal_le_two (s.railSym d).isLt
  rw [WeftFrame.getD_rail _ (by omega), hbyte 1 (by decide), hhi]
  rw [← Nat.add_zero (16 + 2 * (4 * s.ensPos + d)), hbyte 0 (by decide), Nat.add_zero, hlo, hle, BitVec.ofNat_toNat, BitVec.setWidth_eq]

theorem State.status_ownFrame : (s.ownFrame body good).status.getD s.ensPos 0 = s.statusByte := by
  have hpos := s.ensPos_lt
  have hi : 47 + s.ensPos < 61 := by omega
  have he : 48 + s.ensPos = 47 + s.ensPos + 1 := by omega
  rw [WeftFrame.getD_status _ hpos, he, weftFrameOf_byte (s.length_ownBody body) good hi, s.getD_ownBody body hi, if_neg (by omega),
    if_pos rfl]

/-- The RAIL fields of another device are those of the body. -/
theorem State.rail_ownFrame_other {k : Nat} (hk : k < 16) (hpos : k / 4 ≠ s.ensPos) :
    (s.ownFrame body good).rail.getD k 0 = BitVec.ofNat 16 (leVal [body.getD (15 + 2 * k) 0, body.getD (15 + 2 * k + 1) 0]) := by
  have he : 16 + 2 * k = 15 + 2 * k + 1 := by omega
  rw [WeftFrame.getD_rail _ hk, he, s.byte_ownFrame body good (by omega) (by omega) (by omega),
    s.byte_ownFrame body good (by omega) (by omega) (by omega)]

theorem State.status_ownFrame_other {n : Nat} (hn : n < 4) (hpos : n ≠ s.ensPos) :
    (s.ownFrame body good).status.getD n 0 = body.getD (47 + n) 0 := by
  have hlt := s.ensPos_lt
  have he : 48 + n = 47 + n + 1 := by omega
  rw [WeftFrame.getD_status _ hn, he, s.byte_ownFrame body good (by omega) (by omega) (by omega)]

end

/-! ### A frame passed on (02 R45) -/

theorem State.relayed_crcOk (s : State) (f : WeftFrame) : (s.relayed f).crcOk = f.crcOk :=
  weftFrameOf_crcOk (s.length_ownBody _) _

theorem State.relayed_rail_other (s : State) (f : WeftFrame) {k : Nat} (hk : k < 16) (hpos : k / 4 ≠ s.ensPos) :
    (s.relayed f).rail.getD k 0 = f.rail.getD k 0 := by
  refine (s.rail_ownFrame_other _ _ hk hpos).trans ?_
  have hlo : 1 + (15 + 2 * k) = 16 + 2 * k := by omega
  have hhi : 1 + (15 + 2 * k + 1) = 16 + 2 * k + 1 := by omega
  rw [f.getD_bytes 1 (by omega), f.getD_bytes 1 (by omega), f.getD_rail hk, hlo, hhi]

theorem State.relayed_status_other (s : State) (f : WeftFrame) {n : Nat} (hn : n < 4) (hpos : n ≠ s.ensPos) :
    (s.relayed f).status.getD n 0 = f.status.getD n 0 := by
  refine (s.status_ownFrame_other _ _ hn hpos).trans ?_
  rw [f.getD_bytes 1 (by omega), f.getD_status hn, ← Nat.add_assoc]

/-! ### The frame of the master (02 R44 to R46) -/

/-- HDR, MTB, HOPDLY, CFGCHK and SEQ of the master's frame. -/
def State.masterHead (s : State) : List Byte :=
  le 1 (0x40 + 16 * s.get R.ENS_CFG.NDEV) ++ le 8 s.now ++ le 2 (s.ens.hop.getD 0 % 0x8000 + 0x8000 * b2n s.ens.hop.isSome) ++
    le 2 (s.get R.ENS_CFG.CFGCHK) ++ [s.ens.seq, 0]

theorem State.length_masterHead (s : State) : s.masterHead.length = 15 := rfl

/-- The body of the master's frame around RAIL and STATUS bytes. -/
def State.masterBody (s : State) (rail status : List Byte) : List Byte := s.masterHead ++ rail ++ status ++ List.replicate 10 0

/-- The RAIL and STATUS bytes are those of the latest good frame, where there is one. -/
def State.latestBytes (s : State) (rail status : List Byte) : Prop :=
  rail.length = 32 ∧ ∀ g : WeftFrame, s.ens.frames.head? = some g → rail = g.bytes 16 32 ∧ status = g.bytes 48 4

theorem State.masterFrame_eq (s : State) : ∃ rail status : List Byte, s.latestBytes rail status ∧
    s.masterFrame = s.ownFrame (s.masterBody rail status) true := by
  cases hf : s.ens.frames with
  | nil =>
    refine ⟨List.replicate 32 0, List.replicate 4 0, ⟨by simp, by simp [hf]⟩, ?_⟩
    simp only [State.masterFrame, hf]
    rfl
  | cons g l =>
    refine ⟨g.bytes 16 32, g.bytes 48 4, ⟨by simp [WeftFrame.bytes], by simp [hf]⟩, ?_⟩
    simp only [State.masterFrame, hf]
    rfl

section
variable {s : State} (hpos : s.ensPos = 0) (rail status : List Byte)
include hpos

/-- The bytes before the RAIL fields. -/
theorem State.bytes_masterFrame {i n : Nat} (h : i + n ≤ 15) :
    (s.ownFrame (s.masterBody rail status) true).bytes (i + 1) n =
      (List.range n).map fun k => (s.masterBody rail status).getD (i + k) 0 := by
  refine List.map_congr_left fun k hk => ?_
  have hk := List.mem_range.1 hk
  rw [Nat.add_right_comm, s.byte_ownFrame _ _ (by omega) (by omega) (by omega)]

theorem State.mtb_masterFrame : (s.ownFrame (s.masterBody rail status) true).mtb.toNat = s.now % 2 ^ 64 := by
  have h : (s.ownFrame (s.masterBody rail status) true).bytes 2 8 = le 8 s.now := State.bytes_masterFrame hpos rail status (by decide)
  rw [WeftFrame.mtb, h, leVal_le, BitVec.toNat_ofNat, show (256 : Nat) ^ 8 = 2 ^ 64 by decide, Nat.mod_mod]

theorem State.seq_masterFrame : (s.ownFrame (s.masterBody rail status) true).seq = s.ens.seq :=
  (s.byte_ownFrame _ _ (by decide : 13 < 61) (by omega) (by omega)).trans rfl

theorem State.nMinus1_masterFrame : (s.ownFrame (s.masterBody rail status) true).nMinus1.toNat = s.get R.ENS_CFG.NDEV := by
  have hn : s.get R.ENS_CFG.NDEV < 2 ^ 2 := fldOf_lt _ R.ENS_CFG.NDEV
  have hb : (s.ownFrame (s.masterBody rail status) true).byte 1 = BitVec.ofNat 8 (0x40 + 16 * s.get R.ENS_CFG.NDEV) :=
    (s.byte_ownFrame _ _ (by decide : 0 < 61) (by omega) (by omega)).trans rfl
  rw [WeftFrame.nMinus1, hb, BitVec.toNat_ofNat, BitVec.toNat_ofNat, bitsAt]
  omega

theorem State.cfgchk_masterFrame : (s.ownFrame (s.masterBody rail status) true).cfgchk.toNat = s.get R.ENS_CFG.CFGCHK := by
  have hn : s.get R.ENS_CFG.CFGCHK < 2 ^ 16 := fldOf_lt _ R.ENS_CFG.CFGCHK
  have h : (s.ownFrame (s.masterBody rail status) true).bytes 12 2 = le 2 (s.get R.ENS_CFG.CFGCHK) :=
    State.bytes_masterFrame hpos rail status (by decide)
  rw [WeftFrame.cfgchk, h, leVal_le_two hn, BitVec.toNat_ofNat, Nat.mod_eq_of_lt hn]

/-- The two bytes of HOPDLY. -/
theorem State.hopBytes_masterFrame : (s.ownFrame (s.masterBody rail status) true).bytes 10 2 =
    le 2 (s.ens.hop.getD 0 % 0x8000 + 0x8000 * b2n s.ens.hop.isSome) :=
  State.bytes_masterFrame hpos rail status (by decide)

theorem State.hopValid_masterFrame : (s.ownFrame (s.masterBody rail status) true).hopValid = s.ens.hop.isSome := by
  have hb : (s.ownFrame (s.masterBody rail status) true).byte 11 =
      BitVec.ofNat 8 ((s.ens.hop.getD 0 % 0x8000 + 0x8000 * b2n s.ens.hop.isSome) / 256) :=
    (s.byte_ownFrame _ _ (by decide : 10 < 61) (by omega) (by omega)).trans rfl
  rw [WeftFrame.hopValid, hb, BitVec.msb_eq_decide, BitVec.toNat_ofNat]
  cases s.ens.hop with
  | none => rfl
  | some h =>
    simp [b2n]
    omega

theorem State.hop_masterFrame {h : Nat} (hh : s.ens.hop = some h) :
    (s.ownFrame (s.masterBody rail status) true).hop.toNat = h % 2 ^ 15 := by
  rw [WeftFrame.hop, State.hopBytes_masterFrame hpos, hh, BitVec.toNat_ofNat, leVal_le_two]
  all_goals simp [b2n]
  all_goals omega

theorem State.rail_masterFrame_other {g : WeftFrame} {k : Nat} (h4 : 4 ≤ k) (hk : k < 16) :
    (s.ownFrame (s.masterBody (g.bytes 16 32) status) true).rail.getD k 0 = g.rail.getD k 0 := by
  have hb : ∀ j < 32, (s.masterBody (g.bytes 16 32) status).getD (15 + j) 0 = g.byte (16 + j) := by
    intro j hj
    rw [← g.getD_bytes 16 hj]
    simp [State.masterBody, s.length_masterHead, WeftFrame.bytes, List.getElem?_append, hj]
  refine (s.rail_ownFrame_other _ _ hk (by omega)).trans ?_
  rw [Nat.add_assoc 15, hb _ (by omega), hb _ (by omega), g.getD_rail hk]
  rfl

theorem State.status_masterFrame_other {g : WeftFrame} (hl : rail.length = 32) {n : Nat} (h1 : 1 ≤ n) (hn : n < 4) :
    (s.ownFrame (s.masterBody rail (g.bytes 48 4)) true).status.getD n 0 = g.status.getD n 0 := by
  refine (s.status_ownFrame_other _ _ hn (by omega)).trans ?_
  have hhead : ¬ 47 + n < 15 := by omega
  have hrail : ¬ 47 + n - 15 < 32 := by omega
  have hstat : 47 + n - 15 - 32 = n := by omega
  simp [State.masterBody, s.length_masterHead, WeftFrame.status, WeftFrame.bytes, List.getElem?_append, hl, hn, hhead, hrail, hstat]

end

/-- What the master sends (02 R44). -/
theorem State.masterFrame_spec {s : State} (hpos : s.ensPos = 0) {f : WeftFrame} (hf : s.masterFrame = f) :
    f.sym.length = 65 ∧ f.crcOk = true ∧ f.sym.head? = some 0x1FB ∧ f.sym.getLast? = some 0x1FD ∧
      f.mtb.toNat = s.now % 2 ^ 64 ∧ f.seq = s.ens.seq ∧ f.nMinus1.toNat = s.get R.ENS_CFG.NDEV ∧
      f.cfgchk.toNat = s.get R.ENS_CFG.CFGCHK ∧ f.hopValid = s.ens.hop.isSome ∧
      (∀ h : Nat, s.ens.hop = some h → f.hop.toNat = h % 2 ^ 15) ∧
      (∀ d : Nat, d < 4 → f.rail.getD d 0 = s.railSym d) ∧ f.status.getD 0 0 = s.statusByte ∧
      (∀ (g : WeftFrame) (k : Nat), s.ens.frames.head? = some g → 4 ≤ k → k < 16 → f.rail.getD k 0 = g.rail.getD k 0) ∧
      ∀ (g : WeftFrame) (k : Nat), s.ens.frames.head? = some g → 1 ≤ k → k < 4 → f.status.getD k 0 = g.status.getD k 0 := by
  obtain ⟨rail, status, ⟨hl, hlatest⟩, heq⟩ := s.masterFrame_eq
  obtain rfl := heq.symm.trans hf
  obtain ⟨hlen, hsof, heof⟩ := weftFrameOf_sym (s.length_ownBody (s.masterBody rail status)) true
  refine ⟨hlen, weftFrameOf_crcOk (s.length_ownBody _) true, hsof, heof, State.mtb_masterFrame hpos rail status,
    State.seq_masterFrame hpos rail status, State.nMinus1_masterFrame hpos rail status, State.cfgchk_masterFrame hpos rail status,
    State.hopValid_masterFrame hpos rail status, fun h hh => State.hop_masterFrame hpos rail status hh, fun d hd => ?own, ?status,
    fun g k hg h4 hk => ?rail, fun g k hg h1 hk => ?stat⟩
  case own =>
    have h := s.rail_ownFrame (s.masterBody rail status) true hd
    rwa [hpos, Nat.mul_zero, Nat.zero_add] at h
  case status =>
    have h := s.status_ownFrame (s.masterBody rail status) true
    rwa [hpos] at h
  case rail =>
    obtain ⟨rfl, -⟩ := hlatest g hg
    exact State.rail_masterFrame_other hpos status h4 hk
  case stat =>
    obtain ⟨-, rfl⟩ := hlatest g hg
    exact State.status_masterFrame_other hpos rail hl h1 hk

end Sys2Proof.Machine
end

section
/-! The Weft link: frames sent, taken and missed, the load of TB_NOW, and the lock (02_time_base_and_clocks.md R44 to R50;
11_modes.md R256). -/

namespace Sys2Proof.Machine

/-! ### Changes of the link's own state -/

/-- The state with the link's own state changed. -/
def State.modEns (s : State) (f : Ens → Ens) : State := { s with ens := f s.ens }

@[simp] theorem State.modEns_ens (s : State) (f : Ens → Ens) : (s.modEns f).ens = f s.ens := rfl
@[simp] theorem State.modEns_tb (s : State) (f : Ens → Ens) : (s.modEns f).tb = s.tb := rfl
@[simp] theorem State.modEns_mon (s : State) (f : Ens → Ens) : (s.modEns f).mon = s.mon := rfl
@[simp] theorem State.get_modEns (s : State) (f : Ens → Ens) (g : Fld) : (s.modEns f).get g = s.get g := rfl
@[simp] theorem State.bit_modEns (s : State) (f : Ens → Ens) (g : Fld) : (s.modEns f).bit g = s.bit g := rfl
@[simp] theorem State.get_modMon (s : State) (f : Mon → Mon) (g : Fld) : (s.modMon f).get g = s.get g := rfl
@[simp] theorem State.bit_modMon (s : State) (f : Mon → Mon) (g : Fld) : (s.modMon f).bit g = s.bit g := rfl

theorem State.modEns_modEns (s : State) (f g : Ens → Ens) : (s.modEns f).modEns g = s.modEns fun e => g (f e) := rfl

/-- Nothing but registers, the link's own state and the monitors differs. -/
def State.onlyEnsMonDiffer (s t : State) : Prop := t = { s with regs := t.regs, ens := t.ens, mon := t.mon }

/-- Nothing but registers and the link's own state differs. -/
def State.onlyEnsDiffers (s t : State) : Prop := t = { s with regs := t.regs, ens := t.ens }

section
variable {s t u : State}

theorem State.onlyEnsDiffers_modEns (s : State) (f : Ens → Ens) : s.onlyEnsDiffers (s.modEns f) := rfl

theorem State.onlyEnsDiffers_trans (h : s.onlyEnsDiffers t) (k : t.onlyEnsDiffers u) : s.onlyEnsDiffers u := by
  unfold State.onlyEnsDiffers at *
  rw [k, h]

theorem State.onlyEnsDiffers.modEns (h : s.onlyEnsDiffers t) (f : Ens → Ens) : s.onlyEnsDiffers (t.modEns f) :=
  State.onlyEnsDiffers_trans h rfl

theorem State.onlyEnsDiffers.set (h : s.onlyEnsDiffers t) (f : Fld) (v : Nat) : s.onlyEnsDiffers (t.set f v) :=
  State.onlyEnsDiffers_trans h rfl

theorem State.onlyEnsDiffers.setB (h : s.onlyEnsDiffers t) (f : Fld) (b : Bool) : s.onlyEnsDiffers (t.setB f b) := h.set f _

theorem State.onlyEnsMonDiffer_modMon (s : State) (f : Mon → Mon) : s.onlyEnsMonDiffer (s.modMon f) := rfl

/-- The monitors change as well. -/
theorem State.onlyEnsDiffers.mon (h : s.onlyEnsDiffers t) (k : t.onlyEnsMonDiffer u) : s.onlyEnsMonDiffer u := by
  unfold State.onlyEnsDiffers at h
  unfold State.onlyEnsMonDiffer at *
  rw [k, h]

theorem State.modEns_within (s : State) (f : Ens → Ens) (l : List Fld) : s.writesWithin (s.modEns f) l :=
  (State.writesWithin_refl s l).rest rfl rfl

theorem State.writesWithin.modEns {l : List Fld} (h : s.writesWithin t l) (f : Ens → Ens) : s.writesWithin (t.modEns f) l :=
  h.trans (t.modEns_within f l)
end

/-! ### The frame of the master (02 R44) -/

theorem execWeftSofSend_master {s : State} (hon : s.ensOn = true) (hpos : s.ensPos = 0) :
    exec .weftSofSend s = .next (s.modEns fun e => { e with sent := some s.masterFrame, seq := e.seq + 1 }) := by
  change execWeftSofSend s = _
  rw [execWeftSofSend, if_pos (by simp [hon, hpos])]
  rfl

/-! ### A link that fails (02 R47) -/

/-- The state of a link that has failed, before its consequences. -/
def State.ensFailed (s : State) (why : Fld) : State :=
  (((s.set R.ENS_STAT.STATE 3).setB why true).modEns fun e => { e with mute := false, good := 0, errs := [], rtts := [] }).modMon
    fun m => { m with ensSrc := false }

theorem State.ensFail_eq (s : State) (why : Fld) : s.ensFail why = (s.ensFailed why).settle := rfl

theorem State.ensMissing_counts {s : State} (h : ¬(s.ensLocked = true ∧ 2 ≤ s.ens.miss)) :
    s.ensMissing = s.modEns fun e => { e with miss := min (e.miss + 1) 3, good := 0 } := by
  unfold State.ensMissing
  extract_lets n s1
  rw [if_neg]
  · rfl
  · rintro ⟨hl, hn⟩
    exact h ⟨hl, by omega⟩

theorem State.ensMissing_fails {s : State} (hl : s.ensLocked = true) (hm : 2 ≤ s.ens.miss) :
    s.ensMissing = ((s.modEns fun e => { e with miss := min (e.miss + 1) 3, good := 0 }).ensFailed R.ENS_STAT.LOST).settle := by
  rw [← State.ensFail_eq]
  unfold State.ensMissing
  extract_lets n s1
  rw [if_pos ⟨hl, by omega⟩]
  rfl

theorem State.ensFailed_within (s : State) (why : Fld) : s.writesWithin (s.ensFailed why) [R.ENS_STAT.STATE, why] := by
  unfold State.ensFailed
  exact ((((State.writesWithin_refl s _).set _ _ (by simp)).setB _ _ (by simp)).modEns _).modMon _

theorem State.ensFailed_frame (s : State) (why : Fld) : s.onlyEnsMonDiffer (s.ensFailed why) := by
  have ho : s.onlyEnsDiffers s := rfl
  unfold State.ensFailed
  exact (((ho.set R.ENS_STAT.STATE 3).setB why true).modEns _).mon (State.onlyEnsMonDiffer_modMon _ _)

theorem State.ensFailed_state (s : State) {why : Fld} (h : apart why R.ENS_STAT.STATE) : (s.ensFailed why).get R.ENS_STAT.STATE = 3 := by
  rw [State.ensFailed, State.get_modMon, State.get_modEns, State.setB, State.get_set_other _ _ _ _ (by decide) (h.imp Ne.symm id),
    State.get_set_same _ _ _ (by decide)]
  rfl

theorem State.ensFailed_bit (s : State) {why : Fld} (h : why.hi < 32) (hle : why.lo ≤ why.hi) : (s.ensFailed why).bit why = true := by
  rw [State.ensFailed, State.bit_modMon, State.bit_modEns, State.bit_setB_same _ _ _ h hle]

@[simp] theorem State.ensFailed_ens (s : State) (why : Fld) :
    (s.ensFailed why).ens = { s.ens with mute := false, good := 0, errs := [], rtts := [] } := by
  rw [State.ensFailed, State.modMon_ens, State.modEns_ens, State.setB_ens, State.set_ens]

@[simp] theorem State.ensFailed_mon (s : State) (why : Fld) : (s.ensFailed why).mon = { s.mon with ensSrc := false } := by
  rw [State.ensFailed, State.modMon_mon, State.modEns_mon, State.setB_mon, State.set_mon]

/-! ### A frame with a wrong CRC, or none (02 R45, R47) -/

theorem execWeftFrameMissing_on {s : State} (hon : s.ensOn = true) : exec .weftFrameMissing s = .next s.ensMissing := by
  change execWeftFrameMissing s = _
  rw [execWeftFrameMissing, if_pos hon]

theorem execWeftFrameMissing_off {s : State} (hon : s.ensOn = false) : exec .weftFrameMissing s = .next s := by
  change execWeftFrameMissing s = _
  rw [execWeftFrameMissing, if_neg (by simp [hon])]

theorem execWeftFrameArrive_slave {s : State} (hon : s.ensOn = true) (hpos : s.ensPos ≠ 0) (f : WeftFrame) (fr : Fin 16) :
    exec (.weftFrameArrive f fr) s = .next (s.weftArrive f fr.val) := by
  change execWeftFrameArrive f fr s = _
  rw [execWeftFrameArrive, if_pos (by simp [hon, hpos])]

theorem execWeftFrameReturn_master {s : State} (hon : s.ensOn = true) (hpos : s.ensPos = 0) (f : WeftFrame) (fr : Fin 16) :
    exec (.weftFrameReturn f fr) s = .next (s.weftReturn f fr.val) := by
  change execWeftFrameReturn f fr s = _
  rw [execWeftFrameReturn, if_pos (by simp [hon, hpos])]

theorem execWeftFrameArrive_idle {s : State} (h : s.ensOn = false ∨ s.ensPos = 0) (f : WeftFrame) (fr : Fin 16) :
    exec (.weftFrameArrive f fr) s = .next s := by
  change execWeftFrameArrive f fr s = _
  rcases h with h | h <;> simp [execWeftFrameArrive, h]

theorem exec_master_idle {s : State} (h : s.ensOn = false ∨ s.ensPos ≠ 0) (f : WeftFrame) (fr : Fin 16) :
    exec (.weftFrameReturn f fr) s = .next s ∧ exec .weftSofSend s = .next s := by
  change execWeftFrameReturn f fr s = _ ∧ execWeftSofSend s = _
  rcases h with h | h <;> simp [execWeftFrameReturn, execWeftSofSend, h]

theorem State.weftArrive_badCrc {f : WeftFrame} (hc : f.crcOk = false) (s : State) (fr : Nat) :
    s.weftArrive f fr = ((s.modEns fun e => { e with sent := some (s.relayed f) }).incSat R.ENS_STAT.CRCERR).ensMissing := by
  rw [State.weftArrive, if_pos (by simp [hc])]
  rfl

theorem State.weftReturn_badCrc {f : WeftFrame} (hc : f.crcOk = false) (s : State) (fr : Nat) :
    s.weftReturn f fr = (s.incSat R.ENS_STAT.CRCERR).ensMissing := by
  rw [State.weftReturn, if_pos (by simp [hc])]

/-! ### A good frame that arrives (02 R45) -/

/-- The state in which a good frame acts: it has gone on, it is kept, and its hop delay shows. -/
def State.weftKept (s : State) (f : WeftFrame) : State :=
  (s.modEns fun e => { e with sent := some (s.relayed f), miss := 0, frames := (s.relayed f :: e.frames).take 4 }).hopShown f

theorem State.hopShown_ens (s : State) (f : WeftFrame) : (s.hopShown f).ens = s.ens := by
  unfold State.hopShown
  split <;> rfl

theorem State.hopShown_frame (s : State) (f : WeftFrame) :
    s.writesWithin (s.hopShown f) [R.ENS_HOPDLY.H] ∧ s.onlyEnsDiffers (s.hopShown f) := by
  unfold State.hopShown
  split
  · exact ⟨(State.writesWithin_refl s _).set _ _ (by simp), rfl⟩
  · exact ⟨State.writesWithin_refl s _, rfl⟩

theorem State.get_hopShown (s : State) {f : WeftFrame} (hv : f.hopValid = true) : (s.hopShown f).get R.ENS_HOPDLY.H = f.hop.toNat := by
  have hlt := f.hop.isLt
  rw [State.hopShown, if_pos hv, State.get_set_same _ _ _ (by decide)]
  exact Nat.mod_eq_of_lt (Nat.lt_trans hlt (by decide))

theorem State.weftKept_ens (s : State) (f : WeftFrame) : (s.weftKept f).ens =
    { s.ens with sent := some (s.relayed f), miss := 0, frames := (s.relayed f :: s.ens.frames).take 4 } :=
  State.hopShown_ens _ f

theorem State.weftKept_within (s : State) (f : WeftFrame) : s.writesWithin (s.weftKept f) [R.ENS_HOPDLY.H] :=
  (s.modEns_within _ _).trans (State.hopShown_frame _ f).1

theorem State.weftKept_frame (s : State) (f : WeftFrame) : s.onlyEnsDiffers (s.weftKept f) :=
  State.onlyEnsDiffers_trans (s.onlyEnsDiffers_modEns _) (State.hopShown_frame _ f).2

theorem State.onlyEnsDiffers.allQuiet {s t : State} (h : s.onlyEnsDiffers t) : t.allQuiet = s.allQuiet := by
  rw [h]
  rfl

theorem State.weftArrive_acquiring {s : State} {f : WeftFrame} (hc : f.crcOk = true) (hst : s.get R.ENS_STAT.STATE = 1) (fr : Nat) :
    s.weftArrive f fr = (s.weftKept f).ensAcquiring f (s.weftErr f fr) := by
  simp only [State.weftArrive, hc, hst]
  rfl

theorem State.weftArrive_locked {s : State} {f : WeftFrame} (hc : f.crcOk = true) (hst : s.get R.ENS_STAT.STATE = 2) (fr : Nat) :
    s.weftArrive f fr = if ((s.weftKept f).ensErr (s.weftErr f fr)).ensLocked then
      ((s.weftKept f).ensErr (s.weftErr f fr)).ensTake (s.relayed f) else (s.weftKept f).ensErr (s.weftErr f fr) := by
  simp only [State.weftArrive, hc, hst]
  rfl

/-! ### ACQUIRE at a slave (02 R47 to R49) -/

theorem State.ensErr_short {s : State} (h : s.ens.errs.length < 15) (e : Int) :
    s.ensErr e = s.modEns fun x => { x with errs := x.errs ++ [e] } := by
  unfold State.ensErr
  extract_lets l
  rw [if_pos (by simp [l]; omega)]
  rfl

/-- The good frames in a row with the one at hand. -/
def State.goodRun (s : State) (err : Int) : Nat := if err.natAbs ≤ 16 then s.ens.good + 1 else 0

theorem State.ensAcquiring_cases (s : State) (f : WeftFrame) (err : Int) : s.ensAcquiring f err =
    if f.cfgchk.toNat ≠ s.get R.ENS_CFG.CFGCHK then (s.modEns fun e => { e with good := 0 }).setB R.ENS_STAT.CFGMIS true
    else if !f.hopValid then s.modEns fun e => { e with good := 0 }
    else if !s.ens.loaded then
      if s.allQuiet then
        ((s.tbLoad (weftLoad s.ensPos f)).setB R.ENS_STAT.NOLOAD false).modEns fun e => { e with loaded := true, good := 0, errs := [] }
      else s.setB R.ENS_STAT.NOLOAD true
    else if 8 ≤ s.goodRun err then
      (((s.modEns fun e => { e with good := s.goodRun err }).ensErr err).set R.ENS_STAT.STATE 2).settle
    else (s.modEns fun e => { e with good := s.goodRun err }).ensErr err := rfl

section
variable {s : State} {f : WeftFrame}

theorem State.ensAcquiring_foreign (h : f.cfgchk.toNat ≠ s.get R.ENS_CFG.CFGCHK) (err : Int) :
    s.ensAcquiring f err = (s.modEns fun e => { e with good := 0 }).setB R.ENS_STAT.CFGMIS true := by
  rw [State.ensAcquiring_cases, if_pos h]

variable (hc : f.cfgchk.toNat = s.get R.ENS_CFG.CFGCHK) (hv : f.hopValid = true)
include hc hv

theorem State.ensAcquiring_loads (hl : s.ens.loaded = false) (hq : s.allQuiet = true) (err : Int) :
    s.ensAcquiring f err = ((s.tbLoad (weftLoad s.ensPos f)).setB R.ENS_STAT.NOLOAD false).modEns
      fun e => { e with loaded := true, good := 0, errs := [] } := by
  rw [State.ensAcquiring_cases, if_neg (by simp [hc]), if_neg (by simp [hv]), if_pos (by simp [hl]), if_pos hq]

theorem State.ensAcquiring_waits (hl : s.ens.loaded = false) (hq : s.allQuiet = false) (err : Int) :
    s.ensAcquiring f err = s.setB R.ENS_STAT.NOLOAD true := by
  rw [State.ensAcquiring_cases, if_neg (by simp [hc]), if_neg (by simp [hv]), if_pos (by simp [hl]), if_neg (by simp [hq])]

/-- The state in which a frame has counted. -/
abbrev State.ensCounted (s : State) (err : Int) : State :=
  s.modEns fun e => { e with good := s.goodRun err, errs := e.errs ++ [err] }

/-- A frame that counts: within a tick for the run of good ones, or against it; the eighth locks. -/
theorem State.ensAcquiring_counts (hl : s.ens.loaded = true) (hlen : s.ens.errs.length < 15) (err : Int) :
    s.ensAcquiring f err =
      if 8 ≤ s.goodRun err then ((s.ensCounted err).set R.ENS_STAT.STATE 2).settle else s.ensCounted err := by
  have herr : (s.modEns fun e => { e with good := s.goodRun err }).ensErr err = s.ensCounted err :=
    (State.ensErr_short (s := s.modEns fun e => { e with good := s.goodRun err }) hlen err).trans (State.modEns_modEns _ _ _)
  rw [State.ensAcquiring_cases, if_neg (by simp [hc]), if_neg (by simp [hv]), if_neg (by simp [hl]), herr]
end

/-! ### The STATUS bytes of the other devices (11 R256) -/

theorem State.statusHas_isEmpty (s : State) (f : WeftFrame) (b : Nat) : (!(s.statusHas f b).isEmpty) = true ↔
    ∃ n : Nat, n ≤ s.get R.ENS_CFG.NDEV ∧ n ≠ s.ensPos ∧ (f.status.getD n 0).getLsbD b = true := by
  simp only [Bool.not_eq_true', List.isEmpty_eq_false_iff_exists_mem, State.statusHas, List.mem_filter, List.mem_range,
    Nat.lt_succ_iff, Bool.and_eq_true, bne_iff_ne]

/-- What a locked link takes from a frame, before the consequences. -/
theorem State.ensTake_spec (s : State) (f : WeftFrame) : ∃ u : State, s.ensTake f = u.settle ∧
    u.ens = { s.ens with mute := !(s.statusHas f 6).isEmpty } ∧ u.mon.ensSrc = (!(s.statusHas f 7).isEmpty) ∧ u.regs = s.regs ∧
    u.mem = s.mem ∧ s.onlyEnsMonDiffer u := by
  unfold State.ensTake
  extract_lets flt s1
  refine ⟨_, rfl, rfl, ?_, rfl, rfl, rfl⟩
  rw [State.modMon_mon]
  change _ = !flt.isEmpty
  cases flt <;> rfl

/-! ### The ring delay (02 R46) -/

theorem State.ensRtt_short {s : State} (h : s.ens.rtts.length < 15) (rtt : Nat) :
    s.ensRtt rtt = s.modEns fun e => { e with rtts := e.rtts ++ [rtt] } := by
  unfold State.ensRtt
  extract_lets l
  rw [if_pos (by simp [l]; omega)]
  rfl

/-- The hop delay of n devices from the sum x of the last 16 ring delays without the delays of retransmission, half up. -/
def hopOf (x : Int) (n : Nat) : Nat := ((2 * x + 16 * n) / (32 * n)).toNat

theorem hopOf_eq_divHU (x : Int) (n : Nat) : (divHU x (16 * n)).toNat = hopOf x n := by
  unfold divHU hopOf
  push_cast
  ring_nf

/-- The master's link with the hop delay h published, locked. -/
def State.hopPublished (s : State) (h : Nat) : State :=
  ((s.modEns fun e => { e with rtts := [], hop := some h }).set R.ENS_HOPDLY.H h).set R.ENS_STAT.STATE 2

theorem State.hopPublished_spec (s : State) (h : Nat) :
    (s.hopPublished h).get R.ENS_STAT.STATE = 2 ∧ (s.hopPublished h).get R.ENS_HOPDLY.H = h % 2 ^ 16 ∧
      (s.hopPublished h).ens = { s.ens with rtts := [], hop := some h } ∧
      s.writesWithin (s.hopPublished h) [R.ENS_STAT.STATE, R.ENS_HOPDLY.H] ∧ s.onlyEnsDiffers (s.hopPublished h) := by
  unfold State.hopPublished
  refine ⟨State.get_set_same _ _ _ (by decide), ?_, ?_, ((s.modEns_within _ _).set _ _).set _ _,
    ((s.onlyEnsDiffers_modEns _).set _ _).set _ _⟩
  · exact (State.get_set_other _ _ _ _ (by decide) (by decide)).trans (State.get_set_same _ _ _ (by decide))
  · rw [State.set_ens, State.set_ens, State.modEns_ens]

theorem State.ensRtt_publishes {s : State} (h : 15 ≤ s.ens.rtts.length) (hh : s.ens.hop = none) {rtt n : Nat} {x : Int}
    (hn : n = s.get R.ENS_CFG.NDEV + 1)
    (hx : x = ((s.ens.rtts ++ [rtt]).foldl (· + ·) 0 : Nat) - (16 * ((n : Int) - 1) * 640)) :
    s.ensRtt rtt = s.hopPublished (hopOf x n) := by
  have hx' : ((s.ens.rtts ++ [rtt]).foldl (· + ·) 0 : Nat) - ((16 * (n - 1) * weftRep * 16 : Nat) : Int) = x := by
    rw [hx, hn, weftRep]
    push_cast
    ring_nf
  unfold State.ensRtt
  extract_lets l e m y s1 k e1
  have hk : k = hopOf x n := by
    rw [← hx', hn, ← hopOf_eq_divHU]
  rw [if_neg (by simp [l]; omega), hk]
  split
  · exact congrArg (fun t : State => (t.set R.ENS_HOPDLY.H (hopOf x n)).set R.ENS_STAT.STATE 2) rfl
  · rename_i hsome
    simp [hh] at hsome

/-! ### What each frame leaves -/

theorem State.ensLocked_eq_true {s : State} : s.ensLocked = true ↔ s.get R.ENS_STAT.STATE = 2 := by
  simp [State.ensLocked]

theorem State.onlyRegsDiffer_incSat (s : State) (f : Fld) : s.onlyRegsDiffer (s.incSat f) := State.onlyRegsDiffer_set s f _

/-- A frame with a wrong CRC, before it counts as missing. -/
theorem State.crcErr_spec {s u : State} (o : Option WeftFrame)
    (hu : (s.modEns fun e => { e with sent := o }).incSat R.ENS_STAT.CRCERR = u) :
    u.get R.ENS_STAT.CRCERR = min 255 (s.get R.ENS_STAT.CRCERR + 1) ∧ u.ens.sent = o ∧ s.onlyFields u [R.ENS_STAT.CRCERR] ∧
      u = { s with regs := u.regs, ens := { s.ens with sent := u.ens.sent } } := by
  subst hu
  have hrest := State.onlyRegsDiffer_incSat (s.modEns fun e => { e with sent := o }) R.ENS_STAT.CRCERR
  refine ⟨State.get_incSat_same _ _ (by decide), rfl, ((s.modEns_within _ _).set R.ENS_STAT.CRCERR _).1, ?_⟩
  rw [hrest]
  rfl

/-- A frame of another configuration. -/
theorem State.acquire_foreign (s : State) (f : WeftFrame) {t : State}
    (ht : ((s.weftKept f).modEns fun e => { e with good := 0 }).setB R.ENS_STAT.CFGMIS true = t) :
    t.bit R.ENS_STAT.CFGMIS = true ∧ t.ens.good = 0 ∧ t.ens.miss = 0 ∧ s.onlyFields t [R.ENS_STAT.CFGMIS, R.ENS_HOPDLY.H] ∧
      s.onlyEnsDiffers t := by
  subst ht
  have hw := (s.weftKept_within f).mono (List.subset_cons_self R.ENS_STAT.CFGMIS _)
  have hens : (s.weftKept f).ens.miss = 0 := by rw [State.weftKept_ens]
  refine ⟨State.bit_setB_same _ _ _ (by decide) (by decide), ?_, ?_, ((hw.modEns _).setB _ _ (by simp)).1,
    ((s.weftKept_frame f).modEns _).setB _ _⟩
  · rw [State.setB_ens, State.modEns_ens]
  · rw [State.setB_ens, State.modEns_ens, hens]

/-- Nothing but what a load of TB_NOW moves, registers and the link's own state differs (log 67). -/
def State.onlyLoadDiffers (s t : State) : Prop :=
  t = { s with regs := t.regs, tb := { s.tb with now := t.now }, ens := t.ens, adc := t.adc, thm := t.thm, balls := t.balls,
               doms := t.doms, pwr := t.pwr }

theorem State.tbLoad_spec (s : State) (v : Nat) :
    (s.tbLoad v).now = v ∧ (s.tbLoad v).regs = s.regs ∧ (s.tbLoad v).mem = s.mem ∧ (s.tbLoad v).ens = s.ens ∧
      s.onlyLoadDiffers (s.tbLoad v) :=
  ⟨rfl, rfl, rfl, rfl, rfl⟩

theorem State.onlyEnsDiffers.load {s t u : State} (h : s.onlyEnsDiffers t) (k : t.onlyLoadDiffers u) : s.onlyLoadDiffers u := by
  unfold State.onlyEnsDiffers at h
  unfold State.onlyLoadDiffers at *
  rw [k, h]
  rfl

theorem State.onlyLoadDiffers.ens {s t u : State} (h : s.onlyLoadDiffers t) (k : t.onlyEnsDiffers u) : s.onlyLoadDiffers u := by
  unfold State.onlyEnsDiffers at k
  unfold State.onlyLoadDiffers at *
  rw [k, h]
  rfl

theorem weftLoad_eq (n : Nat) (f : WeftFrame) :
    weftLoad n f = (f.mtb.toNat + (2 * (n * f.hop.toNat + (n - 1) * 640) + 16) / 32) % 2 ^ 64 := by
  rw [weftLoad, Nat.mul_assoc (n - 1), show weftRep * 16 = 640 by decide]

/-- A frame that loads TB_NOW. -/
theorem State.acquire_loads (s : State) {f : WeftFrame} (hv : f.hopValid = true) {v : Nat} {t : State}
    (ht : (((s.weftKept f).tbLoad v).setB R.ENS_STAT.NOLOAD false).modEns
      (fun e => { e with loaded := true, good := 0, errs := [] }) = t) :
    t.now = v ∧ t.ens.loaded = true ∧ t.bit R.ENS_STAT.NOLOAD = false ∧ t.get R.ENS_HOPDLY.H = f.hop.toNat ∧
      s.onlyFields t [R.ENS_STAT.NOLOAD, R.ENS_HOPDLY.H] ∧ s.onlyLoadDiffers t := by
  subst ht
  obtain ⟨hnow, hregs, hmem, -, hload⟩ := (s.weftKept f).tbLoad_spec v
  have hkept := (s.weftKept_frame f).load hload
  have hw : (s.weftKept f).writesWithin ((((s.weftKept f).tbLoad v).setB R.ENS_STAT.NOLOAD false).modEns
      fun e => { e with loaded := true, good := 0, errs := [] }) [R.ENS_STAT.NOLOAD] :=
    (((State.writesWithin_refl _ _).rest hregs hmem).setB _ _ (by simp)).modEns _
  generalize (s.weftKept f).tbLoad v = t at *
  have hens : t.onlyEnsDiffers ((t.setB R.ENS_STAT.NOLOAD false).modEns fun e => { e with loaded := true, good := 0, errs := [] }) :=
    ((show t.onlyEnsDiffers t from rfl).setB _ _).modEns _
  refine ⟨?_, rfl, ?_, ?_, State.onlyFields_mono (State.onlyFields_trans (s.weftKept_within f).1 hw.1) (by simp), hkept.ens hens⟩
  · rw [State.now, State.modEns_tb, State.setB_tb]
    exact hnow
  · rw [State.bit_modEns, State.bit_setB_same _ _ _ (by decide) (by decide)]
  · exact (hw.get _ (by decide)).trans (State.get_hopShown _ hv)

/-- A frame that would load TB_NOW while a domain runs. -/
theorem State.acquire_waits {s : State} (f : WeftFrame) (hl : s.ens.loaded = false) {t : State}
    (ht : (s.weftKept f).setB R.ENS_STAT.NOLOAD true = t) :
    t.bit R.ENS_STAT.NOLOAD = true ∧ t.ens.loaded = false ∧ s.onlyFields t [R.ENS_STAT.NOLOAD, R.ENS_HOPDLY.H] ∧
      s.onlyEnsDiffers t := by
  subst ht
  have hw := (s.weftKept_within f).mono (List.subset_cons_self R.ENS_STAT.NOLOAD _)
  refine ⟨State.bit_setB_same _ _ _ (by decide) (by decide), ?_, (hw.setB _ _).1, (s.weftKept_frame f).setB _ _⟩
  rw [State.setB_ens, State.weftKept_ens, hl]

/-- A frame that counts in ACQUIRE. -/
theorem State.acquire_counts {s : State} (f : WeftFrame) {err : Int} {t : State} (ht : (s.weftKept f).ensCounted err = t) :
    t.ens.good = s.goodRun err ∧ s.writesWithin t [R.ENS_HOPDLY.H] ∧ s.onlyEnsDiffers t := by
  subst ht
  refine ⟨?_, (s.weftKept_within f).modEns _, (s.weftKept_frame f).modEns _⟩
  rw [State.modEns_ens, State.goodRun, State.weftKept_ens, State.goodRun]

/-- The frame that locks the link. -/
theorem State.acquire_locks {s : State} (f : WeftFrame) {err : Int} {u : State}
    (hu : ((s.weftKept f).ensCounted err).set R.ENS_STAT.STATE 2 = u) :
    u.get R.ENS_STAT.STATE = 2 ∧ s.onlyFields u [R.ENS_STAT.STATE, R.ENS_HOPDLY.H] ∧ s.onlyEnsDiffers u := by
  subst hu
  obtain ⟨-, hw, ho⟩ := State.acquire_counts f (rfl : (s.weftKept f).ensCounted err = _)
  exact ⟨State.get_set_same _ _ _ (by decide), ((hw.mono (List.subset_cons_self R.ENS_STAT.STATE _)).set _ _ (by simp)).1, ho.set _ _⟩

/-- A good frame in a locked link. -/
theorem State.weftArrive_takes {s : State} {f : WeftFrame} (hc : f.crcOk = true) (hst : s.get R.ENS_STAT.STATE = 2)
    (hlen : s.ens.errs.length < 15) (fr : Nat) :
    ∃ u : State, s.weftArrive f fr = u.settle ∧ u.ens.sent = some (s.relayed f) ∧
      u.ens.frames = (s.relayed f :: s.ens.frames).take 4 ∧ u.ens.miss = 0 ∧
      (u.ens.mute = true ↔
        ∃ n : Nat, n ≤ s.get R.ENS_CFG.NDEV ∧ n ≠ s.ensPos ∧ ((s.relayed f).status.getD n 0).getLsbD 6 = true) ∧
      (u.mon.ensSrc = true ↔
        ∃ n : Nat, n ≤ s.get R.ENS_CFG.NDEV ∧ n ≠ s.ensPos ∧ ((s.relayed f).status.getD n 0).getLsbD 7 = true) ∧
      s.onlyFields u [R.ENS_HOPDLY.H] ∧ s.onlyEnsMonDiffer u := by
  have hshort : (s.weftKept f).ens.errs.length < 15 := by rwa [State.weftKept_ens]
  have hw := (s.weftKept_within f).modEns fun e => { e with errs := e.errs ++ [s.weftErr f fr] }
  have ho := (s.weftKept_frame f).modEns fun e => { e with errs := e.errs ++ [s.weftErr f fr] }
  have hens := State.modEns_ens (s.weftKept f) fun e => { e with errs := e.errs ++ [s.weftErr f fr] }
  rw [State.weftArrive_locked hc hst, State.ensErr_short hshort]
  rw [State.weftKept_ens] at hens
  generalize (s.weftKept f).modEns (fun e => { e with errs := e.errs ++ [s.weftErr f fr] }) = w at *
  obtain ⟨u, htake, huens, hsrc, huregs, humem, hrest⟩ := w.ensTake_spec (s.relayed f)
  have hlocked : w.ensLocked = true := State.ensLocked_eq_true.2 ((hw.get _ (by decide)).trans hst)
  have hndev : w.get R.ENS_CFG.NDEV = s.get R.ENS_CFG.NDEV := hw.get _ (by decide)
  have hpos : w.ensPos = s.ensPos := hw.get R.ENS_CFG.POS (by decide)
  refine ⟨u, by rw [if_pos hlocked, htake], ?_, ?_, ?_, ?_, ?_, (hw.rest huregs humem).1, ho.mon hrest⟩
  · rw [huens, hens]
  · rw [huens, hens]
  · rw [huens, hens]
  · rw [huens, State.statusHas_isEmpty, hndev, hpos]
  · rw [hsrc, State.statusHas_isEmpty, hndev, hpos]

/-! ### A good frame that returns (02 R46) -/

theorem State.weftReturn_ranging {s : State} {f : WeftFrame} (hc : f.crcOk = true) (hst : s.get R.ENS_STAT.STATE = 1) (fr : Nat) :
    s.weftReturn f fr = if ((s.ensKeep f).ensRtt (s.weftRtt f fr)).ensLocked then ((s.ensKeep f).ensRtt (s.weftRtt f fr)).ensTake f
      else (s.ensKeep f).ensRtt (s.weftRtt f fr) := by
  rw [State.weftReturn, if_neg (by simp [hc])]
  dsimp only
  rw [if_neg (by simp [hst])]

theorem State.ensKeep_eq (s : State) (f : WeftFrame) :
    s.ensKeep f = s.modEns fun e => { e with miss := 0, frames := (f :: e.frames).take 4 } := rfl

theorem State.ensKeep_within (s : State) (f : WeftFrame) (l : List Fld) : s.writesWithin (s.ensKeep f) l :=
  s.modEns_within (fun e => { e with miss := 0, frames := (f :: e.frames).take 4 }) l

theorem State.onlyEnsDiffers_ensKeep (s : State) (f : WeftFrame) : s.onlyEnsDiffers (s.ensKeep f) := rfl

/-- A ring delay before the last of a block. -/
theorem State.weftReturn_short {s : State} {f : WeftFrame} (hc : f.crcOk = true) (hst : s.get R.ENS_STAT.STATE = 1)
    (hlen : s.ens.rtts.length < 15) (fr : Nat) :
    s.weftReturn f fr =
      s.modEns fun e => { e with miss := 0, frames := (f :: e.frames).take 4, rtts := e.rtts ++ [s.weftRtt f fr] } := by
  have hshort : (s.ensKeep f).ens.rtts.length < 15 := hlen
  have hlocked : ¬ ((s.ensKeep f).modEns fun e => { e with rtts := e.rtts ++ [s.weftRtt f fr] }).ensLocked = true := by
    rw [State.ensLocked_eq_true, State.get_modEns, State.ensKeep_eq, State.get_modEns, hst]
    decide
  rw [State.weftReturn_ranging hc hst, State.ensRtt_short hshort, if_neg hlocked]
  rfl

/-- The last one of a block publishes the hop delay and locks. -/
theorem State.weftReturn_locks {s : State} {f : WeftFrame} (hc : f.crcOk = true) (hst : s.get R.ENS_STAT.STATE = 1)
    (hlen : 15 ≤ s.ens.rtts.length) (hh : s.ens.hop = none) {fr n : Nat} {x : Int} (hn : n = s.get R.ENS_CFG.NDEV + 1)
    (hx : x = ((s.ens.rtts ++ [s.weftRtt f fr]).foldl (· + ·) 0 : Nat) - (16 * ((n : Int) - 1) * 640)) :
    ∃ u : State, s.weftReturn f fr = u.settle ∧ u.get R.ENS_STAT.STATE = 2 ∧ u.ens.hop = some (hopOf x n) ∧
      u.get R.ENS_HOPDLY.H = hopOf x n % 2 ^ 16 ∧ u.ens.frames = (f :: s.ens.frames).take 4 ∧
      s.onlyFields u [R.ENS_STAT.STATE, R.ENS_HOPDLY.H] ∧ s.onlyEnsMonDiffer u := by
  have hrtt : (s.ensKeep f).ensRtt (s.weftRtt f fr) = (s.ensKeep f).hopPublished (hopOf x n) :=
    State.ensRtt_publishes (s := s.ensKeep f) hlen hh hn hx
  obtain ⟨hstate, hshown, hens, hw, ho⟩ := (s.ensKeep f).hopPublished_spec (hopOf x n)
  rw [State.weftReturn_ranging hc hst, hrtt, if_pos (State.ensLocked_eq_true.2 hstate)]
  generalize (s.ensKeep f).hopPublished (hopOf x n) = t at *
  obtain ⟨u, htake, huens, -, huregs, humem, hrest⟩ := t.ensTake_spec f
  have hget : ∀ g, u.get g = t.get g := fun g => by rw [State.get, State.reg, huregs, State.get, State.reg]
  refine ⟨u, htake, (hget _).trans hstate, ?_, (hget _).trans hshown, ?_, (((s.ensKeep_within f _).trans hw).rest huregs humem).1,
    (State.onlyEnsDiffers_trans (s.onlyEnsDiffers_ensKeep f) ho).mon hrest⟩
  · rw [huens, hens]
  · rw [huens, hens]
    rfl

/-! ### The statement of R44 to R49 and R256 -/

section
variable {s : State} {f : WeftFrame} {fr : Fin 16} (hon : s.ensOn = true)
include hon

/-- A frame with a wrong CRC, at a slave or at the master. -/
theorem exec_badCrc {c : Instr} (hc : f.crcOk = false)
    (h : (s.ensPos ≠ 0 ∧ c = .weftFrameArrive f fr) ∨ (s.ensPos = 0 ∧ c = .weftFrameReturn f fr)) :
    ∃ u : State, exec c s = .next u.ensMissing ∧ u.get R.ENS_STAT.CRCERR = min 255 (s.get R.ENS_STAT.CRCERR + 1) ∧
      (s.ensPos ≠ 0 → ∃ g : WeftFrame, u.ens.sent = some g ∧ g.crcOk = false) ∧
      s.onlyFields u [R.ENS_STAT.CRCERR] ∧ u = { s with regs := u.regs, ens := { s.ens with sent := u.ens.sent } } := by
  rcases h with ⟨hpos, rfl⟩ | ⟨hpos, rfl⟩
  · obtain ⟨hcount, hsent, hflds, hrest⟩ := s.crcErr_spec (some (s.relayed f)) rfl
    have hexec := execWeftFrameArrive_slave hon hpos f fr
    rw [State.weftArrive_badCrc hc] at hexec
    exact ⟨_, hexec, hcount, fun _ => ⟨_, hsent, (s.relayed_crcOk f).trans hc⟩, hflds, hrest⟩
  · obtain ⟨hcount, -, hflds, hrest⟩ := s.crcErr_spec s.ens.sent rfl
    have hexec := execWeftFrameReturn_master hon hpos f fr
    rw [State.weftReturn_badCrc hc] at hexec
    exact ⟨_, hexec, hcount, fun hne => (hne hpos).elim, hflds, hrest⟩

/-! #### A good frame at a slave in ACQUIRE -/

variable (hpos : s.ensPos ≠ 0) (hc : f.crcOk = true) (hst : s.get R.ENS_STAT.STATE = 1)
include hpos hc hst

theorem exec_acquire_foreign (hcfg : f.cfgchk.toNat ≠ s.get R.ENS_CFG.CFGCHK) : exec (.weftFrameArrive f fr) s =
    .next (((s.weftKept f).modEns fun e => { e with good := 0 }).setB R.ENS_STAT.CFGMIS true) := by
  have hkept : (s.weftKept f).get R.ENS_CFG.CFGCHK = s.get R.ENS_CFG.CFGCHK := (s.weftKept_within f).get _ (by decide)
  rw [execWeftFrameArrive_slave hon hpos, State.weftArrive_acquiring hc hst, State.ensAcquiring_foreign (hkept ▸ hcfg)]

variable (hcfg : f.cfgchk.toNat = s.get R.ENS_CFG.CFGCHK) (hv : f.hopValid = true)
include hcfg hv

theorem exec_acquire_loads (hl : s.ens.loaded = false) (hq : s.allQuiet = true) : exec (.weftFrameArrive f fr) s =
    .next ((((s.weftKept f).tbLoad (weftLoad s.ensPos f)).setB R.ENS_STAT.NOLOAD false).modEns
      fun e => { e with loaded := true, good := 0, errs := [] }) := by
  have hkept : (s.weftKept f).get R.ENS_CFG.CFGCHK = s.get R.ENS_CFG.CFGCHK := (s.weftKept_within f).get _ (by decide)
  have hplace : (s.weftKept f).ensPos = s.ensPos := (s.weftKept_within f).get R.ENS_CFG.POS (by decide)
  rw [execWeftFrameArrive_slave hon hpos, State.weftArrive_acquiring hc hst, State.ensAcquiring_loads (hkept ▸ hcfg) hv
    (by rw [State.weftKept_ens, hl]) ((s.weftKept_frame f).allQuiet.trans hq), hplace]

theorem exec_acquire_waits (hl : s.ens.loaded = false) (hq : s.allQuiet = false) :
    exec (.weftFrameArrive f fr) s = .next ((s.weftKept f).setB R.ENS_STAT.NOLOAD true) := by
  have hkept : (s.weftKept f).get R.ENS_CFG.CFGCHK = s.get R.ENS_CFG.CFGCHK := (s.weftKept_within f).get _ (by decide)
  rw [execWeftFrameArrive_slave hon hpos, State.weftArrive_acquiring hc hst, State.ensAcquiring_waits (hkept ▸ hcfg) hv
    (by rw [State.weftKept_ens, hl]) ((s.weftKept_frame f).allQuiet.trans hq)]

theorem exec_acquire_counts (hl : s.ens.loaded = true) (hlen : s.ens.errs.length < 15) : exec (.weftFrameArrive f fr) s =
    .next (if 8 ≤ s.goodRun (s.weftErr f fr) then (((s.weftKept f).ensCounted (s.weftErr f fr)).set R.ENS_STAT.STATE 2).settle
      else (s.weftKept f).ensCounted (s.weftErr f fr)) := by
  have hkept : (s.weftKept f).get R.ENS_CFG.CFGCHK = s.get R.ENS_CFG.CFGCHK := (s.weftKept_within f).get _ (by decide)
  have hrun : ∀ err, (s.weftKept f).goodRun err = s.goodRun err := fun err => by
    rw [State.goodRun, State.weftKept_ens, State.goodRun]
  rw [execWeftFrameArrive_slave hon hpos, State.weftArrive_acquiring hc hst, State.ensAcquiring_counts (hkept ▸ hcfg) hv
    (by rw [State.weftKept_ens, hl]) (by rwa [State.weftKept_ens]), hrun]
end

/-- Settles O51: what the link sends are the fields of `ownFrame`, and each frame acts by one case of its state. -/
theorem theWeftLinkSendsTakesAndLosesFrames : Obligations.TheWeftLinkSendsTakesAndLosesFrames := by
  unfold Obligations.TheWeftLinkSendsTakesAndLosesFrames
  refine ⟨fun s hon hpos => ⟨_, _, execWeftSofSend_master hon hpos, rfl, State.masterFrame_spec hpos rfl⟩,
    fun f fr c s hon hc h => exec_badCrc hon hc h, fun s hon => execWeftFrameMissing_on hon, fun s hon => execWeftFrameMissing_off hon,
    fun s => ⟨fun h => State.ensMissing_counts h, fun hl hm => ?fails⟩,
    fun f fr s hon hpos hc hst => ⟨fun hcfg => ?foreign, fun hcfg hv hl => ⟨fun hq => ?loads, fun hq => ?waits⟩,
      fun hcfg hv hl hlen => ⟨fun he hg => ?counts, fun he => ?misses, fun he hg => ?locks⟩⟩,
    fun f fr s => ?err, fun f fr s hon hpos hc hst hlen => ?takes,
    fun f fr rtt n x s hon hpos hc hst hh hn hrtt hx => ⟨fun hlen => ?ranges, fun hlen => ?publishes⟩,
    fun f fr s => ⟨fun h => execWeftFrameArrive_idle h f fr, fun h => exec_master_idle h f fr⟩⟩
  case fails =>
    have hframe := State.ensFailed_frame (s.modEns fun e => { e with miss := min (e.miss + 1) 3, good := 0 }) R.ENS_STAT.LOST
    have hw := State.ensFailed_within (s.modEns fun e => { e with miss := min (e.miss + 1) 3, good := 0 }) R.ENS_STAT.LOST
    refine ⟨_, State.ensMissing_fails hl hm, State.ensFailed_state _ (by decide), State.ensFailed_bit _ (by decide) (by decide),
      ?_, ?_, ?_, hw.1, (s.onlyEnsDiffers_modEns _).mon hframe⟩
    · rw [State.ensFailed_ens, State.modEns_ens]
    · rw [State.ensFailed_ens]
    · rw [State.ensFailed_mon, State.modEns_mon]
  case foreign => exact ⟨_, exec_acquire_foreign hon hpos hc hst hcfg, s.acquire_foreign f rfl⟩
  case loads =>
    obtain ⟨hnow, hrest⟩ := s.acquire_loads hv (rfl : _ = (((s.weftKept f).tbLoad (weftLoad s.ensPos f)).setB _ _).modEns _)
    exact ⟨_, exec_acquire_loads hon hpos hc hst hcfg hv hl hq, hnow.trans (weftLoad_eq _ _), hrest⟩
  case waits => exact ⟨_, exec_acquire_waits hon hpos hc hst hcfg hv hl hq, State.acquire_waits f hl rfl⟩
  case counts =>
    have hrun : s.goodRun (s.weftErr f fr) = s.ens.good + 1 := if_pos he
    have hexec := exec_acquire_counts (fr := fr) hon hpos hc hst hcfg hv hl hlen
    rw [if_neg (by omega)] at hexec
    obtain ⟨hgood, hw, ho⟩ := State.acquire_counts (s := s) f (err := s.weftErr f fr) rfl
    exact ⟨_, hexec, hgood.trans hrun, hw.1, ho⟩
  case misses =>
    have hrun : s.goodRun (s.weftErr f fr) = 0 := if_neg (by omega)
    have hexec := exec_acquire_counts (fr := fr) hon hpos hc hst hcfg hv hl hlen
    rw [if_neg (by omega)] at hexec
    obtain ⟨hgood, hw, ho⟩ := State.acquire_counts (s := s) f (err := s.weftErr f fr) rfl
    exact ⟨_, hexec, hgood.trans hrun, hw.1, ho⟩
  case locks =>
    have hrun : s.goodRun (s.weftErr f fr) = s.ens.good + 1 := if_pos he
    have hexec := exec_acquire_counts (fr := fr) hon hpos hc hst hcfg hv hl hlen
    rw [if_pos (by omega)] at hexec
    exact ⟨_, hexec, State.acquire_locks f rfl⟩
  case err => rw [State.weftErr, weftLoad_eq]
  case takes =>
    obtain ⟨u, htakes, hsent, hframes, hmiss, hmute, hsrc, hflds, hrest⟩ := State.weftArrive_takes hc hst hlen fr.val
    have hexec := execWeftFrameArrive_slave hon hpos f fr
    rw [htakes] at hexec
    exact ⟨u, s.relayed f, hexec, hsent, (s.relayed_crcOk f).trans hc, fun d hd => s.rail_ownFrame _ _ hd, s.status_ownFrame _ _,
      fun k hk hne => s.relayed_rail_other f hk hne, fun n hn hne => s.relayed_status_other f hn hne, hframes, hmiss, hmute, hsrc,
      hflds, hrest⟩
  case ranges =>
    have hdelay : rtt = s.weftRtt f fr := hrtt
    rw [execWeftFrameReturn_master hon hpos, State.weftReturn_short hc hst hlen, hdelay]
    rfl
  case publishes =>
    have hdelay : rtt = s.weftRtt f fr := hrtt
    rw [hdelay] at hx
    obtain ⟨u, hlocks, hstate, hhop, hshown, hframes, hflds, hrest⟩ := State.weftReturn_locks hc hst hlen hh hn hx
    have hexec := execWeftFrameReturn_master hon hpos f fr
    rw [hlocks] at hexec
    exact ⟨u, hexec, hstate, hhop, hshown, hframes, hflds, hrest⟩

end Sys2Proof.Machine
end

section
/-! The arithmetic of the loop kernel: rounding, accumulators and the rail reciprocal (03_kareo_loop_fabric.md R56, R57, R64). -/

namespace Sys2Proof.Machine

/-! ### Saturation -/

theorem clampI_mem {lo hi : Int} (h : lo ≤ hi) (x : Int) : lo ≤ clampI lo hi x ∧ clampI lo hi x ≤ hi := by
  unfold clampI
  split_ifs <;> omega

/-- Saturation changes a value exactly where it lies outside the bounds. -/
theorem ne_clampI_iff {lo hi : Int} (x : Int) : x ≠ clampI lo hi x ↔ hi < x ∨ x < lo := by
  unfold clampI
  split_ifs <;> omega

theorem clampI_upper_first {lo hi : Int} (h : lo ≤ hi) (x : Int) :
    clampI lo hi x = if hi < x then hi else if x < lo then lo else x := by
  unfold clampI
  split_ifs <;> omega

/-! ### Rounding (03 R57) -/

theorem rndRaw_eq (a : Int) : rndRaw a = (a + 2 ^ 30) / 2 ^ 31 := rfl

theorem rnd_mem (a : Int) : -2147483648 ≤ rnd a ∧ rnd a ≤ 2147483647 := clampI_mem (by decide) _

theorem rndSat_iff (a : Int) : rndSat a = true ↔ 2147483647 < rndRaw a ∨ rndRaw a < -2147483648 := by
  rw [rndSat, decide_eq_true_iff]
  exact ne_clampI_iff _

/-! ### Accumulators (03 R56) -/

theorem sat80_mem (x : Int) : -(2 ^ 79) ≤ sat80 x ∧ sat80 x < 2 ^ 79 := by
  obtain ⟨hlo, hhi⟩ := clampI_mem (lo := -604462909807314587353088) (hi := 604462909807314587353087) (by decide) x
  exact ⟨hlo, Int.lt_of_le_of_lt hhi (by decide)⟩

theorem accAdd_keeps_sat {a : Acc} (h : a.sat = true) (x : Int) : (accAdd a x).sat = true := by
  simp [accAdd, h]

/-! ### The rail reciprocal (03 R64) -/

theorem divHU_nonneg {x : Int} (h : 0 ≤ x) (d : Nat) : 0 ≤ divHU x d :=
  Int.ediv_nonneg (by omega) (by omega)

theorem recip_mem (f : Int) : 0 ≤ (recip f).1 ∧ (recip f).1 ≤ 2147483647 := by
  have hq := divHU_nonneg (x := 576460752303423488) (by decide) f.toNat
  unfold recip
  split_ifs
  · decide
  · dsimp only
    split_ifs
    · decide
    · exact ⟨hq, by omega⟩

/-- Settles O27: `rnd` and the accumulators end in a saturation, and the quotient of the reciprocal is not negative. -/
theorem roundingLeavesTheAccumulatorOnce : Obligations.RoundingLeavesTheAccumulatorOnce := by
  unfold Obligations.RoundingLeavesTheAccumulatorOnce
  refine ⟨fun a => ?round, fun a x => ?acc, fun f => ?rail⟩
  case round =>
    obtain ⟨hlo, hhi⟩ := rnd_mem a
    rw [← rndRaw_eq]
    exact ⟨clampI_upper_first (by decide) _, hlo, hhi, rndSat_iff a⟩
  case acc =>
    obtain ⟨hlo, hhi⟩ := sat80_mem (a.v + sat80 x)
    exact ⟨hlo, hhi, fun h => accAdd_keeps_sat h x⟩
  case rail =>
    obtain ⟨hlo, hhi⟩ := recip_mem f
    exact ⟨by omega, hhi⟩

end Sys2Proof.Machine
end

section
/-! The loops of the fabric: single bits of a field, what a write of registers and an event leave of a loop, and the fault of a loop
(03_kareo_loop_fabric.md R54, R70, R78). -/

namespace Sys2Proof.Machine

/-! ### Single bits of a field -/

theorem setBit_eq_setBits (v i : Nat) (b : Bool) : setBit v i b = setBits v i 1 (b2n b) := by
  have hbit : bitsAt v i 1 = b2n (v.testBit i) := by
    have hmod : v / 2 ^ i % 2 = b2n (decide (v / 2 ^ i % 2 = 1)) := by
      rcases Nat.mod_two_eq_zero_or_one (v / 2 ^ i) with h | h <;> simp [h, b2n]
    rw [Nat.testBit_eq_decide_div_mod_eq]
    exact hmod
  rw [setBits, hbit, setBit]
  cases hv : v.testBit i <;> cases b <;> simp [b2n]
  exact (Nat.sub_add_cancel (Nat.ge_two_pow_of_testBit hv)).symm

theorem testBit_setBit (v i k : Nat) (b : Bool) : (setBit v i b).testBit k = if k = i then b else v.testBit k := by
  rw [setBit_eq_setBits, testBit_setBits]
  by_cases h : k = i
  · cases b <;> simp [h, b2n]
  · rw [if_neg (by omega), if_neg h]

/-- A bit of a field after one of its bits was written. -/
theorem State.bitI_setI (s : State) {f : Fld} (hf : f.hi < 32) {i : Nat} (hi : i < f.hi + 1 - f.lo) (b : Bool) (k : Nat) :
    (s.setI f i b).bitI f k = if k = i then b else s.bitI f k := by
  rw [State.bitI, State.setI, State.get_set_same _ _ _ hf, Nat.testBit_mod_two_pow, testBit_setBit, State.bitI]
  by_cases hk : k < f.hi + 1 - f.lo
  · simp [hk]
  · have hlt : s.get f < 2 ^ k := Nat.lt_of_lt_of_le (fldOf_lt _ f) (Nat.pow_le_pow_right (by decide) (by omega))
    rw [if_neg (by omega), Nat.testBit_lt_two_pow hlt]
    simp

theorem State.writesWithin.bitI {s t : State} {l : List Fld} (h : s.writesWithin t l) (g : Fld) (hg : ∀ f ∈ l, apart f g) (k : Nat) :
    t.bitI g k = s.bitI g k := by
  rw [State.bitI, h.get g hg, State.bitI]

/-! ### Loops under writes of registers, domains and events -/

@[simp] theorem State.loop_set (s : State) (f : Fld) (v l : Nat) : (s.set f v).loop l = s.loop l := rfl
@[simp] theorem State.loop_setB (s : State) (f : Fld) (b : Bool) (l : Nat) : (s.setB f b).loop l = s.loop l := rfl
@[simp] theorem State.loop_setI (s : State) (f : Fld) (i : Nat) (b : Bool) (l : Nat) : (s.setI f i b).loop l = s.loop l := rfl
@[simp] theorem State.loop_modMon (s : State) (g : Mon → Mon) (l : Nat) : (s.modMon g).loop l = s.loop l := rfl

@[simp] theorem State.loop_raise (s : State) (code sev : Nat) (data : List Byte) (l : Nat) :
    (s.raise code sev data).loop l = s.loop l := by
  rw [State.loop, State.raise_loops, State.loop]

/-- Nothing but registers, the recorder, the counter of free values and the loop of a number differs. -/
def State.onlyLoopDiffers (s t : State) (l : Nat) : Prop :=
  (∀ k : Nat, k ≠ l → t.loop k = s.loop k) ∧ t = { s with regs := t.regs, fls := t.fls, freeCtr := t.freeCtr, loops := t.loops }

section
variable {s t u : State} {l : Nat}

theorem State.onlyLoopDiffers_modLoop (s : State) (l : Nat) (f : Loop → Loop) : s.onlyLoopDiffers (s.modLoop l f) l :=
  ⟨fun _ hk => State.loop_modLoop_other s f hk, rfl⟩

theorem State.onlyLoopDiffers.trans (h : s.onlyLoopDiffers t l) (k : t.onlyLoopDiffers u l) : s.onlyLoopDiffers u l :=
  ⟨fun n hn => (k.1 n hn).trans (h.1 n hn), by rw [k.2, h.2]⟩

theorem State.onlyRegsFlsDiffer.oneLoop (h : s.onlyRegsFlsDiffer t) (l : Nat) : s.onlyLoopDiffers t l :=
  ⟨fun k _ => by rw [h]; rfl, by rw [h]⟩

theorem State.onlyLoopDiffers.modLoop (h : s.onlyLoopDiffers t l) (f : Loop → Loop) : s.onlyLoopDiffers (t.modLoop l f) l :=
  h.trans (State.onlyLoopDiffers_modLoop t l f)

theorem State.onlyLoopDiffers.setB (h : s.onlyLoopDiffers t l) (f : Fld) (b : Bool) : s.onlyLoopDiffers (t.setB f b) l :=
  h.trans ((State.onlyRegsFlsDiffer_set t f _).oneLoop l)

theorem State.onlyLoopDiffers.raise (h : s.onlyLoopDiffers t l) (code sev : Nat) (data : List Byte) :
    s.onlyLoopDiffers (t.raise code sev data) l :=
  h.trans ((State.raise_frame t code sev data).1.oneLoop l)

end

/-! ### A measurement that stops (04_loop_nesting_and_plausibility.md R104) -/

@[simp] theorem State.zCapture_loops (s : State) (d : Nat) : (s.zCapture d).loops = s.loops := by
  unfold State.zCapture
  extract_lets c k
  split <;> rfl

theorem State.writesWithin.zCapture {s t : State} {l : List Fld} (h : s.writesWithin t l) (d : Nat) :
    s.writesWithin (t.zCapture d) l := by
  unfold State.zCapture
  extract_lets c k
  split
  · exact h.rest rfl rfl
  · exact h

/-- The fields in which a measurement shows its end. -/
abbrev zEndFlds (d : Nat) : List Fld := [R.LFC_ZCFG.BUSY d, R.LFC_ZCFG.DONE d, R.LFC_ZCFG.ERR d]

theorem State.zStopOn_within (s : State) (d k : Nat) : s.writesWithin (s.zStopOn d k) (zEndFlds d) := by
  unfold State.zStopOn State.zStop
  split
  · split
    · exact (((((State.writesWithin_refl s _).modDom _ _).setB _ _ (by simp)).setB _ _ (by simp)).setB _ _ (by simp)).zCapture d
    · exact State.writesWithin_refl s _
  · exact State.writesWithin_refl s _

@[simp] theorem State.zStopOn_loops (s : State) (d k : Nat) : (s.zStopOn d k).loops = s.loops := by
  unfold State.zStopOn State.zStop
  split
  · split
    · rw [State.zCapture_loops, State.setB_loops, State.setB_loops, State.setB_loops, State.modDom_loops]
    · rfl
  · rfl

/-! ### A loop that stops or faults (03 R54, R78) -/

/-- The fields that stopping a loop writes (03 R54; 04 R104). -/
abbrev stopFlds (d : Nat) : List Fld :=
  R.LFC_RUN.RUN d :: R.LFC_BANK.PEND d :: zEndFlds d

/-- Stopping a loop clears its RUN bit, and then writes other fields than RUN. -/
theorem State.stopLoop_within (s : State) (d j : Nat) :
    (s.setI (R.LFC_RUN.RUN d) j false).writesWithin (s.stopLoop d j) (stopFlds d).tail := by
  unfold State.stopLoop
  extract_lets s1 s2 s3
  have h3 : (s.setI (R.LFC_RUN.RUN d) j false).writesWithin s3 (stopFlds d).tail :=
    (((State.writesWithin_refl _ _).setI (R.LFC_BANK.PEND d) j false (by simp)).modLoop _ _).modDom _ _
  split
  · exact h3.trans ((s3.zStopOn_within d j).mono (by simp))
  · exact h3

theorem stopFlds_apart_run (d : Fin 4) : ∀ f ∈ (stopFlds d).tail, apart f (R.LFC_RUN.RUN d) := by
  revert d; decide

theorem State.running_stopLoop (s : State) (d : Fin 4) (j : Fin 12) : (s.stopLoop d j).running d j = false := by
  have hj := j.isLt
  rw [State.running, (s.stopLoop_within d j).bitI _ (stopFlds_apart_run d),
    State.bitI_setI _ (by decide : 11 < 32) (by exact hj), if_pos rfl]

/-- The fields that an evaluation of the selector writes (04 R88). -/
abbrev selFlds (d : Nat) : List Fld := [R.LFC_SELVAL.W d, R.LFC_SEL.WIN d, R.LFC_SEL.WON d]

theorem State.selTrig_selFlds (s : State) (d j : Nat) : s.writesWithin (s.selTrig d j) (selFlds d) := by
  unfold State.selTrig
  split
  · unfold State.selEval
    extract_lets w s0 s1
    have h0 : s.writesWithin s0 (selFlds d) := by
      unfold s0
      split
      · exact State.writesWithin_refl s _
      · exact (State.writesWithin_refl s _).modDom _ _
    have h1 : s.writesWithin s1 (selFlds d) := h0.setS _ _ (by simp)
    split
    · exact (h1.set _ _ (by simp)).setI _ _ _ (by simp)
    · exact h1.set _ _ (by simp)
  · exact State.writesWithin_refl s _

/-- The fields that a fault writes once the loop has stopped: those of the selector and of an event (03 R79; 04 R88). -/
abbrev faultEndFlds (d : Nat) : List Fld := selFlds d ++ evFields

/-- The fields that a fault writes after LFC_FAULT (03 R78). -/
abbrev faultFlds (d : Nat) : List Fld := R.LFC_FCAUSE.CAUSE d :: stopFlds d ++ faultEndFlds d

theorem faultFlds_apart_fault (d : Fin 4) : ∀ f ∈ faultFlds d, apart f (R.LFC_FAULT.LF d) := by
  revert d; decide

theorem faultEndFlds_apart_run (d : Fin 4) : ∀ f ∈ faultEndFlds d, apart f (R.LFC_RUN.RUN d) := by
  revert d; decide

theorem causeFlds_apart_run (d : Fin 4) : ∀ f ∈ [R.LFC_FAULT.LF d, R.LFC_FCAUSE.CAUSE d], apart f (R.LFC_RUN.RUN d) := by
  revert d; decide

/-- A fault sets the bit of the loop in LFC_FAULT, stops the loop, and ends in an event and an evaluation of the selector. -/
theorem State.loopFault_stages (s : State) (d : Fin 4) (j : Fin 12) (cause : Nat) : ∃ t : State,
    (s.setI (R.LFC_FAULT.LF d) j true).writesWithin t (faultFlds d) ∧ t.running d j = false ∧
      t.writesWithin (s.loopFault d j cause) (faultEndFlds d) := by
  unfold State.loopFault
  extract_lets ln n s1 s2 s3
  have h1 : (s.setI (R.LFC_FAULT.LF d) j true).writesWithin s1 (faultFlds d) :=
    (State.writesWithin_refl _ _).set _ _ (by simp)
  have h3 : s3.writesWithin ((s3.raise 0x0302 2 (le 1 ln ++ le 1 cause ++ le 1 (satN 255 n))).selTrig d j) (faultEndFlds d) :=
    ((State.writesWithin_refl s3 _).raise _ _ _ (List.subset_append_right _ _)).trans
      ((State.selTrig_selFlds _ d j).mono (List.subset_append_left _ _))
  refine ⟨s2, ?_, ?_, ((State.writesWithin_refl s2 _).modMon _).trans h3⟩
  · unfold s2
    split
    · refine (h1.setI (R.LFC_RUN.RUN d) j false (by simp)).trans ((s1.stopLoop_within d j).mono fun f hf => ?_)
      exact List.mem_cons_of_mem _ (List.mem_append_left _ (List.mem_of_mem_tail hf))
    · exact h1
  · unfold s2
    split
    · exact s1.running_stopLoop d j
    · rename_i hrun
      have hset : (s.setI (R.LFC_FAULT.LF d) j true).writesWithin s1 [R.LFC_FCAUSE.CAUSE d] :=
        (State.writesWithin_refl _ _).set _ _ (by simp)
      have hall := ((State.writesWithin_refl s [R.LFC_FAULT.LF d, R.LFC_FCAUSE.CAUSE d]).setI (R.LFC_FAULT.LF d) j true
        (by simp)).trans
        (hset.mono (by simp))
      rw [State.running, hall.bitI _ (causeFlds_apart_run d)]
      simpa [State.running] using hrun

theorem State.loopFault_within (s : State) (d : Fin 4) (j : Fin 12) (cause : Nat) :
    (s.setI (R.LFC_FAULT.LF d) j true).writesWithin (s.loopFault d j cause) (faultFlds d) := by
  obtain ⟨t, hbefore, -, hend⟩ := s.loopFault_stages d j cause
  exact hbefore.trans (hend.mono (List.subset_append_right _ _))

/-- A fault shows in LFC_FAULT, and the loop does not run any more. -/
theorem State.loopFault_spec (s : State) (d : Fin 4) (j : Fin 12) (cause : Nat) :
    (s.loopFault d j cause).bitI (R.LFC_FAULT.LF d) j = true ∧ (s.loopFault d j cause).running d j = false := by
  obtain ⟨t, -, hrun, hend⟩ := s.loopFault_stages d j cause
  constructor
  · rw [(s.loopFault_within d j cause).bitI _ (faultFlds_apart_fault d), State.bitI_setI _ (by decide : 11 < 32) (by exact j.isLt), if_pos rfl]
  · rw [State.running, hend.bitI _ (faultEndFlds_apart_run d)]
    exact hrun

end Sys2Proof.Machine
end

section
/-! A missed sample: what it counts, and the fault of a loop that misses too often (03_kareo_loop_fabric.md R76 to R78). -/

namespace Sys2Proof.Machine

theorem State.writesWithin.incSat {s t : State} {l : List Fld} (h : s.writesWithin t l) (f : Fld) (hf : f ∈ l) :
    s.writesWithin (t.incSat f) l :=
  h.set f _ hf

/-! ### The counters (03 R77) -/

theorem missFlds_apart (d : Fin 4) :
    (∀ f ∈ R.LFC_STAT.MISSL d :: R.LFC_MISSCNT.TOTAL d :: R.LFC_MISSCNT.MAXRUN d :: evFields, apart f (R.LFC_STAT.MISS d)) ∧
      (∀ f ∈ R.LFC_MISSCNT.TOTAL d :: R.LFC_MISSCNT.MAXRUN d :: evFields, apart f (R.LFC_STAT.MISSL d)) ∧
      (∀ f ∈ R.LFC_MISSCNT.MAXRUN d :: evFields, apart f (R.LFC_MISSCNT.TOTAL d)) ∧
      (∀ f ∈ [R.LFC_STAT.MISS d, R.LFC_STAT.MISSL d], apart f (R.LFC_MISSCNT.TOTAL d)) ∧
      (∀ f ∈ evFields, apart f (R.LFC_MISSCNT.MAXRUN d)) := by
  revert d; decide

/-- MISS, MISSL and TOTAL of a missed sample. -/
def State.missShown (s : State) (d j : Nat) : State :=
  ((s.setB (R.LFC_STAT.MISS d) true).setI (R.LFC_STAT.MISSL d) j true).incSat (R.LFC_MISSCNT.TOTAL d)

/-- MAXRUN follows a run of n misses. -/
def State.maxRun (s : State) (d n : Nat) : State :=
  if s.get (R.LFC_MISSCNT.MAXRUN d) < n then s.set (R.LFC_MISSCNT.MAXRUN d) (satN 0xFF n) else s

theorem State.maxRun_within (s : State) (d n : Nat) : s.writesWithin (s.maxRun d n) [R.LFC_MISSCNT.MAXRUN d] := by
  unfold State.maxRun
  split
  · exact (State.writesWithin_refl s _).set _ _ (by simp)
  · exact State.writesWithin_refl s _

theorem State.le_maxRun (s : State) (d n : Nat) : min 255 n ≤ (s.maxRun d n).get (R.LFC_MISSCNT.MAXRUN d) := by
  unfold State.maxRun
  split
  · rw [State.get_set_same _ _ _ (by decide : 31 < 32), satN_eq_min]
    exact Nat.le_of_eq (Nat.mod_eq_of_lt (by change _ < 2 ^ 8; omega)).symm
  · omega

/-- After the counters an event alone writes registers. -/
theorem State.missCount_ends (s : State) (d j : Nat) :
    ((s.missShown d j).maxRun d ((s.loop (loopNo d j)).missRun + 1)).writesWithin (s.missCount d j) evFields :=
  ((State.writesWithin_refl _ _).modLoop _ _).raise _ _ _ (List.Subset.refl _)

theorem State.missCount_within (s : State) (d j : Nat) :
    (s.missShown d j).writesWithin (s.missCount d j) (R.LFC_MISSCNT.MAXRUN d :: evFields) :=
  ((State.maxRun_within _ d _).mono (by simp)).trans ((s.missCount_ends d j).mono (List.subset_cons_self _ _))

theorem State.missRun_missCount (s : State) (d j : Nat) :
    ((s.missCount d j).loop (loopNo d j)).missRun = (s.loop (loopNo d j)).missRun + 1 := by
  rw [State.missCount, State.loop_raise, State.loop_modLoop_same]

theorem State.missCount_spec (s : State) (d : Fin 4) (j : Fin 12) :
    (s.missCount d j).bit (R.LFC_STAT.MISS d) = true ∧ (s.missCount d j).bitI (R.LFC_STAT.MISSL d) j = true ∧
      (s.missCount d j).get (R.LFC_MISSCNT.TOTAL d) =
        min (2 ^ ((R.LFC_MISSCNT.TOTAL d).hi + 1 - (R.LFC_MISSCNT.TOTAL d).lo) - 1) (s.get (R.LFC_MISSCNT.TOTAL d) + 1) ∧
      min 255 ((s.loop (loopNo d j)).missRun + 1) ≤ (s.missCount d j).get (R.LFC_MISSCNT.MAXRUN d) := by
  obtain ⟨hmiss, hmissl, htotal, hbefore, hmax⟩ := missFlds_apart d
  have hall := s.missCount_within d j
  have hset : s.writesWithin ((s.setB (R.LFC_STAT.MISS d) true).setI (R.LFC_STAT.MISSL d) j true)
      [R.LFC_STAT.MISS d, R.LFC_STAT.MISSL d] := ((State.writesWithin_refl s _).setB _ _ (by simp)).setI _ _ _ (by simp)
  refine ⟨?miss, ?missl, ?total, ?max⟩
  case miss =>
    have h : (s.setB (R.LFC_STAT.MISS d) true).writesWithin (s.missShown d j)
        (R.LFC_STAT.MISSL d :: R.LFC_MISSCNT.TOTAL d :: R.LFC_MISSCNT.MAXRUN d :: evFields) :=
      ((State.writesWithin_refl _ _).setI _ _ _ (by simp)).incSat _ (by simp)
    rw [(h.trans (hall.mono (by simp))).bit _ hmiss, State.bit_setB_same _ _ _ (by decide : 0 < 32) (Nat.le_refl 0)]
  case missl =>
    have h : ((s.setB (R.LFC_STAT.MISS d) true).setI (R.LFC_STAT.MISSL d) j true).writesWithin (s.missShown d j)
        (R.LFC_MISSCNT.TOTAL d :: R.LFC_MISSCNT.MAXRUN d :: evFields) :=
      (State.writesWithin_refl _ _).incSat _ (by simp)
    rw [(h.trans (hall.mono (by simp))).bitI _ hmissl, State.bitI_setI _ (by decide : 27 < 32) (by exact j.isLt), if_pos rfl]
  case total =>
    rw [hall.get _ htotal, State.missShown, State.get_incSat_same _ _ (by decide : 23 < 32), hset.get _ hbefore]
  case max =>
    rw [(s.missCount_ends d j).get _ hmax]
    exact State.le_maxRun _ d _

/-! ### The run of misses (03 R78) -/

theorem State.missRun_trip (s : State) (d j cause : Nat) :
    ((s.trip d j cause).loop (loopNo d j)).missRun = (s.loop (loopNo d j)).missRun := by
  have hloops : ∀ (t : State), (if j < 4 then t.zStopOn d j else t).loop (loopNo d j) = t.loop (loopNo d j) := by
    intro t
    split
    · rw [State.loop, State.zStopOn_loops, State.loop]
    · rfl
  rw [State.trip, hloops, State.loop_raise, State.loop_modMon, State.loop_modLoop_same]
  change (State.loop _ _).missRun = _
  rw [State.loop_set, State.loop_setI, State.loop_setI]

theorem missRun_plSample (p : PlSet) (l : Loop) (e : Int) : (plSample p l true e).1.missRun = l.missRun := by
  unfold plSample
  split <;> rfl

theorem State.missRun_missLost (s : State) (d j : Nat) (lost : Bool) :
    ((s.missLost d j lost).2.loop (loopNo d j)).missRun = (s.loop (loopNo d j)).missRun := by
  unfold State.missLost
  extract_lets ln m s1
  have h1 : (s1.loop ln).missRun = (s.loop ln).missRun := by
    rw [State.loop_modLoop_same]
    exact missRun_plSample _ _ 0
  split
  · split
    · exact h1
    · exact (s1.missRun_trip d j m.2).trans h1
  · rfl

/-- A miss beyond the limit ends in the fault of the loop. -/
theorem State.miss_beyondLimit {s : State} {d j : Nat} (h : s.missLim d j ≤ (s.loop (loopNo d j)).missRun) :
    ∃ t : State, s.miss d j = t.loopFault d j 1 := by
  unfold State.miss
  extract_lets ln lost wasDeg m
  have hrun : (m.2.loop ln).missRun = (s.loop ln).missRun + 1 :=
    (State.missRun_missLost _ d j lost).trans (s.missRun_missCount d j)
  rw [if_pos (hrun ▸ Nat.lt_succ_of_le h)]
  exact ⟨_, rfl⟩

/-- Settles O29: the counters field by field, and beyond the limit what `loopFault` leaves. -/
theorem missedSampleCountsAndKeepsTheLoop : Obligations.MissedSampleCountsAndKeepsTheLoop := by
  unfold Obligations.MissedSampleCountsAndKeepsTheLoop
  refine ⟨fun d j s => ⟨s.missRun_missCount d j, s.missCount_spec d j⟩, fun d j s _ hlim => ?_⟩
  obtain ⟨t, hfault⟩ := State.miss_beyondLimit hlim
  rw [hfault]
  exact t.loopFault_spec d j 1

end Sys2Proof.Machine
end

section
/-! The background jobs of a cluster and the feed instant of the references (03_kareo_loop_fabric.md R63, R74). -/

namespace Sys2Proof.Machine

/-! ### The earliest deadline (03 R74) -/

/-- A job goes before another: an earlier deadline, or the same one and no higher loop. -/
def jobBefore (b c : Nat × Nat) : Prop := b.2 < c.2 ∨ (b.2 = c.2 ∧ b.1 ≤ c.1)

theorem jobBefore_trans {a b c : Nat × Nat} (hab : jobBefore a b) (hbc : jobBefore b c) : jobBefore a c := by
  unfold jobBefore at *
  omega

/-- Of jobs in rising order of their loops, the one that `earliest` takes goes before all. -/
theorem earliest_spec {l : List (Nat × Nat)} (hl : l.Pairwise fun a b => a.1 < b.1) (hne : l ≠ []) :
    ∃ b, earliest l = some b ∧ b ∈ l ∧ ∀ c ∈ l, jobBefore b c := by
  induction l with
  | nil => exact absurd rfl hne
  | cons a l ih =>
    obtain ⟨hhead, htail⟩ := List.pairwise_cons.1 hl
    by_cases hnil : l = []
    · subst hnil
      exact ⟨a, rfl, List.mem_cons_self, by simp [jobBefore]⟩
    · obtain ⟨b, hb, hmem, hmin⟩ := ih htail hnil
      have hab := hhead b hmem
      by_cases hlt : b.2 < a.2
      · refine ⟨b, by simp [earliest, hb, hlt], List.mem_cons_of_mem a hmem, fun c hc => ?_⟩
        rcases List.mem_cons.1 hc with rfl | hc
        · exact .inl hlt
        · exact hmin c hc
      · have hfirst : jobBefore a b := by unfold jobBefore; omega
        refine ⟨a, by simp [earliest, hb, hlt], List.mem_cons_self, fun c hc => ?_⟩
        rcases List.mem_cons.1 hc with rfl | hc
        · exact .inr ⟨rfl, Nat.le_refl _⟩
        · exact jobBefore_trans hfirst (hmin c hc)

theorem State.releasedJobs_rising (s : State) (d : Nat) : (s.releasedJobs d).Pairwise fun a b => a.1 < b.1 := by
  unfold State.releasedJobs
  rw [List.pairwise_filterMap]
  refine List.pairwise_lt_range.imp fun {i j} hij a ha b hb => ?_
  obtain ⟨p, -, rfl⟩ := Option.map_eq_some_iff.1 ha
  obtain ⟨q, -, rfl⟩ := Option.map_eq_some_iff.1 hb
  exact hij

/-- BACKGROUND_JOB with a free array and a released job. -/
theorem execBackgroundJob_takes {d : Fin 4} {s : State} (hc : s.coreRuns = true) (hfree : (s.dom d).jobRun = none)
    {b : Nat × Nat} (hb : earliest (s.releasedJobs d) = some b) :
    exec (.backgroundJob d) s = .next (s.modDom d fun x => { x with jobRun := some b.1 }) := by
  change execBackgroundJob d s = _
  simp [execBackgroundJob, hc, hfree, hb]

theorem execBackgroundJob_idle {d : Fin 4} {s : State}
    (h : s.coreRuns = false ∨ s.releasedJobs d = [] ∨ (s.dom d).jobRun.isSome = true) : exec (.backgroundJob d) s = .next s := by
  change execBackgroundJob d s = _
  unfold execBackgroundJob
  rcases h with hc | hnil | hbusy
  · simp [hc]
  · simp [hnil, earliest]
  · obtain ⟨j, hj⟩ := Option.isSome_iff_exists.1 hbusy
    simp [hj]

/-! ### The end of a job (03 R74) -/

/-- The state in which the job of loop j has ended and the array is free. -/
def State.arrayFreed (s : State) (d j : Nat) : State :=
  ((s.jobDone d j).bumpIf (s.loopBad d j)).modDom d fun x => { x with jobRun := none }

theorem execBackgroundJobDone_ends {d : Fin 4} {j : Nat} {s : State} (hc : s.coreRuns = true) (hj : (s.dom d).jobRun = some j) :
    exec (.backgroundJobDone d) s = .next (s.arrayFreed d j).settle := by
  change execBackgroundJobDone d s = _
  simp only [execBackgroundJobDone, hc, hj, State.arrayFreed]

theorem execBackgroundJobDone_idle {d : Fin 4} {s : State} (h : s.coreRuns = false ∨ (s.dom d).jobRun = none) :
    exec (.backgroundJobDone d) s = .next s := by
  change execBackgroundJobDone d s = _
  unfold execBackgroundJobDone
  rcases h with hc | hfree
  · simp only [hc]
  · rw [hfree]
    cases s.coreRuns <;> rfl

theorem State.bumpIf_eq (s : State) (b : Bool) : s.bumpIf b = { s with freeCtr := s.freeCtr + (if b then 1 else 0) } := by
  cases b <;> rfl

theorem State.arrayFreed_spec (s : State) (d j : Nat) :
    ((s.arrayFreed d j).dom d).jobRun = none ∧ (∀ k : Nat, k ≠ d → (s.arrayFreed d j).dom k = (s.jobDone d j).dom k) ∧
      s.arrayFreed d j = { s.jobDone d j with
        doms := (s.arrayFreed d j).doms, freeCtr := (s.jobDone d j).freeCtr + (if s.loopBad d j then 1 else 0) } := by
  unfold State.arrayFreed
  rw [State.bumpIf_eq]
  generalize s.jobDone d j = t
  exact ⟨by rw [State.dom_modDom_same], fun k hk => State.dom_modDom_other _ _ hk, rfl⟩

/-! ### The feed instant (03 R63) -/

/-- The interval of a channel after a feed instant. -/
def Loop.feeds (l m : Loop) (now : Nat) : Prop := m.tk = now ∧ m.ra = l.rk ∧ m.rk = l.rNew.getD l.rk ∧ m.rNew = none

/-- The fields of a late reference and of its event. -/
abbrev feedFlds (d : Nat) : List Fld := R.LFC_STAT.REFLATE d :: evFields

/-- One channel's feed instant moves the interval of its loop, and may show and report a late reference. -/
theorem State.feedK_spec (s : State) (d k : Nat) : (s.loop (loopNo d k)).feeds ((s.feedK d k).loop (loopNo d k)) s.now ∧
    s.onlyLoopDiffers (s.feedK d k) (loopNo d k) ∧ s.writesWithin (s.feedK d k) (feedFlds d) := by
  unfold State.feedK
  extract_lets ln l s1 s2
  cases hnew : l.rNew with
  | some v =>
    refine ⟨?_, State.onlyLoopDiffers_modLoop s _ _, (State.writesWithin_refl s _).modLoop _ _⟩
    dsimp only
    rw [State.loop_modLoop_same]
    have hrk : v = l.rNew.getD l.rk := by rw [hnew]; rfl
    exact ⟨rfl, rfl, hrk, rfl⟩
  | none =>
    have hfed : l.feeds (s1.loop ln) s.now := by
      rw [State.loop_modLoop_same]
      have hrk : l.rk = l.rNew.getD l.rk := by rw [hnew]; rfl
      exact ⟨rfl, rfl, hrk, hnew⟩
    have hloop : s.onlyLoopDiffers s1 ln := State.onlyLoopDiffers_modLoop s _ _
    have hflds : s.writesWithin s1 (feedFlds d) := (State.writesWithin_refl s _).modLoop _ _
    have hlate : s.writesWithin s2 (feedFlds d) := hflds.setB _ _ (by simp)
    dsimp only
    split
    · split
      · refine ⟨?_, hloop.setB _ _, hlate⟩
        rw [State.loop_setB]
        exact hfed
      · refine ⟨?_, (hloop.setB _ _).raise _ _ _, hlate.raise _ _ _ (List.subset_cons_self _ _)⟩
        rw [State.loop_raise, State.loop_setB]
        exact hfed
    · exact ⟨hfed, hloop, hflds⟩

theorem loopNo_inj {d j k : Nat} : loopNo d j = loopNo d k ↔ j = k := by
  unfold loopNo
  omega

/-- The feed instant of the channels below n. -/
def State.feedBelow (s : State) (d n : Nat) : State := (List.range n).foldl (fun t k => t.feedK d k) s

theorem State.feedBelow_succ (s : State) (d n : Nat) : s.feedBelow d (n + 1) = (s.feedBelow d n).feedK d n := by
  simp [State.feedBelow, List.range_succ]

theorem State.feedBelow_spec (s : State) (d n : Nat) :
    (∀ k : Nat, k < n → (s.loop (loopNo d k)).feeds ((s.feedBelow d n).loop (loopNo d k)) s.now) ∧
      (∀ l : Nat, (∀ k : Nat, k < n → l ≠ loopNo d k) → (s.feedBelow d n).loop l = s.loop l) ∧
      s.writesWithin (s.feedBelow d n) (feedFlds d) ∧
      s.feedBelow d n = { s with loops := (s.feedBelow d n).loops, regs := (s.feedBelow d n).regs,
                                 fls := (s.feedBelow d n).fls, freeCtr := (s.feedBelow d n).freeCtr } := by
  induction n with
  | zero => exact ⟨fun k hk => absurd hk (Nat.not_lt_zero k), fun _ _ => rfl, State.writesWithin_refl s _, rfl⟩
  | succ n ih =>
    rw [State.feedBelow_succ]
    generalize s.feedBelow d n = t at ih
    obtain ⟨hbelow, hothers, hflds, hrest⟩ := ih
    obtain ⟨hfed, ⟨hkept, hframe⟩, hwithin⟩ := t.feedK_spec d n
    have hnow : t.now = s.now := by rw [hrest]; rfl
    refine ⟨fun k hk => ?_, fun l hl => ?_, hflds.trans hwithin, by rw [hframe, hrest]⟩
    · by_cases hkn : k = n
      · subst hkn
        rwa [hothers _ fun i hi => mt loopNo_inj.1 (by omega), hnow] at hfed
      · rw [hkept _ (mt loopNo_inj.1 hkn)]
        exact hbelow k (by omega)
    · rw [hkept l (hl n (by omega))]
      exact hothers l fun k hk => hl k (by omega)

theorem execFeedInstant_runs {s : State} (hc : s.coreRuns = true) (d : Fin 4) : exec (.feedInstant d) s = .next (s.feedBelow d 4) := by
  change execFeedInstant d s = _
  rw [execFeedInstant, if_pos hc, State.feedBelow]

theorem execFeedInstant_idle {s : State} (hc : s.coreRuns = false) (d : Fin 4) : exec (.feedInstant d) s = .next s := by
  change execFeedInstant d s = _
  simp [execFeedInstant, hc]

/-! ### The statement of R63 and R74 -/

/-- Settles O30: `earliest` takes the first of a rising list, and the channels of a feed instant follow one another. -/
theorem backgroundJobsRunEarliestDeadlineFirst : Obligations.BackgroundJobsRunEarliestDeadlineFirst := by
  unfold Obligations.BackgroundJobsRunEarliestDeadlineFirst
  refine ⟨fun d s hc hfree hne => ?takes, fun d s h => execBackgroundJob_idle h,
    fun d j s hc hj => ⟨_, execBackgroundJobDone_ends hc hj, s.arrayFreed_spec d j⟩,
    fun d s h => execBackgroundJobDone_idle h, fun d s hc => ?feeds, fun d s hc => execFeedInstant_idle hc d⟩
  case takes =>
    obtain ⟨b, hb, hmem, hmin⟩ := earliest_spec (s.releasedJobs_rising d) hne
    exact ⟨_, b, execBackgroundJob_takes hc hfree hb, hmem, hmin, State.dom_modDom_same _ _ _,
      fun k hk => State.dom_modDom_other _ _ hk, rfl⟩
  case feeds =>
    obtain ⟨hfed, hothers, hflds, hrest⟩ := s.feedBelow_spec d 4
    exact ⟨_, execFeedInstant_runs hc d, hfed, hothers, hflds.1, hrest⟩

end Sys2Proof.Machine
end

section
/-! References, the errors of the ECC and the indirect access of a cluster: what a write or a read of these registers does
(03_kareo_loop_fabric.md R63, R66 to R70). -/

namespace Sys2Proof.Machine

/-! ### References (03 R63) -/

theorem State.refWriteK_spec (s : State) (d k : Nat) (w : Word) :
    (s.refWriteK d k w).reg (R.LFC_REF.at d k) = w ∧
      (s.refWriteK d k w).loop (loopNo d k) = { s.loop (loopNo d k) with rNew := some (s32 w) } ∧
      ((s.loop (loopNo d k)).rNew.isSome = true → (s.refWriteK d k w).bit (R.LFC_STAT.REFOVW d) = true) ∧
      (∀ l : Nat, l ≠ loopNo d k → (s.refWriteK d k w).loop l = s.loop l) ∧
      (∀ a : Nat, a ≠ R.LFC_REF.at d k → a ≠ (R.LFC_STAT.REFOVW d).addr → (s.refWriteK d k w).reg a = s.reg a) ∧
      s.refWriteK d k w = { s with regs := (s.refWriteK d k w).regs, loops := (s.refWriteK d k w).loops } := by
  unfold State.refWriteK
  extract_lets ln s1 s2
  have href : R.LFC_REF.at d k ≠ (R.LFC_STAT.REFOVW d).addr := by
    simp only [R.LFC_REF.at, R.LFC_STAT.REFOVW, R.LFC_STAT.at]
    omega
  have hreg : ∀ a, a ≠ (R.LFC_STAT.REFOVW d).addr → s2.reg a = s1.reg a := by
    intro a ha
    unfold s2
    split
    · exact State.reg_set_other _ _ _ ha
    · rfl
  have hrest : s.onlyRegsDiffer s2 := by
    unfold s2
    split
    · exact (s.onlyRegsDiffer_refl.setReg _ _).setB _ _
    · exact s.onlyRegsDiffer_refl.setReg _ _
  have hloop : ∀ l, s2.loop l = s.loop l := fun l => by rw [hrest]; rfl
  refine ⟨?_, ?_, fun hwait => ?_, fun l hl => ?_, fun a ha hstat => ?_, ?_⟩
  · exact (hreg _ href).trans (State.reg_setReg_same s _ w)
  · rw [State.loop_modLoop_same, hloop]
  · change s2.bit _ = true
    unfold s2
    rw [if_pos hwait]
    exact State.bit_setB_same _ _ _ (by decide : 4 < 32) (Nat.le_refl 4)
  · rw [State.loop_modLoop_other _ _ hl, hloop]
  · exact (hreg a hstat).trans (State.reg_setReg_other s w ha)
  · rw [hrest]
    rfl

/-! ### Errors of the ECC (03 R70) -/

theorem State.lfcErr_setLfcErr (s : State) (ln sp i e : Nat) : (s.setLfcErr ln sp i e).lfcErr ln sp i = e := by
  rw [State.lfcErr, State.setLfcErr, State.loop_modLoop_same, tblGet_tblSet_same]

/-- An entry's error is a part of its loop. -/
theorem State.lfcErr_of_loop {s t : State} {ln : Nat} (h : t.loop ln = s.loop ln) (sp i : Nat) : t.lfcErr ln sp i = s.lfcErr ln sp i := by
  rw [State.lfcErr, h, State.lfcErr]

theorem State.lfcFind_none (s : State) (d j sp i : Nat) (kern : Bool) : s.lfcFind d j sp i 0 kern = s := rfl

theorem State.lfcFind_single (s : State) (d j sp i : Nat) (kern : Bool) : s.lfcFind d j sp i 1 kern = s.lfcCorrected d j sp i := rfl

theorem State.lfcFind_double (s : State) (d j sp i : Nat) (kern : Bool) : s.lfcFind d j sp i 2 kern = s.lfcDouble d j sp i kern := rfl

theorem evFields_apart_eccCor (d : Fin 4) : ∀ f ∈ evFields, apart f (R.LFC_STAT.ECCCOR d) := by
  revert d; decide

/-- A single-bit error found: the entry is clean, and ECCCOR and an event say so. -/
theorem State.lfcCorrected_spec (s : State) (d : Fin 4) (j sp i : Nat) :
    (s.lfcCorrected d j sp i).bit (R.LFC_STAT.ECCCOR d) = true ∧ (s.lfcCorrected d j sp i).lfcErr (loopNo d j) sp i = 0 ∧
      s.onlyLoopDiffers (s.lfcCorrected d j sp i) (loopNo d j) ∧
      s.writesWithin (s.lfcCorrected d j sp i) (R.LFC_STAT.ECCCOR d :: evFields) := by
  unfold State.lfcCorrected
  refine ⟨?_, ?_, ((State.onlyLoopDiffers_modLoop s _ _).setB _ _).raise _ _ _,
    (((State.writesWithin_refl s _).modLoop _ _).setB _ _ (by simp)).raise _ _ _ (List.subset_cons_self _ _)⟩
  · rw [State.bit_raise _ _ _ _ (evFields_apart_eccCor d), State.bit_setB_same _ _ _ (by decide : 5 < 32) (Nat.le_refl 5)]
  · rw [State.lfcErr_of_loop ((State.loop_raise _ _ _ _ _).trans (State.loop_setB _ _ _ _)), State.lfcErr_setLfcErr]

/-! ### The selected entry (03 R69) -/

theorem State.cidxStep_within (s : State) (d : Nat) : s.writesWithin (s.cidxStep d) [R.LFC_CIDX.ENTRY d] := by
  unfold State.cidxStep
  split
  · exact (State.writesWithin_refl s _).set _ _ (by simp)
  · exact State.writesWithin_refl s _

theorem State.cidxStep_frame (s : State) (d : Nat) : s.onlyRegsDiffer (s.cidxStep d) := by
  unfold State.cidxStep
  split
  · exact State.onlyRegsDiffer_set s _ _
  · exact s.onlyRegsDiffer_refl

theorem State.loop_cidxStep (s : State) (d l : Nat) : (s.cidxStep d).loop l = s.loop l := by
  rw [s.cidxStep_frame d]; rfl

theorem State.cidxStep_still {s : State} {d : Nat} (h : s.bit (R.LFC_CIDX.AINC d) = false) : s.cidxStep d = s := by
  simp [State.cidxStep, h]

theorem State.cidxOk_iff {s : State} {d : Nat} : s.cidxOk d = true ↔ (s.cidx d).1 < 3 ∧ (s.cidx d).2.1 < 12 ∧ (s.cidx d).2.2 < 90 := by
  simp [State.cidxOk, and_assoc]

theorem State.entry_cidxStep {s : State} {d : Nat} (hok : s.cidxOk d = true) (h : s.bit (R.LFC_CIDX.AINC d) = true) :
    (s.cidxStep d).get (R.LFC_CIDX.ENTRY d) =
      if s.get (R.LFC_CIDX.ENTRY d) = 89 then 0 else s.get (R.LFC_CIDX.ENTRY d) + 1 := by
  obtain ⟨-, -, hentry⟩ := State.cidxOk_iff.1 hok
  have hlt : s.get (R.LFC_CIDX.ENTRY d) < 90 := hentry
  rw [State.cidxStep, if_pos h, State.get_set_same _ _ _ (by decide : 6 < 32)]
  refine Nat.mod_eq_of_lt ?_
  change _ < 2 ^ 7
  split_ifs <;> omega

theorem execLfcCsRead_runs {s : State} (hc : s.coreRuns = true) (d : Fin 4) :
    exec (.lfcCsRead d) s = .next (((if s.cidxOk d then s.portFind d else s).cidxStep d).settle) := by
  change execLfcCsRead d s = _
  rw [execLfcCsRead, if_pos hc]

/-- A read that finds no error. -/
theorem execLfcCsRead_clean {d : Fin 4} {s : State} (hc : s.coreRuns = true)
    (h : s.cidxOk d = false ∨ s.lfcErr (loopNo d (s.cidx d).2.1) (s.cidx d).1 (s.cidx d).2.2 = 0) :
    exec (.lfcCsRead d) s = .next (s.cidxStep d).settle := by
  have hfind : (if s.cidxOk d then s.portFind d else s) = s := by
    rcases h with hno | herr
    · simp [hno]
    · rw [State.portFind, herr, State.lfcFind_none, ite_self]
  rw [execLfcCsRead_runs hc, hfind]

/-- A read that finds a single-bit error. -/
theorem execLfcCsRead_single {d : Fin 4} {s : State} (hc : s.coreRuns = true) (hok : s.cidxOk d = true)
    (h : s.lfcErr (loopNo d (s.cidx d).2.1) (s.cidx d).1 (s.cidx d).2.2 = 1) :
    exec (.lfcCsRead d) s = .next ((s.lfcCorrected d (s.cidx d).2.1 (s.cidx d).1 (s.cidx d).2.2).cidxStep d).settle := by
  rw [execLfcCsRead_runs hc, if_pos hok, State.portFind, h, State.lfcFind_single]

theorem entry_apart_eccCor (d : Fin 4) : ∀ f ∈ [R.LFC_CIDX.ENTRY d], apart f (R.LFC_STAT.ECCCOR d) := by
  revert d; decide

/-- A single-bit error found by a read, and the entry incremented after it. -/
theorem State.readCorrected_spec (s : State) (d : Fin 4) (j sp i : Nat) {u : State} (hu : (s.lfcCorrected d j sp i).cidxStep d = u) :
    u.bit (R.LFC_STAT.ECCCOR d) = true ∧ u.lfcErr (loopNo d j) sp i = 0 ∧
      s.onlyFields u ([R.LFC_CIDX.ENTRY d, R.LFC_STAT.ECCCOR d] ++ evFields) ∧
      u = { s with regs := u.regs, loops := u.loops, fls := u.fls, freeCtr := u.freeCtr } := by
  obtain ⟨hcor, herr, ⟨-, hframe⟩, hflds⟩ := s.lfcCorrected_spec d j sp i
  subst hu
  generalize s.lfcCorrected d j sp i = t at *
  refine ⟨?_, ?_, ?_, ?_⟩
  · rw [(t.cidxStep_within d).bit _ (entry_apart_eccCor d), hcor]
  · rw [State.lfcErr_of_loop (t.loop_cidxStep d _), herr]
  · exact ((hflds.mono (by simp)).trans ((t.cidxStep_within d).mono (by simp))).1
  · rw [t.cidxStep_frame d, hframe]

/-! ### Writes of entries (03 R66 to R70) -/

/-- Nothing but entries of banks and the loop of a number differs. -/
def State.onlyEntriesDiffer (s t : State) (l : Nat) : Prop :=
  (∀ k : Nat, k ≠ l → t.loop k = s.loop k) ∧ t = { s with coefs := t.coefs, loops := t.loops }

theorem State.onlyEntriesDiffer.modLoop {s t : State} {l : Nat} (h : s.onlyEntriesDiffer t l) (f : Loop → Loop) :
    s.onlyEntriesDiffer (t.modLoop l f) l :=
  ⟨fun k hk => (State.loop_modLoop_other t f hk).trans (h.1 k hk), by rw [h.2]; rfl⟩

theorem State.putCoef_frame (s : State) (ln : Nat) (b : Bool) (i : Nat) (c : Coef) : s.onlyEntriesDiffer (s.putCoef ln b i c) ln := by
  have hset : s.onlyEntriesDiffer (s.setCoef ln b i { c with m := entryWord i c.m }) ln := ⟨fun _ _ => rfl, rfl⟩
  exact (hset.modLoop _).modLoop _

theorem State.coef_putCoef (s : State) (ln : Nat) (b : Bool) (i : Nat) (c : Coef) :
    (s.putCoef ln b i c).coef ln b i = { c with m := entryWord i c.m } ∧
      (∀ (l k : Nat) (a : Bool), coefKey l a k ≠ coefKey ln b i → (s.putCoef ln b i c).coef l a k = s.coef l a k) :=
  ⟨tblGet_tblSet_same _ _ _ _, fun _ _ _ hk => tblGet_tblSet_other _ _ _ hk⟩

theorem State.putEntry_bank {c : Nat × Nat × Nat} (h : c.1 < 2) (s : State) (d : Nat) (m : Word) (sh : BitVec 5) :
    s.putEntry d c m sh = s.putCoef (loopNo d c.2.1) (decide (c.1 = 1)) c.2.2 { m := m, s := sh } := if_pos h

theorem State.putEntry_frame (s : State) (d : Nat) (c : Nat × Nat × Nat) (m : Word) (sh : BitVec 5) :
    s.onlyEntriesDiffer (s.putEntry d c m sh) (loopNo d c.2.1) := by
  unfold State.putEntry
  split
  · exact s.putCoef_frame _ _ _ _
  · split
    · exact ⟨fun _ _ => rfl, rfl⟩
    · have hrefl : s.onlyEntriesDiffer s (loopNo d c.2.1) := ⟨fun _ _ => rfl, rfl⟩
      exact (hrefl.modLoop _).modLoop _

/-- A write of an entry and the step of the selection after it. -/
theorem State.entryWrite_frame (s : State) (d : Nat) (c : Nat × Nat × Nat) (m : Word) (sh : BitVec 5) {t : State}
    (ht : (s.putEntry d c m sh).cidxStep d = t) :
    (∀ l : Nat, l ≠ loopNo d c.2.1 → t.loop l = s.loop l) ∧ s.onlyFields t [R.LFC_CIDX.ENTRY d] ∧
      t = { s with regs := t.regs, coefs := t.coefs, loops := t.loops } := by
  obtain ⟨hothers, hframe⟩ := s.putEntry_frame d c m sh
  subst ht
  generalize s.putEntry d c m sh = p at *
  have hregs : p.regs = s.regs := by rw [hframe]
  refine ⟨fun l hl => (p.loop_cidxStep d l).trans (hothers l hl), ?_, ?_⟩
  · exact State.onlyFields_trans_same (State.onlyFields_of_regs _ hregs) (p.cidxStep_within d).1
  · rw [p.cidxStep_frame d, hframe]

theorem State.coef_cidxStep (s : State) (d l : Nat) (b : Bool) (i : Nat) : (s.cidxStep d).coef l b i = s.coef l b i := by
  rw [s.cidxStep_frame d]; rfl

/-- LFC_CS_WRITE to an entry that it may write. -/
theorem execLfcCsWrite_legal {d : Fin 4} {s : State} (hc : s.coreRuns = true) (hok : s.cidxOk d = true) (hfree : s.csBad d = false)
    (w : Word) : exec (.lfcCsWrite d w) s = .next (s.csWrite d w) := by
  change execLfcCsWrite d w s = _
  simp [execLfcCsWrite, hc, State.csAct, hok, hfree]

/-- LFC_CS_WRITE where it is an error of the host's own making (log 4). -/
theorem execLfcCsWrite_free {d : Fin 4} {s : State} (hc : s.coreRuns = true) (h : s.cidxOk d = false ∨ s.csBad d = true) (w : Word) :
    exec (.lfcCsWrite d w) s = .next (s.csWriteFree d false) := by
  change execLfcCsWrite d w s = _
  rcases h with h | h <;> simp [execLfcCsWrite, hc, State.csAct, h]

theorem State.csWriteFree_spec (s : State) (d : Nat) (mixed : Bool) {t : State} (ht : s.csWriteFree d mixed = t) :
    s.onlyFields t [R.LFC_CIDX.ENTRY d] ∧
      t = { s with regs := t.regs, coefs := t.coefs, loops := t.loops, freeCtr := s.freeCtr + 1 } := by
  subst ht
  unfold State.csWriteFree
  extract_lets c
  obtain ⟨-, hflds, hframe⟩ := s.entryWrite_frame d c (s.freeWord (R.LFC_CM.at d)) ((s.freeWord (R.LFC_CS.at d)).setWidth 5) rfl
  generalize (s.putEntry d c _ _).cidxStep d = p at *
  refine ⟨State.onlyFields_trans_same hflds (State.onlyFields_of_regs _ rfl), ?_⟩
  rw [hframe]
  rfl

end Sys2Proof.Machine
end

section
/-! The registers of the impedance measurement and of load supervision (04_loop_nesting_and_plausibility.md R102, R104, R105), and the
statement of all register writes of a cluster. -/

namespace Sys2Proof.Machine

/-- A write that may be an error of the host's own making: the word or a free one, and in the latter case a free value counted. -/
theorem State.served_eq (s : State) (bad : Bool) (a : Nat) (w : Word) (fix : Word → Word) (f : State → Word → State) :
    s.served bad a w fix f = f (s.bumpIf bad) (if bad then fix (s.freeWord a) else w) := by
  cases bad <;> rfl

/-! ### LFC_ZCFG (04 R104, R105) -/

theorem regRow_zcfg (d : Fin 4) : regRow (R.LFC_ZCFG.at d) = some ⟨0x100, 1, 4, 1, 4, 0x3FFFFF, 0x0, 0x0, 0x80000000, 0x0⟩ := by
  revert d; decide

theorem State.get_zcfg_plainWrite (s : State) (d : Fin 4) (w : Word) :
    (s.plainWrite (R.LFC_ZCFG.at d) w).get (R.LFC_ZCFG.CH d) = fldOf w (R.LFC_ZCFG.CH d) ∧
      (s.plainWrite (R.LFC_ZCFG.at d) w).get (R.LFC_ZCFG.ZCNT d) = fldOf w (R.LFC_ZCFG.ZCNT d) := by
  have hch : ∀ i, 20 ≤ i → i ≤ 21 → (0x3FFFFF : Nat).testBit i = true := by decide
  have hcnt : ∀ i, 0 ≤ i → i ≤ 19 → (0x3FFFFF : Nat).testBit i = true := by decide
  exact ⟨State.get_plainWrite (f := R.LFC_ZCFG.CH d) (regRow_zcfg d) (by decide : 21 < 32) hch s w,
    State.get_plainWrite (f := R.LFC_ZCFG.ZCNT d) (regRow_zcfg d) (by decide : 19 < 32) hcnt s w⟩

/-- What the start of a measurement leaves: BUSY alone of the three fields, sums and phase at zero, and ZCNT samples to take. -/
theorem State.zStart_spec (s : State) (d : Nat) {t : State} (ht : s.zStart d = t) :
    t.bit (R.LFC_ZCFG.BUSY d) = true ∧ t.bit (R.LFC_ZCFG.DONE d) = false ∧ t.bit (R.LFC_ZCFG.ERR d) = false ∧
      t.get (R.LFC_ZCFG.CH d) = s.get (R.LFC_ZCFG.CH d) ∧
      t.dom d = { s.dom d with zrun := true, zopen := false, zphi := 0, zvs := 0, zvc := 0, zis := 0, zic := 0,
                               zleft := s.get (R.LFC_ZCFG.ZCNT d) } ∧
      (∀ k : Nat, k ≠ d → t.dom k = s.dom k) ∧ s.onlyRegs t [R.LFC_ZCFG.at d] ∧
      t = { s with regs := t.regs, doms := t.doms, dsu := t.dsu } := by
  subst ht
  unfold State.zStart
  extract_lets s1
  have hget : ∀ f, s1.get f = s.get f := fun _ => rfl
  have hdoms : ∀ b c e : Bool, (((s1.setB (R.LFC_ZCFG.BUSY d) b).setB (R.LFC_ZCFG.DONE d) c).setB (R.LFC_ZCFG.ERR d) e).doms =
    s1.doms := fun b c e => by rw [State.setB_doms, State.setB_doms, State.setB_doms]
  refine ⟨?busy, ?done, ?err, ?ch, ?own, fun k hk => ?other, ?regs, ?frame⟩
  case busy =>
    rw [State.bit_setB_other _ _ _ _ (by decide : 30 < 32) (.inr (.inr (by decide : 28 < 30))),
      State.bit_setB_other _ _ _ _ (by decide : 30 < 32) (.inr (.inr (by decide : 29 < 30))),
      State.bit_setB_same _ _ _ (by decide : 30 < 32) (Nat.le_refl 30)]
  case done =>
    rw [State.bit_setB_other _ _ _ _ (by decide : 29 < 32) (.inr (.inr (by decide : 28 < 29))),
      State.bit_setB_same _ _ _ (by decide : 29 < 32) (Nat.le_refl 29)]
  case err => rw [State.bit_setB_same _ _ _ (by decide : 28 < 32) (Nat.le_refl 28)]
  case ch =>
    have hch : ∀ f ∈ zEndFlds d, apart f (R.LFC_ZCFG.CH d) := by
      intro f hf
      simp only [zEndFlds, List.mem_cons, List.not_mem_nil, or_false] at hf
      rcases hf with rfl | rfl | rfl
      · exact .inr (.inl (by decide : 21 < 30))
      · exact .inr (.inl (by decide : 21 < 29))
      · exact .inr (.inl (by decide : 21 < 28))
    have hset := (((State.writesWithin_refl s1 (zEndFlds d)).setB (R.LFC_ZCFG.BUSY d) true (by simp)).setB (R.LFC_ZCFG.DONE d) false
      (by simp)).setB (R.LFC_ZCFG.ERR d) false (by simp)
    rw [hset.get _ hch, hget]
  case own =>
    rw [State.dom, hdoms]
    exact State.dom_modDom_same _ _ _
  case other =>
    rw [State.dom, hdoms]
    exact State.dom_modDom_other _ _ hk
  case regs =>
    have hrefl : s.onlyRegs s1 [R.LFC_ZCFG.at d] := fun _ _ => rfl
    have hat : R.LFC_ZCFG.at d ∈ [R.LFC_ZCFG.at d] := List.mem_singleton.2 rfl
    exact ((hrefl.set (R.LFC_ZCFG.BUSY d) _ hat).set (R.LFC_ZCFG.DONE d) _ hat).set (R.LFC_ZCFG.ERR d) _ hat
  case frame =>
    have hset : s1.onlyRegsDiffer (((s1.setB (R.LFC_ZCFG.BUSY d) true).setB (R.LFC_ZCFG.DONE d) false).setB (R.LFC_ZCFG.ERR d) false) :=
      ((s1.onlyRegsDiffer_refl.setB _ _).setB _ _).setB _ _
    generalize ((s1.setB _ _).setB _ _).setB _ _ = t at hset
    rw [hset]
    rfl

/-- The write in LFC_ZCFG starts a measurement (04 R104). -/
def State.zStarts (s : State) (d : Nat) (w : Word) : Prop :=
  fldOf w (R.LFC_ZCFG.START d) = 1 ∧ s.sys.mode = .service ∧ ¬ (s.dom d).zrun

/-- The word that LFC_ZCFG stores: of an illegal write any CH, and the rest as written (04 R105; log 4). -/
def State.zcfgWord (s : State) (d : Nat) (w : Word) : Word :=
  if s.zcfgBad d w then zcfgFix d w (s.freeWord (R.LFC_ZCFG.at d)) else w

theorem State.fldOf_zcfgWord (s : State) (d : Nat) (w : Word) {f : Fld} (hf : f.hi < 32) (hd : f.hi < 20 ∨ 21 < f.lo) :
    fldOf (s.zcfgWord d w) f = fldOf w f := by
  unfold State.zcfgWord
  split
  · exact fldOf_fldPut_other _ _ _ _ hf hd
  · rfl

theorem execImpedanceStart_runs {s : State} (hc : s.coreRuns = true) (d : Fin 4) (w : Word) : exec (.impedanceStart d w) s =
    .next ((s.bumpIf (s.zcfgBad d w)).zcfgWrite d (s.zcfgWord d w)) := by
  change execImpedanceStart d w s = _
  rw [execImpedanceStart, if_pos hc, State.served_eq, State.zcfgWord]

theorem execImpedanceStart_starts {d : Fin 4} {w : Word} {s : State} (hc : s.coreRuns = true) (h : s.zStarts d w) :
    exec (.impedanceStart d w) s = .next ((s.plainWrite (R.LFC_ZCFG.at d) w).zStart d) := by
  have hok : s.zcfgBad d w = false := by simp [State.zcfgBad, h.2.2]
  rw [execImpedanceStart_runs hc, State.zcfgWord, hok, if_neg Bool.false_ne_true, State.zcfgWrite]
  exact congrArg _ (if_pos h)

theorem execImpedanceStart_stores {d : Fin 4} {w : Word} {s : State} (hc : s.coreRuns = true) (h : ¬ s.zStarts d w) :
    exec (.impedanceStart d w) s = .next ((s.bumpIf (s.zcfgBad d w)).plainWrite (R.LFC_ZCFG.at d) (s.zcfgWord d w)) := by
  have hword : ¬ (s.bumpIf (s.zcfgBad d w)).zStarts d (s.zcfgWord d w) := by
    rw [State.zStarts, s.fldOf_zcfgWord d w (by decide : 31 < 32) (.inr (by decide : 21 < 31)), State.bumpIf_eq]
    exact h
  rw [execImpedanceStart_runs hc, State.zcfgWrite]
  exact congrArg _ (if_neg hword)

/-- A write of one register that may count a free value. -/
theorem State.plainWrite_bumpIf (s : State) (b : Bool) (a : Nat) (w : Word) : s.onlyRegs ((s.bumpIf b).plainWrite a w) [a] ∧
    (s.bumpIf b).plainWrite a w =
      { s with regs := ((s.bumpIf b).plainWrite a w).regs, freeCtr := s.freeCtr + (if b then 1 else 0) } := by
  obtain ⟨hregs, hrest⟩ := State.plainWrite_frame (s.bumpIf b) a w
  rw [State.bumpIf_eq] at *
  exact ⟨hregs, by rw [hrest]⟩

/-! ### LFC_LDCFG (04 R102, R105) -/

theorem regRow_ldcfg (d : Fin 4) : regRow (R.LFC_LDCFG.at d) = some ⟨0x074, 1, 4, 1, 4, 0xF7FF000F, 0x0, 0x0, 0x0, 0xC2100000⟩ := by
  revert d; decide

/-- The load accumulators of the channels below n cleared. -/
def State.ldCleared (s : State) (d n : Nat) : State := (List.range n).foldl (fun t k => t.modLoop (loopNo d k) ldClear) s

theorem State.ldCleared_spec (s : State) (d n : Nat) :
    (∀ k : Nat, k < n → (s.ldCleared d n).loop (loopNo d k) = ldClear (s.loop (loopNo d k))) ∧
      (∀ l : Nat, (∀ k : Nat, k < n → l ≠ loopNo d k) → (s.ldCleared d n).loop l = s.loop l) ∧
      s.ldCleared d n = { s with loops := (s.ldCleared d n).loops } := by
  induction n with
  | zero => exact ⟨fun k hk => absurd hk (Nat.not_lt_zero k), fun _ _ => rfl, rfl⟩
  | succ n ih =>
    have hstep : s.ldCleared d (n + 1) = (s.ldCleared d n).modLoop (loopNo d n) ldClear := by
      simp [State.ldCleared, List.range_succ]
    rw [hstep]
    generalize s.ldCleared d n = t at ih
    obtain ⟨hbelow, hothers, hrest⟩ := ih
    refine ⟨fun k hk => ?_, fun l hl => ?_, by rw [hrest]; rfl⟩
    · by_cases hkn : k = n
      · subst hkn
        rw [State.loop_modLoop_same, hothers _ fun i hi => mt loopNo_inj.1 (by omega)]
      · rw [State.loop_modLoop_other _ _ (mt loopNo_inj.1 hkn)]
        exact hbelow k (by omega)
    · rw [State.loop_modLoop_other _ _ (hl n (by omega))]
      exact hothers l fun k hk => hl k (by omega)

/-- The word that LFC_LDCFG stores: of an illegal write any legal LW and LDI and any QMIN, and LDEN as written (04 R105; log 4). -/
def State.ldcfgWord (s : State) (d : Nat) (w : Word) : Word :=
  if s.ldcfgBad d w then ldcfgFix d w (s.freeWord (R.LFC_LDCFG.at d)) else w

theorem State.lden_ldcfgWord (s : State) (d : Nat) (w : Word) :
    fldOf (s.ldcfgWord d w) (R.LFC_LDCFG.LDEN d) = fldOf w (R.LFC_LDCFG.LDEN d) := by
  unfold State.ldcfgWord
  split
  · rw [ldcfgFix, fldOf_fldPut_other _ _ _ _ (by decide : 3 < 32) (.inl (by decide : 3 < 16)),
      fldOf_fldPut_other _ _ _ _ (by decide : 3 < 32) (.inl (by decide : 3 < 24)),
      fldOf_fldPut_other _ _ _ _ (by decide : 3 < 32) (.inl (by decide : 3 < 28))]
  · rfl

theorem State.ldcfgWrite_eq (s : State) (d : Nat) (w : Word) :
    s.ldcfgWrite d w = (s.plainWrite (R.LFC_LDCFG.at d) w).ldCleared d 4 := rfl

theorem execLdenWrite_runs {d : Fin 4} {s : State} (hc : s.coreRuns = true) (w : Word) : exec (.ldenWrite d w) s =
    .next (((s.bumpIf (s.ldcfgBad d w)).plainWrite (R.LFC_LDCFG.at d) (s.ldcfgWord d w)).ldCleared d 4) := by
  change execLdenWrite d w s = _
  rw [execLdenWrite, if_pos hc, State.served_eq, State.ldcfgWrite_eq, State.ldcfgWord]

theorem State.ldcfgWrite_spec (s : State) (d : Fin 4) (b : Bool) (w : Word) {t : State}
    (ht : ((s.bumpIf b).plainWrite (R.LFC_LDCFG.at d) w).ldCleared d 4 = t) :
    (∀ k : Nat, k < 4 → t.loop (loopNo d k) = ldClear (s.loop (loopNo d k))) ∧
      (∀ l : Nat, (∀ k : Nat, k < 4 → l ≠ loopNo d k) → t.loop l = s.loop l) ∧
      t.get (R.LFC_LDCFG.LDEN d) = fldOf w (R.LFC_LDCFG.LDEN d) ∧ s.onlyRegs t [R.LFC_LDCFG.at d] ∧
      t = { s with regs := t.regs, loops := t.loops, freeCtr := s.freeCtr + (if b then 1 else 0) } := by
  have hbits : ∀ i, 0 ≤ i → i ≤ 3 → (0xF7FF000F : Nat).testBit i = true := by decide
  have hlden := State.get_plainWrite (f := R.LFC_LDCFG.LDEN d) (regRow_ldcfg d) (by decide : 3 < 32) hbits (s.bumpIf b) w
  obtain ⟨hregs, hrest⟩ := s.plainWrite_bumpIf b (R.LFC_LDCFG.at d) w
  change ((s.bumpIf b).plainWrite (R.LFC_LDCFG.at d) w).get _ = _ at hlden
  subst ht
  generalize (s.bumpIf b).plainWrite (R.LFC_LDCFG.at d) w = p at *
  obtain ⟨hcleared, hothers, hloops⟩ := p.ldCleared_spec d 4
  have hloop : ∀ l, p.loop l = s.loop l := fun l => by rw [hrest]; rfl
  generalize p.ldCleared d 4 = t at *
  have hreg : ∀ a, t.reg a = p.reg a := fun a => by rw [hloops]; rfl
  refine ⟨fun k hk => by rw [hcleared k hk, hloop], fun l hl => by rw [hothers l hl, hloop], ?_, fun a ha => ?_, ?_⟩
  · rw [State.get, hreg]
    exact hlden
  · rw [hreg, hregs a ha]
  · rw [hloops, hrest]

/-! ### A core that does not run -/

theorem execFabricRegisters_idle {s : State} (hc : s.coreRuns = false) (d k : Fin 4) (w : Word) :
    exec (.lfcRefWrite d k w) s = .next s ∧ exec (.lfcCmWrite d w) s = .next s ∧ exec (.lfcCsWrite d w) s = .next s ∧
      exec (.lfcCsRead d) s = .next s ∧ exec (.impedanceStart d w) s = .next s ∧ exec (.ldenWrite d w) s = .next s := by
  change execLfcRefWrite d k w s = _ ∧ execLfcCmWrite d w s = _ ∧ execLfcCsWrite d w s = _ ∧ execLfcCsRead d s = _ ∧
    execImpedanceStart d w s = _ ∧ execLdenWrite d w s = _
  simp [execLfcRefWrite, execLfcCmWrite, execLfcCsWrite, execLfcCsRead, execImpedanceStart, execLdenWrite, hc]

/-! ### The statement of R63, R69, R102, R104 and R105 -/

theorem execLfcRefWrite_runs {s : State} (hc : s.coreRuns = true) (d k : Fin 4) (w : Word) :
    exec (.lfcRefWrite d k w) s = .next (s.refWriteK d k w) := by
  change execLfcRefWrite d k w s = _
  rw [execLfcRefWrite, if_pos hc]

theorem execLfcCmWrite_runs {s : State} (hc : s.coreRuns = true) (d : Fin 4) (w : Word) :
    exec (.lfcCmWrite d w) s = .next (s.cmWrite d w) := by
  change execLfcCmWrite d w s = _
  rw [execLfcCmWrite, if_pos hc]

/-- Settles O31: each write ends in its own function of the fabric, an illegal one in the same function of a free word. -/
theorem fabricRegisterWritesAndReads : Obligations.FabricRegisterWritesAndReads := by
  unfold Obligations.FabricRegisterWritesAndReads
  refine ⟨fun d k w s hc => ⟨_, execLfcRefWrite_runs hc d k w, s.refWriteK_spec d k w⟩,
    fun d w s hc => ⟨_, execLfcCmWrite_runs hc d w, State.dom_modDom_same _ _ _, fun k hk => State.dom_modDom_other _ _ hk, rfl⟩,
    fun d w s hc hok hfree hbank => ?entry, fun d w s hc h => ⟨_, execLfcCsWrite_free hc h w, s.csWriteFree_spec d false rfl⟩,
    fun d s hc h => ⟨_, execLfcCsRead_clean hc h, State.cidxStep_still, fun hok => State.entry_cidxStep hok,
      (s.cidxStep_within d).1, s.cidxStep_frame d⟩,
    fun d s hc hok h => ⟨_, execLfcCsRead_single hc hok h, s.readCorrected_spec d _ _ _ rfl⟩,
    fun d w s hc hstart hmode hidle => ?starts, fun d w s hc h => ?stores,
    fun d w s hc => ?load, fun d k w s hc => execFabricRegisters_idle hc d k w⟩
  case entry =>
    obtain ⟨hothers, hflds, hframe⟩ := s.entryWrite_frame d (s.cidx d) (s.dom d).cmHold (w.setWidth 5) rfl
    have hcoef : ∀ (l i : Nat) (b : Bool), (s.csWrite d w).coef l b i = (s.putCoef (loopNo d (s.cidx d).2.1)
        (decide ((s.cidx d).1 = 1)) (s.cidx d).2.2 { m := (s.dom d).cmHold, s := w.setWidth 5 }).coef l b i := fun l i b => by
      rw [State.csWrite, State.coef_cidxStep, State.putEntry_bank hbank]
    obtain ⟨hentry, hkept⟩ := s.coef_putCoef (loopNo d (s.cidx d).2.1) (decide ((s.cidx d).1 = 1)) (s.cidx d).2.2
      { m := (s.dom d).cmHold, s := w.setWidth 5 }
    exact ⟨_, execLfcCsWrite_legal hc hok hfree w, (hcoef _ _ _).trans hentry, fun l i b hk => (hcoef l i b).trans (hkept l i b hk),
      hothers, hflds, hframe⟩
  case starts =>
    have hstarts : s.zStarts d w := ⟨hstart, hmode, by simp [hidle]⟩
    obtain ⟨hch, hcnt⟩ := s.get_zcfg_plainWrite d w
    obtain ⟨hkept, hrest⟩ := State.plainWrite_frame s (R.LFC_ZCFG.at d) w
    have hexec := execImpedanceStart_starts hc hstarts
    generalize s.plainWrite (R.LFC_ZCFG.at d) w = p at *
    obtain ⟨hbusy, hdone, herr, hsame, hown, hother, hregs, hframe⟩ := p.zStart_spec d rfl
    have hdom : ∀ k, p.dom k = s.dom k := fun k => by rw [hrest]; rfl
    refine ⟨_, hexec, hbusy, hdone, herr, hsame.trans hch, ?_⟩
    rw [hown]
    exact ⟨rfl, rfl, rfl, rfl, rfl, rfl, hcnt, fun k hk => (hother k hk).trans (hdom k),
      fun a ha => (hregs a ha).trans (hkept a ha), by rw [hframe, hrest]⟩
  case stores =>
    have hno : ¬ s.zStarts d w := fun ⟨h1, h2, h3⟩ => by
      rcases h with h | h | h
      · omega
      · exact h h2
      · exact h3 h
    obtain ⟨hch, hcnt⟩ := (s.bumpIf (s.zcfgBad d w)).get_zcfg_plainWrite d (s.zcfgWord d w)
    refine ⟨_, execImpedanceStart_stores hc hno, hcnt.trans ?_, fun hok => hch.trans ?_, s.plainWrite_bumpIf _ _ _⟩
    · exact s.fldOf_zcfgWord d w (by decide : 19 < 32) (.inl (by decide : 19 < 20))
    · rw [State.zcfgWord, hok, if_neg Bool.false_ne_true]
  case load =>
    obtain ⟨hcleared, hothers, hlden, hregs, hframe⟩ := s.ldcfgWrite_spec d (s.ldcfgBad d w) (s.ldcfgWord d w) rfl
    exact ⟨_, execLdenWrite_runs hc w, hcleared, hothers, hlden.trans (s.lden_ldcfgWord d w), hregs, hframe⟩

end Sys2Proof.Machine
end

section
/-! Bank swaps and the scrub (03_kareo_loop_fabric.md R70, R78, R81, R82). -/

namespace Sys2Proof.Machine

/-! ### Swaps (03 R81, R82) -/

/-- The inactive bank of a loop is unusable (03 R70). -/
abbrev State.otherBankBad (s : State) (d j : Nat) : Bool := (s.loop (loopNo d j)).bankBad.getLsbD (b2n (!s.actBank d j))

section
variable {s : State} {d j : Nat}

theorem State.swapLoop_unusable (hb : s.otherBankBad d j = true) (t : Option Nat) : s.swapLoop d j t = s := by
  simp [State.swapLoop, hb]

theorem State.swapLoop_stopped (hb : s.otherBankBad d j = false) (hr : s.running d j = false) (t : Option Nat) :
    s.swapLoop d j t = s.setI (R.LFC_BANK.ACT d) j (!s.actBank d j) := by
  simp [State.swapLoop, hb, hr]

theorem State.swapLoop_pends (hb : s.otherBankBad d j = false) (hr : s.running d j = true)
    (hp : s.bitI (R.LFC_BANK.PEND d) j = false) (t : Option Nat) :
    s.swapLoop d j t = (s.setI (R.LFC_BANK.PEND d) j true).modLoop (loopNo d j) fun l => { l with swapT := t } := by
  simp [State.swapLoop, hb, hr, hp]

theorem State.swapLoop_twice (hb : s.otherBankBad d j = false) (hr : s.running d j = true)
    (hp : s.bitI (R.LFC_BANK.PEND d) j = true) (t : Option Nat) : s.swapLoop d j t = s.setB (R.LFC_STAT.SWPDUP d) true := by
  simp [State.swapLoop, hb, hr, hp]

end

/-- Where LFC_SWAP of one loop takes effect: at once or at the next job, or for a group from the boundary of R82 on. -/
def State.swapTime (s : State) (d : Nat) (group : Bool) : Option Nat := if group then some (s.swapBoundary d s.now) else none

/-- A mask of one loop asks for the swap of that loop alone. -/
theorem State.swapWrite_one (s : State) (d : Nat) (j : Fin 12) (group : Bool) :
    s.swapWrite d (1#12 <<< j.val).toNat group = s.swapLoop d j (s.swapTime d group) := by
  have hone : (List.range 12).filter (fun k => (1#12 <<< j.val).toNat.testBit k) = [j.val] := by
    revert j; decide
  rw [State.swapWrite, ← List.foldl_filter, hone]
  rfl

/-- SINGLE_SWAP and GROUP_SWAP of one loop. -/
theorem execSwaps_one {s : State} (hc : s.coreRuns = true) (d : Fin 4) (j : Fin 12) :
    exec (.singleSwap d (1#12 <<< j.val)) s = .next (s.swapLoop d j (s.swapTime d false)) ∧
      exec (.groupSwap d (1#12 <<< j.val)) s = .next (s.swapLoop d j (s.swapTime d true)) := by
  change execSingleSwap d _ s = _ ∧ execGroupSwap d _ s = _
  rw [execSingleSwap, execGroupSwap, if_pos hc, if_pos hc, State.swapWrite_one, State.swapWrite_one]
  exact ⟨rfl, rfl⟩

/-- SINGLE_SWAP and GROUP_SWAP in a core that does not run. -/
theorem execSwaps_idle {s : State} (hc : s.coreRuns = false) (d : Fin 4) (m : BitVec 12) :
    exec (.singleSwap d m) s = .next s ∧ exec (.groupSwap d m) s = .next s := by
  change execSingleSwap d m s = _ ∧ execGroupSwap d m s = _
  simp [execSingleSwap, execGroupSwap, hc]

theorem State.actToggled_spec (s : State) (d : Nat) (j : Fin 12) {t : State}
    (ht : s.setI (R.LFC_BANK.ACT d) j (!s.actBank d j) = t) :
    t.actBank d j = !s.actBank d j ∧ (∀ k : Nat, k < 12 → k ≠ j → t.actBank d k = s.actBank d k) ∧
      s.onlyFields t [R.LFC_BANK.ACT d] ∧ s.onlyRegsDiffer t := by
  subst ht
  have hbit := State.bitI_setI s (f := R.LFC_BANK.ACT d) (by decide : 11 < 32) (i := j) (by exact j.isLt) (!s.actBank d j)
  exact ⟨(hbit j).trans (if_pos rfl), fun k _ hk => (hbit k).trans (if_neg hk), State.onlyFields_setI _ _ _ _,
    State.onlyRegsDiffer_set _ _ _⟩

theorem State.swapPended_spec (s : State) (d : Nat) (j : Fin 12) (o : Option Nat) {t : State}
    (ht : ((s.setI (R.LFC_BANK.PEND d) j true).modLoop (loopNo d j) fun l => { l with swapT := o }) = t) :
    t.bitI (R.LFC_BANK.PEND d) j = true ∧ (t.loop (loopNo d j)).swapT = o ∧ (∀ l : Nat, l ≠ loopNo d j → t.loop l = s.loop l) ∧
      s.onlyFields t [R.LFC_BANK.PEND d] ∧ t = { s with regs := t.regs, loops := t.loops } := by
  subst ht
  have hbit := State.bitI_setI s (f := R.LFC_BANK.PEND d) (by decide : 27 < 32) (i := j) (by exact j.isLt) true j
  have hflds := State.onlyFields_setI s (R.LFC_BANK.PEND d) j true
  have hrest : s.onlyRegsDiffer (s.setI (R.LFC_BANK.PEND d) j true) := State.onlyRegsDiffer_set _ _ _
  generalize s.setI (R.LFC_BANK.PEND d) j true = p at *
  have hkept : p.writesWithin (p.modLoop (loopNo d j) fun l => { l with swapT := o }) [] := (State.writesWithin_refl p []).modLoop _ _
  refine ⟨(hkept.bitI _ (by simp) j).trans (hbit.trans (if_pos rfl)), by rw [State.loop_modLoop_same], fun l hl => ?_,
    State.onlyFields_trans_same hflds (State.onlyFields_of_regs _ (State.modLoop_regs _ _ _)), by rw [hrest]; rfl⟩
  exact (State.loop_modLoop_other p _ hl).trans ((hrest.fls.oneLoop _).1 l hl)

/-! ### The scrub (03 R70, R78) -/

theorem execLfcScrub_runs {s : State} (hc : s.coreRuns = true) (d : Fin 4) (j : Fin 12) (sp : LfcSpace) (i : Fin 90) (f : EccFound) :
    exec (.lfcScrub d j sp i f) s =
      .next (s.lfcFind d j (spaceCode sp) i (eccJoin (s.lfcErr (loopNo d j) (spaceCode sp) i) f) false).settle := by
  change execLfcScrub d j sp i f s = _
  rw [execLfcScrub, if_pos hc]

/-- A double-bit error found, whatever error the entry had. -/
theorem execLfcScrub_double {s : State} (hc : s.coreRuns = true) (d : Fin 4) (j : Fin 12) (sp : LfcSpace) (i : Fin 90) :
    exec (.lfcScrub d j sp i .double) s = .next (s.lfcDouble d j (spaceCode sp) i false).settle := by
  rw [execLfcScrub_runs hc, eccJoin, State.lfcFind_double]

theorem execLfcScrub_idle {s : State} (hc : s.coreRuns = false) (d : Fin 4) (j : Fin 12) (sp : LfcSpace) (i : Fin 90) (f : EccFound) :
    exec (.lfcScrub d j sp i f) s = .next s := by
  change execLfcScrub d j sp i f s = _
  simp [execLfcScrub, hc]

/-- A double-bit error kept, shown in ECCERR and reported. -/
def State.doubleShown (s : State) (d j sp i : Nat) : State :=
  ((s.setLfcErr (loopNo d j) sp i 2).setB (R.LFC_STAT.ECCERR d) true).raise 0x0304 2 (le 1 (loopNo d j) ++ le 1 sp ++ le 1 i)

theorem evFields_apart_eccErr (d : Fin 4) : ∀ f ∈ evFields, apart f (R.LFC_STAT.ECCERR d) := by
  revert d; decide

theorem State.doubleShown_spec (s : State) (d : Fin 4) (j sp i : Nat) :
    (s.doubleShown d j sp i).bit (R.LFC_STAT.ECCERR d) = true ∧ s.onlyLoopDiffers (s.doubleShown d j sp i) (loopNo d j) ∧
      s.writesWithin (s.doubleShown d j sp i) (R.LFC_STAT.ECCERR d :: evFields) := by
  unfold State.doubleShown
  refine ⟨?_, ((State.onlyLoopDiffers_modLoop s _ _).setB _ _).raise _ _ _,
    (((State.writesWithin_refl s _).modLoop _ _).setB _ _ (by simp)).raise _ _ _ (List.subset_cons_self _ _)⟩
  rw [State.bit_raise _ _ _ _ (evFields_apart_eccErr d), State.bit_setB_same _ _ _ (by decide : 6 < 32) (Nat.le_refl 6)]

/-- A space is the inactive bank, or its double-bit errors fault the loop. -/
theorem inactive_iff (act : Bool) (sp : LfcSpace) :
    spaceCode sp = b2n (!act) ↔ ¬ (spaceCode sp = 2 ∨ act = decide (spaceCode sp = 1) ∨ false = true) := by
  cases act <;> cases sp <;> decide

theorem State.lfcDouble_inactive {s : State} {d j : Nat} {sp : LfcSpace} (h : spaceCode sp = b2n (!s.actBank d j)) (i : Nat) :
    s.lfcDouble d j (spaceCode sp) i false = (s.doubleShown d j (spaceCode sp) i).modLoop (loopNo d j) fun l =>
      { l with bankBad := l.bankBad ||| (1#2 <<< spaceCode sp), bankFill := tblErase l.bankFill (spaceCode sp) } :=
  if_neg ((inactive_iff _ _).1 h)

theorem State.lfcDouble_faults {s : State} {d j : Nat} {sp : LfcSpace} (h : spaceCode sp ≠ b2n (!s.actBank d j)) (i : Nat) :
    s.lfcDouble d j (spaceCode sp) i false = (s.doubleShown d j (spaceCode sp) i).loopFault d j 2 :=
  if_pos (not_not.1 (mt (inactive_iff _ _).2 h))

/-- A double-bit error in the inactive bank: the bank is unusable, and the loop goes on. -/
theorem State.scrubInactive_spec {s : State} {d : Fin 4} {j : Fin 12} {sp : LfcSpace} (h : spaceCode sp = b2n (!s.actBank d j)) (i : Nat)
    {u : State} (hu : s.lfcDouble d j (spaceCode sp) i false = u) :
    u.bit (R.LFC_STAT.ECCERR d) = true ∧ (u.loop (loopNo d j)).bankBad.getLsbD (spaceCode sp) = true ∧
      (∀ l : Nat, l ≠ loopNo d j → u.loop l = s.loop l) ∧ s.onlyFields u (R.LFC_STAT.ECCERR d :: evFields) ∧
      u = { s with regs := u.regs, fls := u.fls, freeCtr := u.freeCtr, loops := u.loops } := by
  obtain ⟨herr, hloop, hflds⟩ := s.doubleShown_spec d j (spaceCode sp) i
  have hlt : spaceCode sp < 2 := by rw [h]; cases s.actBank d j <;> decide
  rw [State.lfcDouble_inactive h] at hu
  subst hu
  generalize s.doubleShown d j (spaceCode sp) i = t at *
  obtain ⟨hothers, hframe⟩ := hloop.modLoop fun l =>
    { l with bankBad := l.bankBad ||| (1#2 <<< spaceCode sp), bankFill := tblErase l.bankFill (spaceCode sp) }
  refine ⟨herr, ?_, hothers, (hflds.modLoop _ _).1, hframe⟩
  rw [State.loop_modLoop_same]
  simp [hlt]

theorem faultFlds_apart_eccErr (d : Fin 4) : ∀ f ∈ R.LFC_FAULT.LF d :: faultFlds d, apart f (R.LFC_STAT.ECCERR d) := by
  revert d; decide

/-- A double-bit error in the active bank or in the state memory faults the loop, and stays shown. -/
theorem State.scrubFaults_spec {s : State} {d : Fin 4} {j : Fin 12} {sp : LfcSpace} (h : spaceCode sp ≠ b2n (!s.actBank d j)) (i : Nat)
    {u : State} (hu : s.lfcDouble d j (spaceCode sp) i false = u) :
    u.bit (R.LFC_STAT.ECCERR d) = true ∧ u.bitI (R.LFC_FAULT.LF d) j = true ∧ u.running d j = false := by
  obtain ⟨herr, -, -⟩ := s.doubleShown_spec d j (spaceCode sp) i
  rw [State.lfcDouble_faults h] at hu
  subst hu
  generalize s.doubleShown d j (spaceCode sp) i = t at *
  have hset : t.writesWithin (t.setI (R.LFC_FAULT.LF d) j true) (R.LFC_FAULT.LF d :: faultFlds d) :=
    (State.writesWithin_refl t _).setI _ _ _ (by simp)
  have hall := hset.trans ((t.loopFault_within d j 2).mono (List.subset_cons_self _ _))
  exact ⟨(hall.bit _ (faultFlds_apart_eccErr d)).trans herr, t.loopFault_spec d j 2⟩

/-! ### The statement of R70, R78, R81 and R82 -/

/-- Settles O32: a mask of one loop is one `swapLoop`, and a scrub finds what `eccJoin` gives. -/
theorem bankSwapsAndTheScrub : Obligations.BankSwapsAndTheScrub := by
  unfold Obligations.BankSwapsAndTheScrub
  refine ⟨fun d j s hc hb hr => ?stopped, fun d j s hc hb hr hp => ?pends, fun d j s hc hb hr hp => ?twice,
    fun d j s hb => ?unusable, fun d j sp i s hc hclean => ?clean, fun d j sp i s hc hclean => ?single,
    fun d j sp i s hc hsp => ?inactive, fun d j sp i s hc hsp => ?faults,
    fun d j sp i f m s hc => ⟨execLfcScrub_idle hc d j sp i f, execSwaps_idle hc d m⟩⟩
  case stopped =>
    obtain ⟨hsingle, hgroup⟩ := execSwaps_one hc d j
    rw [State.swapLoop_stopped hb hr] at hsingle hgroup
    exact ⟨_, hsingle, hgroup, s.actToggled_spec d j rfl⟩
  case pends =>
    obtain ⟨hsingle, hgroup⟩ := execSwaps_one hc d j
    rw [State.swapLoop_pends hb hr hp] at hsingle hgroup
    obtain ⟨hpend, htime, hothers, hflds, hframe⟩ := s.swapPended_spec d j (s.swapTime d false) rfl
    obtain ⟨hpend', htime', hothers', hflds', hframe'⟩ := s.swapPended_spec d j (s.swapTime d true) rfl
    exact ⟨_, _, hsingle, hgroup, hpend, hpend', htime, htime', fun l hl => ⟨hothers l hl, hothers' l hl⟩, hflds, hflds', hframe, hframe'⟩
  case twice =>
    obtain ⟨hsingle, hgroup⟩ := execSwaps_one hc d j
    rw [State.swapLoop_twice hb hr hp] at hsingle hgroup
    exact ⟨_, hsingle, hgroup, State.bit_setB_same _ _ _ (by decide : 7 < 32) (Nat.le_refl 7), State.onlyFields_setB _ _ _,
      State.onlyRegsDiffer_set _ _ _⟩
  case unusable =>
    by_cases hc : s.coreRuns = true
    · obtain ⟨hsingle, hgroup⟩ := execSwaps_one hc d j
      rw [State.swapLoop_unusable hb] at hsingle hgroup
      exact ⟨hsingle, hgroup⟩
    · exact execSwaps_idle (Bool.eq_false_of_not_eq_true hc) d _
  case clean =>
    rw [execLfcScrub_runs hc, hclean, eccJoin, State.lfcFind_none]
  case single =>
    have hexec := execLfcScrub_runs hc d j sp i .single
    rw [hclean, eccJoin, State.lfcFind_single] at hexec
    obtain ⟨hcor, hfixed, ⟨hothers, hframe⟩, hflds⟩ := s.lfcCorrected_spec d j (spaceCode sp) i
    exact ⟨_, hexec, hcor, hfixed, hothers, hflds.1, hframe⟩
  case inactive => exact ⟨_, execLfcScrub_double hc d j sp i, State.scrubInactive_spec hsp i rfl⟩
  case faults => exact ⟨_, execLfcScrub_double hc d j sp i, State.scrubFaults_spec hsp i rfl⟩

end Sys2Proof.Machine
end

section
/-! The freeze monitor of a loop: what a sample that enters does to its count and its kept sample, and when it trips
(04_loop_nesting_and_plausibility.md R93, R94, R96). -/

namespace Sys2Proof.Machine

/-! ### A sample that enters (04 R93, R94, R96) -/

/-- A sample that is not blanked enters both monitors, and is the one kept for the next to compare with. -/
theorem plEnter_unblanked (p : PlSet) {l : Loop} (hb : l.blank = 0) (e : Int) :
    plEnter p l e =
      { l with
        exWin := (exceeds p e :: l.exWin).take p.nwin
        frzCnt := if l.haveLast = true ∧ l.y = l.lastY ∧ p.fmot ≤ ((l.yp - l.lastYp).natAbs : Int) then l.frzCnt + 1 else 0
        lastY := l.y, lastYp := l.yp, haveLast := true } := by
  simp [plEnter, hb, and_assoc]

/-- The count of lost samples is not read when a sample enters, and stays. -/
theorem plEnter_lostCnt (p : PlSet) (l : Loop) (n : Nat) (e : Int) :
    plEnter p { l with lostCnt := n } e = { plEnter p l e with lostCnt := n } := by
  unfold plEnter
  split <;> rfl

/-- The causes of a trip on a sample that enters: the freeze monitor comes before the innovation monitor. -/
theorem plSample_entering {p : PlSet} {l : Loop} (hen : p.en = true) (hb : l.blank = 0) (e : Int) :
    (plSample p l false e).2 =
      if p.frzn ≠ 0 ∧ p.frzn ≤ (plEnter p l e).frzCnt then 2
      else if p.nwin ≠ 0 ∧ p.mexc ≤ ((plEnter p l e).exWin.filter id).length then 1 else 0 := by
  simp only [plSample, hen, plEnter_lostCnt]
  simp [hb]

/-- No other monitor has cause 2, so cause 2 tells a trip of the freeze monitor. -/
theorem plSample_frozen_iff {p : PlSet} {l : Loop} (hen : p.en = true) (hb : l.blank = 0) (e : Int) :
    (plSample p l false e).2 = 2 ↔ p.frzn ≠ 0 ∧ p.frzn ≤ (plEnter p l e).frzCnt := by
  rw [plSample_entering hen hb]
  by_cases htrip : p.frzn ≠ 0 ∧ p.frzn ≤ (plEnter p l e).frzCnt
  · simp [htrip]
  · rw [if_neg htrip]
    refine iff_of_false ?_ htrip
    split <;> decide

/-! ### The statement of R94 -/

/-- Settles O33: an entering sample counts or clears and is kept, and cause 2 is the freeze monitor's alone. -/
theorem freezeMonitorComparesEnteringSamples : Obligations.FreezeMonitorComparesEnteringSamples := by
  unfold Obligations.FreezeMonitorComparesEnteringSamples
  refine ⟨fun p l e hb => ?enters, fun p l e hen hb => plSample_frozen_iff hen hb e, fun s d j => ?threshold⟩
  case enters =>
    rw [plEnter_unblanked p hb]
    exact ⟨rfl, rfl, rfl, rfl⟩
  case threshold => rfl

end Sys2Proof.Machine
end

section
/-! The planner of a profile generator: the stop point, the jerk picked and the move taken (05_rail_tracking.md R118 to R120). -/

namespace Sys2Proof.Machine

/-! ### Stop points (05 R119) -/

/-- The way to a usable stop point, followed from a state reached at velocities up to `vmax`, passes Vd nowhere. -/
theorem stopLoop_vmax_le {q : Quanta} {n : Nat} {p v a vmax q1 : Int} (h : stopLoop q n p v a vmax = some q1) :
    vmax ≤ q.vd := by
  induction n generalizing p v a vmax with
  | zero => simp [stopLoop] at h
  | succ n ih =>
    rw [stopLoop] at h
    split at h
    case isTrue =>
      split at h
      · assumption
      · contradiction
    case isFalse =>
      dsimp only at h
      split at h
      · contradiction
      · exact (le_max_left _ _).trans (ih h)

/-- A state with a usable stop point has its velocity within Vd. -/
theorem stopPoint_velocity_le {q : Quanta} {p v a q1 : Int} (h : stopPoint q p v a = some q1) : v ≤ q.vd :=
  stopLoop_vmax_le h

/-! ### The jerk picked (05 R120) -/

theorem jerkOk_iff {q : Quanta} {p v a tt j : Int} :
    jerkOk q p v a tt j = true ↔ ((a + j).natAbs : Int) ≤ q.n * q.j ∧
      ∃ q1 : Int, stopPoint q (p + (v + (a + j))) (v + (a + j)) (a + j) = some q1 ∧ q1 ≤ tt := by
  cases hstop : stopPoint q (p + (v + (a + j))) (v + (a + j)) (a + j) <;> simp [jerkOk, hstop]

/-- A jerk picked is one of the three candidates, and one that may be taken. -/
theorem pickJerk_some {q : Quanta} {p v a tt j : Int} (h : pickJerk q p v a tt = some j) :
    (j = q.j ∨ j = 0 ∨ j = -q.j) ∧ jerkOk q p v a tt j = true := by
  have hfind : [q.j, 0, -q.j].find? (jerkOk q p v a tt) = some j := by
    unfold pickJerk at h
    split at h
    · split at h
      · exact h
      · contradiction
    · contradiction
  exact ⟨by simpa using List.mem_of_find?_eq_some hfind, List.find?_some hfind⟩

/-! ### A step of the planner (05 R120) -/

/-- The state after a step of an upward leg with a jerk picked. -/
theorem planStep_upward {q : Quanta} {s : Plan} {t j : Int} (hdir : s.dir = 1) (hpick : pickJerk q s.p s.v s.a t = some j)
    (brake : Bool) :
    planStep q s t brake =
      ({ p := s.p + (s.v + (s.a + j)), v := s.v + (s.a + j), a := s.a + j
         dir := if s.v + (s.a + j) = 0 ∧ s.a + j = 0 then 0 else 1 }, false) := by
  simp [planStep, planMove, hdir, hpick]

/-- At rest within the rest band the planner does not move, and BRAKE keeps its value. -/
theorem planStep_restBand {q : Quanta} {s : Plan} {t : Int} (hrest : s.dir = 0)
    (hband : ((t - s.p).natAbs : Int) < 2 * q.j) (brake : Bool) : planStep q s t brake = (s, brake) := by
  rw [planStep, if_pos hrest, if_pos hband]

/-! ### The statement of R118 to R120 -/

/-- Settles O35: a jerk picked has passed the tests of `jerkOk`, and the stop point that it leaves bounds the velocity too. -/
theorem plannerStaysWithinItsQuanta : Obligations.PlannerStaysWithinItsQuanta := by
  unfold Obligations.PlannerStaysWithinItsQuanta
  refine ⟨fun q p v a tt j hpick => ?picked, fun q s t hdir hsome => ?upward, fun q n p v a vmax q1 h => stopLoop_vmax_le h,
    fun q s t b hrest hband => planStep_restBand hrest hband b⟩
  case picked =>
    obtain ⟨hcand, hok⟩ := pickJerk_some hpick
    obtain ⟨hacc, hstop⟩ := jerkOk_iff.mp hok
    exact ⟨hacc, hcand, hstop⟩
  case upward =>
    obtain ⟨j, hpick⟩ := Option.isSome_iff_exists.mp hsome
    obtain ⟨hacc, q1, hstop, hle⟩ := jerkOk_iff.mp (pickJerk_some hpick).2
    rw [planStep_upward hdir hpick]
    exact ⟨rfl, hacc, stopPoint_velocity_le hstop, q1, hstop, hle⟩

end Sys2Proof.Machine
end

section
/-! The domains: how a domain is left quiet on its way to FAULTED, and the commands of its start, its repair count and its release
(06_edges_and_phases.md R144, R150; 11_modes.md R253, R254, R258, R259, R263). -/

namespace Sys2Proof.Machine

/-! ### The parts of SYS_DSTAT, one for each domain (11 R262) -/

theorem bitsAt_setBits_same (v i n x : Nat) : bitsAt (setBits v i n x) i n = x % 2 ^ n := by
  apply Nat.eq_of_testBit_eq
  intro j
  rw [testBit_bitsAt, testBit_setBits, Nat.testBit_mod_two_pow]
  by_cases hj : j < n <;> simp [hj]

theorem bitsAt_setBits_other (v x : Nat) {i n j m : Nat} (h : j + m ≤ i ∨ i + n ≤ j) :
    bitsAt (setBits v i n x) j m = bitsAt v j m := by
  apply Nat.eq_of_testBit_eq
  intro k
  rw [testBit_bitsAt, testBit_bitsAt, testBit_setBits]
  by_cases hk : k < m
  · rw [if_neg (by omega)]
  · simp [hk]

theorem bitsAt_mod_two_pow (v : Nat) {i n w : Nat} (h : i + n ≤ w) : bitsAt (v % 2 ^ w) i n = bitsAt v i n := by
  apply Nat.eq_of_testBit_eq
  intro k
  rw [testBit_bitsAt, testBit_bitsAt, Nat.testBit_mod_two_pow]
  by_cases hk : k < n
  · simp [show i + k < w by omega]
  · simp [hk]

/-- A part of a field after the field was written. -/
theorem State.bitsAt_get_set (s : State) {f : Fld} (hf : f.hi < 32) (v : Nat) {i n : Nat} (hi : i + n ≤ f.hi + 1 - f.lo) :
    bitsAt ((s.set f v).get f) i n = bitsAt v i n := by
  rw [State.get_set_same _ _ _ hf, bitsAt_mod_two_pow v hi]

theorem State.fcause_setFcause_same (s : State) (d : Fin 4) {c : Nat} (hc : c < 8) : (s.setFcause d c).fcause d = c := by
  have hd := d.isLt
  rw [State.fcause, State.setFcause, State.bitsAt_get_set s (by decide : 11 < 32) _ (by change _ ≤ 12; omega), bitsAt_setBits_same]
  exact Nat.mod_eq_of_lt hc

theorem State.fcause_setFcause_other (s : State) {d k : Nat} (hk : k < 4) (h : k ≠ d) (c : Nat) :
    (s.setFcause d c).fcause k = s.fcause k := by
  rw [State.fcause, State.setFcause, State.bitsAt_get_set s (by decide : 11 < 32) _ (by change _ ≤ 12; omega),
    bitsAt_setBits_other _ _ (by omega), State.fcause]

theorem State.rpcnt_setRpcnt_same (s : State) (d : Fin 4) {c : Nat} (hc : c < 16) : (s.setRpcnt d c).rpcnt d = c := by
  have hd := d.isLt
  rw [State.rpcnt, State.setRpcnt, State.bitsAt_get_set s (by decide : 31 < 32) _ (by change _ ≤ 16; omega), bitsAt_setBits_same]
  exact Nat.mod_eq_of_lt hc

theorem State.rpcnt_setRpcnt_other (s : State) {d k : Nat} (hk : k < 4) (h : k ≠ d) (c : Nat) :
    (s.setRpcnt d c).rpcnt k = s.rpcnt k := by
  rw [State.rpcnt, State.setRpcnt, State.bitsAt_get_set s (by decide : 31 < 32) _ (by change _ ≤ 16; omega),
    bitsAt_setBits_other _ _ (by omega), State.rpcnt]

/-- FCAUSE after writes to other fields. -/
theorem State.writesWithin.fcause {s t : State} {l : List Fld} (h : s.writesWithin t l) (hl : ∀ f ∈ l, apart f R.SYS_DSTAT.FCAUSE)
    (k : Nat) : t.fcause k = s.fcause k := by
  rw [State.fcause, h.get _ hl, State.fcause]

/-! ### Events stamped with TB_NOW itself (02_time_base_and_clocks.md R33; log 68) -/

theorem State.stage_freeCtr (s : State) (r : FRec) : (s.stage r).freeCtr = s.freeCtr := by
  unfold State.stage
  dsimp only
  split <;> rfl

theorem State.raiseAt_freeCtr (s : State) (ts code sev : Nat) (data : List Byte) :
    (s.raiseAt ts code sev data).freeCtr = s.freeCtr := by
  unfold State.raiseAt
  dsimp only
  generalize (match s.evtEntry code with
    | some e => e.dis && sev != 3
    | none => false) = dis
  split_ifs
  · rfl
  · exact State.stage_freeCtr _ _
  · rfl
  · exact State.stage_freeCtr _ _
  · exact State.stage_freeCtr _ _

theorem State.evtForeign_of_lt {code : Nat} (h : code < 0x0800) (s : State) : s.evtForeign code = false := by
  simp [State.evtForeign]
  omega

/-- An event of a block that CCLK clocks takes no free value. -/
theorem State.raise_cclk {code : Nat} (h : code < 0x0800) (s : State) (sev : Nat) (data : List Byte) :
    s.raise code sev data = { s with regs := (s.raise code sev data).regs, fls := (s.raise code sev data).fls } := by
  have hctr : (s.raise code sev data).freeCtr = s.freeCtr := by
    rw [State.raise, State.evtForeign_of_lt h]
    exact State.raiseAt_freeCtr s _ _ _ _
  have hframe := (s.raise_frame code sev data).1
  unfold State.onlyRegsFlsDiffer at hframe
  rw [hctr] at hframe
  exact hframe

/-! ### A domain left quiet: what differs beside the registers -/

/-- Nothing but registers, domains, loops, planners, phases, the recorder and the diagnostic unit differs. -/
def State.onlyWorkDiffers (s t : State) : Prop :=
  t = { s with regs := t.regs, doms := t.doms, loops := t.loops, prfs := t.prfs, phases := t.phases, fls := t.fls, dsu := t.dsu }

theorem State.onlyWorkDiffers.trans {s t u : State} (h : s.onlyWorkDiffers t) (k : t.onlyWorkDiffers u) : s.onlyWorkDiffers u := by
  unfold State.onlyWorkDiffers at *
  rw [k, h]

theorem State.onlyRegsDiffer.work {s t : State} (h : s.onlyRegsDiffer t) : s.onlyWorkDiffers t := by
  unfold State.onlyRegsDiffer at h
  unfold State.onlyWorkDiffers
  rw [h]

theorem State.onlyWorkDiffers_modDom (s : State) (d : Nat) (f : Dom → Dom) : s.onlyWorkDiffers (s.modDom d f) := rfl

/-- Domain d keeps its state, every other domain is the same, and of the rest only the work of a domain differs. -/
def State.quietsDomain (s t : State) (d : Nat) : Prop :=
  (t.dom d).dst = (s.dom d).dst ∧ (∀ k : Nat, k ≠ d → t.dom k = s.dom k) ∧ s.onlyWorkDiffers t

section
variable {s t u : State} {d : Nat}

theorem State.quietsDomain_refl (s : State) (d : Nat) : s.quietsDomain s d := ⟨rfl, fun _ _ => rfl, rfl⟩

theorem State.quietsDomain.trans (h : s.quietsDomain t d) (k : t.quietsDomain u d) : s.quietsDomain u d := by
  obtain ⟨hdst, hothers, hframe⟩ := h
  obtain ⟨hdst', hothers', hframe'⟩ := k
  exact ⟨hdst'.trans hdst, fun n hn => (hothers' n hn).trans (hothers n hn), hframe.trans hframe'⟩

/-- A change that leaves the domains. -/
theorem State.quietsDomain.rest (h : s.quietsDomain t d) (hdoms : u.doms = t.doms) (hframe : t.onlyWorkDiffers u) : s.quietsDomain u d :=
  h.trans ⟨by rw [State.dom, hdoms, State.dom], fun _ _ => by rw [State.dom, hdoms, State.dom], hframe⟩

theorem State.quietsDomain.set (h : s.quietsDomain t d) (f : Fld) (v : Nat) : s.quietsDomain (t.set f v) d := h.rest rfl rfl
theorem State.quietsDomain.setB (h : s.quietsDomain t d) (f : Fld) (b : Bool) : s.quietsDomain (t.setB f b) d := h.rest rfl rfl
theorem State.quietsDomain.setI (h : s.quietsDomain t d) (f : Fld) (i : Nat) (b : Bool) : s.quietsDomain (t.setI f i b) d := h.rest rfl rfl
theorem State.quietsDomain.setS (h : s.quietsDomain t d) (f : Fld) (x : Int) : s.quietsDomain (t.setS f x) d := h.rest rfl rfl

theorem State.quietsDomain.modPrf (h : s.quietsDomain t d) (f : Prf → Prf) : s.quietsDomain (t.modPrf d f) d := h.rest rfl rfl
theorem State.quietsDomain.modPhase (h : s.quietsDomain t d) (p : Nat) (f : Phase → Phase) : s.quietsDomain (t.modPhase d p f) d :=
  h.rest rfl rfl

theorem State.quietsDomain.modDom (h : s.quietsDomain t d) (f : Dom → Dom) (hf : ∀ x, (f x).dst = x.dst := by intro x; rfl) :
    s.quietsDomain (t.modDom d f) d :=
  h.trans ⟨by rw [State.dom_modDom_same, hf], fun _ hk => State.dom_modDom_other t f hk, rfl⟩

theorem State.quietsDomain.raise (h : s.quietsDomain t d) {code : Nat} (hcode : code < 0x0800) (sev : Nat) (data : List Byte) :
    s.quietsDomain (t.raise code sev data) d :=
  h.rest (State.raise_doms t code sev data) (by unfold State.onlyWorkDiffers; rw [State.raise_cclk hcode])

theorem State.quietsDomain.foldl {α : Type} {f : State → α → State} (hf : ∀ (t : State) (x : α), t.quietsDomain (f t x) d)
    (xs : List α) (h : s.quietsDomain t d) : s.quietsDomain (xs.foldl f t) d := by
  induction xs generalizing t with
  | nil => exact h
  | cons x xs ih => exact ih (h.trans (hf t x))

end

/-! ### RUN bits cleared (03_kareo_loop_fabric.md R54, R83; 04_loop_nesting_and_plausibility.md R88, R104) -/

theorem State.zStopOn_quiets (s : State) (d k : Nat) : s.quietsDomain (s.zStopOn d k) d := by
  have hcapture : ∀ t : State, t.quietsDomain (t.zCapture d) d := by
    intro t
    unfold State.zCapture
    extract_lets c k
    split
    · exact (State.quietsDomain_refl t d).rest rfl rfl
    · exact State.quietsDomain_refl t d
  unfold State.zStopOn State.zStop
  split
  · split
    · exact (((((State.quietsDomain_refl s d).modDom _).setB _ _).setB _ _).setB _ _).trans (hcapture _)
    · exact State.quietsDomain_refl s d
  · exact State.quietsDomain_refl s d

theorem State.stopLoop_quiets (s : State) (d j : Nat) : s.quietsDomain (s.stopLoop d j) d := by
  unfold State.stopLoop
  extract_lets s1 s2 s3
  have h2 : s.quietsDomain s2 d := (State.quietsDomain_refl s d).rest rfl rfl
  have h3 : s.quietsDomain s3 d := h2.modDom _
  split
  · exact h3.trans (s3.zStopOn_quiets d j)
  · exact h3

theorem State.selEval_quiets (s : State) (d : Nat) : s.quietsDomain (s.selEval d) d := by
  unfold State.selEval
  extract_lets w s0 s1
  have h0 : s.quietsDomain s0 d := by
    unfold s0
    split
    · exact State.quietsDomain_refl s d
    · exact (State.quietsDomain_refl s d).modDom _
  have h1 : s.quietsDomain s1 d := h0.setS _ _
  split
  · exact (h1.set _ _).setI _ _ _
  · exact h1.set _ _

theorem State.selTrig_quiets (s : State) (d j : Nat) : s.quietsDomain (s.selTrig d j) d := by
  unfold State.selTrig
  split
  · exact s.selEval_quiets d
  · exact State.quietsDomain_refl s d

theorem State.selEval_within (s : State) (d : Nat) : s.writesWithin (s.selEval d) (selFlds d) := s.selTrig_selFlds d 4

/-- The fields that clearing RUN bits writes. -/
abbrev clearFlds (d : Nat) : List Fld := stopFlds d ++ selFlds d

theorem selFlds_apart_run (d : Fin 4) : ∀ f ∈ selFlds d, apart f (R.LFC_RUN.RUN d) := by
  revert d; decide

/-- One loop of a mask stops, if it runs. -/
def State.stopIf (d mask run : Nat) (t : State) (j : Nat) : State :=
  if mask.testBit j && run.testBit j then (t.stopLoop d j).selTrig d j else t

theorem State.stopIf_within (d mask run : Nat) (t : State) (j : Nat) : t.writesWithin (State.stopIf d mask run t j) (clearFlds d) := by
  unfold State.stopIf
  split
  · have hrun : t.writesWithin (t.setI (R.LFC_RUN.RUN d) j false) (clearFlds d) := (State.writesWithin_refl t _).setI _ _ _
    have hstop := (t.stopLoop_within d j).mono (m := clearFlds d) fun f hf => List.mem_append_left _ (List.mem_of_mem_tail hf)
    exact (hrun.trans hstop).trans ((State.selTrig_selFlds _ d j).mono (List.subset_append_right _ _))
  · exact State.writesWithin_refl t _

theorem State.stopIf_quiets (d mask run : Nat) (t : State) (j : Nat) : t.quietsDomain (State.stopIf d mask run t j) d := by
  unfold State.stopIf
  split
  · exact (t.stopLoop_quiets d j).trans (State.selTrig_quiets _ d j)
  · exact State.quietsDomain_refl t d

/-- The RUN bits after a loop of the mask stopped. -/
theorem State.stopIf_run (d : Fin 4) (mask run : Nat) (t : State) {j : Nat} (hj : j < 12) (k : Nat) :
    (State.stopIf d mask run t j).running d k = (t.running d k && !(decide (k = j) && (mask.testBit k && run.testBit k))) := by
  unfold State.stopIf
  split
  · rename_i hstop
    rw [State.running, (State.selTrig_selFlds _ d j).bitI _ (selFlds_apart_run d),
      (t.stopLoop_within d j).bitI _ (stopFlds_apart_run d), State.bitI_setI t (by decide : 11 < 32) (by exact hj), State.running]
    by_cases hk : k = j
    · subst hk; simp [hstop]
    · simp [hk]
  · rename_i hkeep
    by_cases hk : k = j
    · subst hk; simp [hkeep]
    · simp [hk]

theorem State.foldl_stopIf_run (d : Fin 4) (mask run k : Nat) (l : List Nat) (hl : ∀ j ∈ l, j < 12) (t : State) :
    (l.foldl (State.stopIf d mask run) t).running d k =
      (t.running d k && !(decide (k ∈ l) && (mask.testBit k && run.testBit k))) := by
  induction l generalizing t with
  | nil => simp
  | cons j l ih =>
    rw [List.foldl_cons, ih (fun i hi => hl i (List.mem_cons_of_mem j hi)), State.stopIf_run d mask run t (hl j List.mem_cons_self)]
    by_cases hk : k = j
    · subst hk; cases mask.testBit k && run.testBit k <;> simp
    · simp [hk]

/-- The loops of a mask stop in turn, and the selector follows where outer loops are among them. -/
theorem State.clearRun_eq (s : State) (d mask : Nat) : s.clearRun d mask =
    if mask &&& 0xF0 = 0 then (List.range 12).foldl (State.stopIf d mask (s.get (R.LFC_RUN.RUN d))) s
    else ((List.range 12).foldl (State.stopIf d mask (s.get (R.LFC_RUN.RUN d))) s).selEval d := rfl

theorem State.clearRun_within (s : State) (d mask : Nat) : s.writesWithin (s.clearRun d mask) (clearFlds d) := by
  have hstop := State.writesWithin.foldl (State.stopIf_within d mask (s.get (R.LFC_RUN.RUN d))) (List.range 12)
    (State.writesWithin_refl s _)
  rw [State.clearRun_eq]
  split
  · exact hstop
  · exact hstop.trans ((State.selEval_within _ d).mono (List.subset_append_right _ _))

theorem State.clearRun_quiets (s : State) (d mask : Nat) : s.quietsDomain (s.clearRun d mask) d := by
  have hstop := State.quietsDomain.foldl (State.stopIf_quiets d mask (s.get (R.LFC_RUN.RUN d))) (List.range 12)
    (State.quietsDomain_refl s d)
  rw [State.clearRun_eq]
  split
  · exact hstop
  · exact hstop.trans (State.selEval_quiets _ d)

/-- The whole mask cleared leaves no loop running. -/
theorem State.clearRun_all (s : State) (d : Fin 4) : (s.clearRun d 0xFFF).get (R.LFC_RUN.RUN d) = 0 := by
  rw [State.clearRun_eq, if_neg (by decide), (State.selEval_within _ d).get _ (selFlds_apart_run d)]
  apply Nat.eq_of_testBit_eq
  intro k
  have hrun := State.foldl_stopIf_run d 0xFFF (s.get (R.LFC_RUN.RUN d)) k (List.range 12) (fun j hj => List.mem_range.1 hj) s
  rw [State.running, State.bitI, State.running, State.bitI] at hrun
  rw [hrun, Nat.zero_testBit]
  by_cases hk : k < 12
  · have hmask : Nat.testBit 0xFFF k = true := by
      rw [show 0xFFF = 2 ^ 12 - 1 by decide, Nat.testBit_two_pow_sub_one, decide_eq_true hk]
    simp [hk, hmask]
  · have hlt : s.get (R.LFC_RUN.RUN d) < 2 ^ k :=
      Nat.lt_of_lt_of_le (fldOf_lt _ (R.LFC_RUN.RUN d)) (Nat.pow_le_pow_right (by decide) (Nat.le_of_not_lt hk))
    rw [Nat.testBit_lt_two_pow hlt, Bool.false_and]

/-! ### Planner, phases and Drip of a quiet domain (05_rail_tracking.md R115; 06 R144; 15_drip_and_flowstone.md R329) -/

theorem State.planStop_within (s : State) (d : Nat) : s.writesWithin (s.planStop d) [R.PRF_STAT.PSTATE d] :=
  ((State.writesWithin_refl s _).rest rfl rfl).set _ _

theorem State.planStop_quiets (s : State) (d : Nat) : s.quietsDomain (s.planStop d) d :=
  ((State.quietsDomain_refl s d).modPrf _).set _ _

/-- The fields that the phase manager shows when it stops, after ACT. -/
abbrev phaseStopFlds (d : Nat) : List Fld := [R.PWM_PHASES.CNT d, R.PWM_PHASES.SOFT d, R.PWM_PHASES.GLIDE d]

/-- The phase manager stops in FAULTED: ACT reads 0, and FLTP stays. -/
theorem State.phasesStop_within (s : State) (d : Nat) :
    (s.set (R.PWM_PHASES.ACT d) 0).writesWithin (s.phasesStop d false) (phaseStopFlds d) := by
  unfold State.phasesStop
  extract_lets s1 s2
  have h1 : (s.set (R.PWM_PHASES.ACT d) 0).writesWithin s1 (phaseStopFlds d) :=
    (((State.writesWithin_refl _ _).set _ _).set _ _).setB _ _
  exact State.writesWithin.foldl (fun t p => (State.writesWithin_refl t _).modPhase _ _ _) _ h1

theorem State.phasesStop_quiets (s : State) (d : Nat) : s.quietsDomain (s.phasesStop d false) d := by
  unfold State.phasesStop
  extract_lets s1 s2
  have h1 : s.quietsDomain s1 d := ((((State.quietsDomain_refl s d).set _ _).set _ _).set _ _).setB _ _
  exact State.quietsDomain.foldl (fun t p => (State.quietsDomain_refl t d).modPhase _ _) _ h1

theorem phaseStopFlds_apart_act (d : Fin 4) : ∀ f ∈ R.DRP_CYC.EXC :: phaseStopFlds d, apart f (R.PWM_PHASES.ACT d) := by
  revert d; decide

/-! ### The entry to FAULTED (11 R253, R258) -/

/-- The fields that a domain writes when it becomes quiet, after its RUN bits. -/
abbrev quietEndFlds (d : Nat) : List Fld :=
  [R.PRF_STAT.PSTATE d, R.PWM_PHASES.ACT d] ++ phaseStopFlds d ++ [R.DRP_CYC.EXC]

/-- The fields that a domain writes when it becomes quiet with its phases left in FLTP. -/
abbrev quietFlds (d : Nat) : List Fld := clearFlds d ++ quietEndFlds d

theorem quietEndFlds_apart_run (d : Fin 4) : ∀ f ∈ quietEndFlds d, apart f (R.LFC_RUN.RUN d) := by
  revert d; decide

theorem quietFlds_apart_fcause (d : Fin 4) : ∀ f ∈ quietFlds d ++ evFields, apart f R.SYS_DSTAT.FCAUSE := by
  revert d; decide

theorem evFields_apart_fcause : ∀ f ∈ evFields, apart f R.SYS_DSTAT.FCAUSE := by decide

theorem State.domQuiet_ends (s : State) (d : Nat) : (((s.clearRun d 0xFFF).planStop d).phasesStop d false).writesWithin
    (s.domQuiet d false) [R.DRP_CYC.EXC] :=
  ((State.writesWithin_refl _ _).modDom _ _).set _ _

theorem State.domQuiet_afterRun (s : State) (d : Nat) : (s.clearRun d 0xFFF).writesWithin (s.domQuiet d false) (quietEndFlds d) := by
  have hplan := ((s.clearRun d 0xFFF).planStop_within d).mono (m := quietEndFlds d) (by simp)
  exact ((hplan.set (R.PWM_PHASES.ACT d) 0).trans ((State.phasesStop_within _ d).mono (by simp))).trans ((s.domQuiet_ends d).mono (by simp))

theorem State.domQuiet_within (s : State) (d : Nat) : s.writesWithin (s.domQuiet d false) (quietFlds d) :=
  ((s.clearRun_within d 0xFFF).mono (List.subset_append_left _ _)).trans ((s.domQuiet_afterRun d).mono (List.subset_append_right _ _))

theorem State.domQuiet_quiets (s : State) (d : Nat) : s.quietsDomain (s.domQuiet d false) d :=
  ((((s.clearRun_quiets d 0xFFF).trans (State.planStop_quiets _ d)).trans (State.phasesStop_quiets _ d)).modDom _).set _ _

/-- A quiet domain has no loop running and no phase active. -/
theorem State.domQuiet_spec (s : State) (d : Fin 4) :
    (s.domQuiet d false).get (R.LFC_RUN.RUN d) = 0 ∧ (s.domQuiet d false).get (R.PWM_PHASES.ACT d) = 0 := by
  constructor
  · rw [(s.domQuiet_afterRun d).get _ (quietEndFlds_apart_run d), s.clearRun_all d]
  · have hend := ((State.phasesStop_within ((s.clearRun d 0xFFF).planStop d) d).mono (List.subset_cons_self _ _)).trans
      ((s.domQuiet_ends d).mono (m := R.DRP_CYC.EXC :: phaseStopFlds d) (by simp))
    rw [hend.get _ (phaseStopFlds_apart_act d), State.get_set_same _ _ _ (by decide : 19 < 32), Nat.zero_mod]

/-- The state of a domain that has taken the state FAULTED and raised its event. -/
def State.faultTold (s : State) (d : Nat) : State :=
  (s.modDom d fun x => { x with dst := .faulted }).raise 0x0102 2
    (le 1 d ++ le 1 (dstCode (s.dom d).dst) ++ le 1 (dstCode .faulted) ++ le 1 ((s.modDom d fun x => { x with dst := .faulted }).fcause d))

theorem State.enterDst_faulted {s : State} {d : Nat} (h : (s.dom d).dst ≠ .faulted) :
    s.enterDst d .faulted = (s.faultTold d).domQuiet d false := by
  rw [State.enterDst]
  dsimp only
  rw [if_neg h]
  rfl

theorem State.faultTold_within (s : State) (d : Nat) : s.writesWithin (s.faultTold d) evFields :=
  ((State.writesWithin_refl s _).modDom _ _).raise _ _ _ (List.Subset.refl _)

theorem State.faultTold_quiets (s : State) (d : Nat) :
    (s.modDom d fun x => { x with dst := .faulted }).quietsDomain (s.faultTold d) d :=
  (State.quietsDomain_refl _ d).raise (by decide) _ _

/-- In FAULTED nothing of a domain runs; its entry leaves the other domains. -/
theorem State.enterDst_faulted_spec {s u : State} {d : Fin 4} (h : (s.dom d).dst ≠ .faulted) (hu : s.enterDst d .faulted = u) :
    (u.dom d).dst = .faulted ∧ u.get (R.LFC_RUN.RUN d) = 0 ∧ u.get (R.PWM_PHASES.ACT d) = 0 ∧
      (∀ k : Nat, k ≠ d → u.dom k = s.dom k) ∧ s.writesWithin u (quietFlds d ++ evFields) ∧
      s.onlyWorkDiffers u := by
  rw [State.enterDst_faulted h] at hu
  obtain ⟨hrun, hact⟩ := (s.faultTold d).domQuiet_spec d
  obtain ⟨hdst, hothers, hframe⟩ := (s.faultTold_quiets d).trans (State.domQuiet_quiets _ d)
  have hflds := ((s.faultTold_within d).mono (List.subset_append_right (quietFlds d) _)).trans
    ((State.domQuiet_within _ d).mono (List.subset_append_left _ _))
  rw [hu] at hrun hact hdst hothers hframe hflds
  refine ⟨?_, hrun, hact, fun k hk => ?_, hflds, hframe⟩
  · rw [hdst, State.dom_modDom_same]
  · rw [hothers k hk, State.dom_modDom_other _ _ hk]

/-- A domain that enters FAULTED takes its cause and its repair mark. -/
theorem State.enterFaulted_spec {s u : State} {d : Fin 4} (h : (s.dom d).dst ≠ .faulted) {cause : Nat} (hc : cause < 8) {repair : Bool}
    (hu : s.enterFaulted d cause repair = u) :
    (u.dom d).dst = .faulted ∧ u.fcause d = cause ∧ (u.dom d).repair = repair ∧ u.get (R.LFC_RUN.RUN d) = 0 ∧
      u.get (R.PWM_PHASES.ACT d) = 0 ∧ (∀ k : Nat, k < 4 → k ≠ d → u.fcause k = s.fcause k ∧ u.dom k = s.dom k) ∧
      s.writesWithin u (R.SYS_DSTAT.FCAUSE :: (quietFlds d ++ evFields)) ∧
      s.onlyWorkDiffers u := by
  have hcause := s.fcause_setFcause_same d hc
  have hothers : ∀ k : Nat, k < 4 → k ≠ d → (s.setFcause d cause).fcause k = s.fcause k :=
    fun k hk hne => s.fcause_setFcause_other hk hne cause
  have hregs : s.onlyRegsDiffer (s.setFcause d cause) := State.onlyRegsDiffer_set s _ _
  have hset : s.writesWithin (s.setFcause d cause) (R.SYS_DSTAT.FCAUSE :: (quietFlds d ++ evFields)) :=
    State.writesWithin.set (State.writesWithin_refl s _) R.SYS_DSTAT.FCAUSE _ List.mem_cons_self
  rw [State.enterFaulted] at hu
  generalize s.setFcause d cause = q at *
  have hdom : ∀ k, q.dom k = s.dom k := fun k => by rw [hregs]; rfl
  obtain ⟨hdst, hrun, hact, hdoms, hflds, hframe⟩ := State.enterDst_faulted_spec ((hdom d).symm ▸ h) rfl
  generalize q.enterDst d .faulted = v at *
  subst hu
  have hfcause : ∀ k, v.fcause k = q.fcause k := hflds.fcause (quietFlds_apart_fcause d)
  refine ⟨?_, (hfcause d).trans hcause, ?_, hrun, hact, fun k hk hne => ⟨(hfcause k).trans (hothers k hk hne), ?_⟩,
    (hset.trans (hflds.mono (List.subset_cons_self _ _))).modDom _ _, ?_⟩
  · rw [State.dom_modDom_same]
    exact hdst
  · rw [State.dom_modDom_same]
  · rw [State.dom_modDom_other _ _ hne, hdoms k hne, hdom]
  · exact (hregs.work.trans hframe).trans (State.onlyWorkDiffers_modDom v d _)

/-! ### The commands -/

theorem execDriverEnable_acts {d : Fin 4} {s : State} (hc : s.coreRuns = true) (hd : (s.dom d).dst = .precharge) :
    exec (.driverEnable d) s = .next (s.modDom d fun x => { x with drvOn := true }).refreshBalls := by
  change execDriverEnable d s = _
  rw [execDriverEnable, if_pos ⟨hc, hd⟩]

theorem execDriverEnable_idle {d : Fin 4} {s : State} (h : s.coreRuns = false ∨ (s.dom d).dst ≠ .precharge) :
    exec (.driverEnable d) s = .next s := by
  change execDriverEnable d s = _
  rw [execDriverEnable, if_neg (by rcases h with h | h <;> simp [h])]

theorem execDriverWake_acts {d : Fin 4} {s : State} (hc : s.coreRuns = true) (hd : (s.dom d).dst = .precharge)
    (ha : (s.dom d).awake = false) : exec (.driverWake d) s =
      .next ((s.modDom d fun x => { x with awake := true }).setRun d (0xF0 + 256 * s.get (R.PWM_PHASES.ACT d))).settle := by
  change execDriverWake d s = _
  rw [execDriverWake, if_pos ⟨hc, hd, by simp [ha]⟩]

theorem execDriverWake_idle {d : Fin 4} {s : State} (h : s.coreRuns = false ∨ (s.dom d).dst ≠ .precharge ∨ (s.dom d).awake = true) :
    exec (.driverWake d) s = .next s := by
  change execDriverWake d s = _
  rw [execDriverWake, if_neg (by rcases h with h | h | h <;> simp [h])]

/-- Event 0x0104: rail-good has not held in time. -/
def State.prechargeOverdue (s : State) (d : Fin 4) : State := s.raise 0x0104 2 (le 1 d.val ++ le 4 (bitsN 32 (s.prf d).p))

theorem execPrechargeTimeout_acts {d : Fin 4} {s : State} (hc : s.coreRuns = true) (hd : (s.dom d).dst = .precharge)
    (hg : (s.dom d).railGood = false) : exec (.prechargeTimeout d) s =
      .next ((s.prechargeOverdue d).enterFaulted d 4 (s.faultReq d).2).settle := by
  change execPrechargeTimeout d s = _
  rw [execPrechargeTimeout, if_pos ⟨hc, hd, by simp [hg]⟩, State.prechargeOverdue]

theorem execPrechargeTimeout_idle {d : Fin 4} {s : State}
    (h : s.coreRuns = false ∨ (s.dom d).dst ≠ .precharge ∨ (s.dom d).railGood = true) : exec (.prechargeTimeout d) s = .next s := by
  change execPrechargeTimeout d s = _
  rw [execPrechargeTimeout, if_neg (by rcases h with h | h | h <;> simp [h])]

theorem execRepairCountClear_acts {d : Fin 4} {s : State} (hc : s.coreRuns = true) (hd : (s.dom d).dst = .active) :
    exec (.repairCountClear d) s = .next (s.setRpcnt d 0) := by
  change execRepairCountClear d s = _
  rw [execRepairCountClear, if_pos ⟨hc, hd⟩]

theorem execRepairCountClear_idle {d : Fin 4} {s : State} (h : s.coreRuns = false ∨ (s.dom d).dst ≠ .active) :
    exec (.repairCountClear d) s = .next s := by
  change execRepairCountClear d s = _
  rw [execRepairCountClear, if_neg (by rcases h with h | h <;> simp [h])]

theorem execOffRelease_acts {d : Fin 4} {s : State} (hc : s.coreRuns = true) (hd : (s.dom d).dst = .off) :
    exec (.offRelease d) s = .next (s.modDom d fun x => { x with draining := false }).refreshBalls := by
  change execOffRelease d s = _
  rw [execOffRelease, if_pos ⟨hc, hd⟩]

theorem execOffRelease_idle {d : Fin 4} {s : State} (h : s.coreRuns = false ∨ (s.dom d).dst ≠ .off) :
    exec (.offRelease d) s = .next s := by
  change execOffRelease d s = _
  rw [execOffRelease, if_neg (by rcases h with h | h <;> simp [h])]

/-! ### The statement of R150, R254, R259 and R263 -/

/-- The time-out of PRECHARGE: event 0x0104, and then the entry to FAULTED with cause 4. -/
theorem State.prechargeFaults_spec {s u : State} {d : Fin 4} (hd : (s.dom d).dst = .precharge)
    (hu : (s.prechargeOverdue d).enterFaulted d 4 (s.faultReq d).2 = u) :
    (u.dom d).dst = .faulted ∧ u.fcause d = 4 ∧ (u.dom d).repair = (s.faultReq d).2 ∧ u.get (R.LFC_RUN.RUN d) = 0 ∧
      u.get (R.PWM_PHASES.ACT d) = 0 ∧ (∀ k : Nat, k < 4 → k ≠ d → u.fcause k = s.fcause k ∧ u.dom k = s.dom k) ∧
      s.onlyFields u (R.SYS_DSTAT.FCAUSE :: (quietFlds d ++ evFields)) ∧
      s.onlyWorkDiffers u := by
  have hev : s.writesWithin (s.prechargeOverdue d) evFields := (State.writesWithin_refl s _).raise _ _ _ (List.Subset.refl _)
  obtain ⟨-, -, hframe⟩ : s.quietsDomain (s.prechargeOverdue d) d := (State.quietsDomain_refl s d).raise (by decide) _ _
  have hdoms : (s.prechargeOverdue d).doms = s.doms := State.raise_doms _ _ _ _
  generalize s.prechargeOverdue d = t at *
  have hdom : ∀ k, t.dom k = s.dom k := fun k => by rw [State.dom, hdoms, State.dom]
  have hne : (t.dom d).dst ≠ .faulted := by rw [hdom, hd]; decide
  obtain ⟨hdst, hcause, hrepair, hrun, hact, hothers, hflds, hrest⟩ := State.enterFaulted_spec hne (by decide) hu
  refine ⟨hdst, hcause, hrepair, hrun, hact, fun k hk hkd => ?_, ((hev.mono ?_).trans hflds).1, hframe.trans hrest⟩
  · obtain ⟨hkcause, hkdom⟩ := hothers k hk hkd
    exact ⟨hkcause.trans (hev.fcause evFields_apart_fcause k), hkdom.trans (hdom k)⟩
  · exact fun f hf => List.mem_cons_of_mem _ (List.mem_append_right _ hf)

/-- RPCNT of one domain cleared: no other bit of a register changes. -/
theorem State.setRpcnt_zero_spec (s : State) (d : Fin 4) :
    (s.setRpcnt d 0).rpcnt d = 0 ∧ (∀ k : Nat, k < 4 → k ≠ d → (s.setRpcnt d 0).rpcnt k = s.rpcnt k) ∧
      s.onlyFields (s.setRpcnt d 0) [R.SYS_DSTAT.RPCNT] ∧ s.onlyRegsDiffer (s.setRpcnt d 0) :=
  ⟨s.rpcnt_setRpcnt_same d (by decide), fun _ hk hne => s.rpcnt_setRpcnt_other hk hne 0, State.onlyFields_set _ _ _,
    State.onlyRegsDiffer_set _ _ _⟩

/-- One domain changed leaves the others and the rest of the state. -/
theorem State.modDom_spec (s : State) (d : Nat) (f : Dom → Dom) :
    (s.modDom d f).dom d = f (s.dom d) ∧ (∀ k : Nat, k ≠ d → (s.modDom d f).dom k = s.dom k) ∧
      s.modDom d f = { s with doms := (s.modDom d f).doms } :=
  ⟨s.dom_modDom_same d f, fun _ hk => s.dom_modDom_other f hk, rfl⟩

/-- Settles O17: each command is one change of its own domain, and the time-out ends in `enterFaulted`. -/
theorem domainStartAndRelease : Obligations.DomainStartAndRelease := by
  unfold Obligations.DomainStartAndRelease
  refine ⟨fun d s hc hd => ?enable, fun d s hc hd ha => ?wake, fun d s hc hd hg => ?timeout, fun d s hc hd => ?clear,
    fun d s hc hd => ?release, fun d s => ⟨execDriverEnable_idle, execDriverWake_idle, execPrechargeTimeout_idle,
      execRepairCountClear_idle, execOffRelease_idle⟩⟩
  case enable => exact ⟨_, execDriverEnable_acts hc hd, s.modDom_spec d _⟩
  case wake => exact ⟨_, execDriverWake_acts hc hd ha, s.modDom_spec d _⟩
  case timeout => exact ⟨_, execPrechargeTimeout_acts hc hd hg, State.prechargeFaults_spec hd rfl⟩
  case clear => exact ⟨_, execRepairCountClear_acts hc hd, s.setRpcnt_zero_spec d⟩
  case release => exact ⟨_, execOffRelease_acts hc hd, s.modDom_spec d _⟩

end Sys2Proof.Machine
end

section
/-! The slices of the converter: the start calibration, the calibration of the spare, and the swap (07_feedback_converter.md R166 to
R169). -/

namespace Sys2Proof.Machine

/-! ### What a command of the converter may change -/

/-- Registers differ in the fields listed at most; beside them only the converter, the recorder and the counter of free values do. -/
def State.convWrites (s t : State) (l : List Fld) : Prop :=
  s.onlyFields t l ∧ t = { s with regs := t.regs, adc := t.adc, fls := t.fls, freeCtr := t.freeCtr }

/-- Nothing but registers and the converter differs. -/
def State.onlyConvDiffers (s t : State) : Prop := t = { s with regs := t.regs, adc := t.adc }

section
variable {s t u : State} {l m : List Fld}

theorem State.convWrites_refl (s : State) (l : List Fld) : s.convWrites s l := ⟨State.onlyFields_refl s l, rfl⟩

theorem State.convWrites.trans (h : s.convWrites t l) (k : t.convWrites u l) : s.convWrites u l :=
  ⟨State.onlyFields_trans_same h.1 k.1, by rw [k.2, h.2]⟩

theorem State.convWrites.mono (h : s.convWrites t l) (hm : l ⊆ m) : s.convWrites t m :=
  ⟨State.onlyFields_mono h.1 fun _ hf => hm hf, h.2⟩

theorem State.convWrites.set (h : s.convWrites t l) {f : Fld} (hf : f ∈ l) (v : Nat) : s.convWrites (t.set f v) l :=
  h.trans ⟨State.onlyFields_mono (State.onlyFields_set t f v) (by simpa using hf), rfl⟩

theorem State.convWrites.setB (h : s.convWrites t l) {f : Fld} (hf : f ∈ l) (b : Bool) : s.convWrites (t.setB f b) l :=
  h.set hf _

theorem State.convWrites.modAdc (h : s.convWrites t l) (f : Adc → Adc) : s.convWrites (t.modAdc f) l :=
  h.trans ⟨State.onlyFields_of_regs l rfl, rfl⟩

theorem State.convWrites.raise (h : s.convWrites t l) (code sev : Nat) (data : List Byte) (hl : evFields ⊆ l) :
    s.convWrites (t.raise code sev data) l := by
  obtain ⟨hframe, hflds⟩ := State.raise_frame t code sev data
  exact h.trans ⟨State.onlyFields_mono hflds fun _ hf => hl hf, by rw [hframe]⟩

theorem State.convWrites.foldl {α : Type} {f : State → α → State} {xs : List α} (h : s.convWrites t l)
    (hf : ∀ (v : State), ∀ x ∈ xs, v.convWrites (f v x) l) : s.convWrites (xs.foldl f t) l := by
  induction xs generalizing t with
  | nil => exact h
  | cons x xs ih => exact ih (h.trans (hf t x List.mem_cons_self)) fun v y hy => hf v y (List.mem_cons_of_mem x hy)

theorem State.convWrites.within (h : s.convWrites t l) : s.writesWithin t l := ⟨h.1, by rw [h.2]⟩

theorem State.convWrites.get (h : s.convWrites t l) (g : Fld) (hg : ∀ f ∈ l, apart f g) : t.get g = s.get g := h.within.get g hg

theorem State.convWrites.bit (h : s.convWrites t l) (g : Fld) (hg : ∀ f ∈ l, apart f g) : t.bit g = s.bit g := h.within.bit g hg

theorem State.onlyConvDiffers.trans (h : s.onlyConvDiffers t) (k : t.onlyConvDiffers u) : s.onlyConvDiffers u := by
  unfold State.onlyConvDiffers at *
  rw [k, h]

theorem State.onlyConvDiffers.modAdc (h : s.onlyConvDiffers t) (f : Adc → Adc) : s.onlyConvDiffers (t.modAdc f) := h.trans rfl

theorem State.onlyConvDiffers.set (h : s.onlyConvDiffers t) (f : Fld) (v : Nat) : s.onlyConvDiffers (t.set f v) := h.trans rfl

theorem State.onlyConvDiffers.setB (h : s.onlyConvDiffers t) (f : Fld) (b : Bool) : s.onlyConvDiffers (t.setB f b) := h.set f _

theorem State.onlyConvDiffers_refl (s : State) : s.onlyConvDiffers s := rfl

@[simp] theorem State.modAdc_adc (s : State) (f : Adc → Adc) : (s.modAdc f).adc = f s.adc := rfl
@[simp] theorem State.get_modAdc (s : State) (f : Adc → Adc) (g : Fld) : (s.modAdc f).get g = s.get g := rfl
@[simp] theorem State.bit_modAdc (s : State) (f : Adc → Adc) (g : Fld) : (s.modAdc f).bit g = s.bit g := rfl

/-- A bit of a register after another field of it was written. -/
theorem State.bit_set_other (s : State) (f g : Fld) (v : Nat) (hg : g.hi < 32) (hd : g.addr ≠ f.addr ∨ g.hi < f.lo ∨ f.hi < g.lo) :
    (s.set f v).bit g = s.bit g := by
  rw [State.bit, State.get_set_other s f g v hg hd, State.bit]

end

/-! ### The values of a slice (07 R166, R168, R177) -/

/-- The fields that show the calibration of the thirteen slices. -/
def scalFlds : List Fld := (List.range 13).flatMap fun k => [R.ADC_SCAL.OFS k, R.ADC_SCAL.GNDEV k]

theorem State.setCal_writes (s : State) {k : Nat} (hk : k < 13) (c : Cal) : s.convWrites (s.setCal k c) scalFlds := by
  have hmem : R.ADC_SCAL.OFS k ∈ scalFlds ∧ R.ADC_SCAL.GNDEV k ∈ scalFlds := by
    simp only [scalFlds, List.mem_flatMap, List.mem_range]
    exact ⟨⟨k, hk, by simp⟩, ⟨k, hk, by simp⟩⟩
  exact (((State.convWrites_refl s _).modAdc _).set hmem.1 _).set hmem.2 _

theorem State.setCal_frame (s : State) (k : Nat) (c : Cal) : s.onlyConvDiffers (s.setCal k c) := rfl

theorem State.badSlice_writes (s : State) (k : Nat) (ofs gndev : Int) :
    s.convWrites (s.badSlice k ofs gndev) (R.ADC_CALSTAT.BAD :: evFields) :=
  ((State.convWrites_refl s _).set List.mem_cons_self _).raise _ _ _ (List.subset_cons_self _ _)

theorem State.bad_badSlice (s : State) {k : Nat} (hk : k < 13) (ofs gndev : Int) (j : Nat) :
    (s.badSlice k ofs gndev).bitI R.ADC_CALSTAT.BAD j = if j = k then true else s.bitI R.ADC_CALSTAT.BAD j := by
  have hev : ∀ f ∈ evFields, apart f R.ADC_CALSTAT.BAD := by decide
  rw [State.badSlice, State.bitI, State.get_raise _ _ _ _ _ hev, ← State.bitI, State.bitI_setI s (by decide : 12 < 32) hk]

/-! ### The start calibration (07 R166) -/

/-- The fields that the calibration of the slices may change. -/
def startCalFlds : List Fld := R.ADC_CALSTAT.BAD :: (scalFlds ++ evFields)

theorem State.startCal_writes (s : State) {k : Nat} (hk : k < 13) (c : SliceCal) : s.convWrites (s.startCal k c) startCalFlds := by
  unfold State.startCal
  split
  · exact (s.setCal_writes hk _).mono (List.Subset.trans (List.subset_append_left _ _) (List.subset_cons_self _ _))
  · exact (s.badSlice_writes k _ _).mono (List.cons_subset_cons _ (List.subset_append_right _ _))

theorem State.bad_startCal (s : State) {k : Nat} (hk : k < 13) (c : SliceCal) (j : Nat) :
    (s.startCal k c).bitI R.ADC_CALSTAT.BAD j = (s.bitI R.ADC_CALSTAT.BAD j || (k == j && !calOk c)) := by
  have hscal : ∀ f ∈ scalFlds, apart f R.ADC_CALSTAT.BAD := by decide
  cases hok : calOk c
  · rw [State.startCal, hok, if_neg (by decide), State.bad_badSlice s hk]
    by_cases h : j = k
    · simp [h]
    · simp [h, Ne.symm h]
  · rw [State.startCal, if_pos hok, (s.setCal_writes hk _).within.bitI _ hscal]
    simp

/-- Slices with what their calibrations measured, taken one after another. -/
def State.startCals (s : State) (l : List (Nat × SliceCal)) : State := l.foldl (fun t e => t.startCal e.1 e.2) s

section
variable {l : List (Nat × SliceCal)}

theorem State.startCals_writes (s : State) (hl : ∀ e ∈ l, e.1 < 13) : s.convWrites (s.startCals l) startCalFlds :=
  (State.convWrites_refl s _).foldl fun t e he => t.startCal_writes (hl e he) e.2

theorem State.bad_startCals (s : State) (hl : ∀ e ∈ l, e.1 < 13) (j : Nat) :
    (s.startCals l).bitI R.ADC_CALSTAT.BAD j = (s.bitI R.ADC_CALSTAT.BAD j || l.any fun e => e.1 == j && !calOk e.2) := by
  induction l generalizing s with
  | nil => simp [State.startCals]
  | cons e l ih =>
    rw [State.startCals, List.foldl_cons, ← State.startCals, ih _ fun e' he => hl e' (List.mem_cons_of_mem e he),
      State.bad_startCal s (hl e List.mem_cons_self), List.any_cons, Bool.or_assoc]

/-- Calibrations within the limits raise no event. -/
theorem State.startCals_frame (s : State) (hok : ∀ e ∈ l, calOk e.2 = true) : s.onlyConvDiffers (s.startCals l) := by
  induction l generalizing s with
  | nil => rfl
  | cons e l ih =>
    have hhead : s.startCal e.1 e.2 = s.setCal e.1 (calOf e.2) := by rw [State.startCal, if_pos (hok e List.mem_cons_self)]
    rw [State.startCals, List.foldl_cons, ← State.startCals, hhead]
    exact (s.setCal_frame _ _).trans (ih _ fun e' he => hok e' (List.mem_cons_of_mem e he))

/-- Of slices with keys of their own, those that no failed calibration names are those whose calibration is within the limits. -/
theorem filter_not_failed (hl : (l.map Prod.fst).Nodup) :
    ((l.map Prod.fst).filter fun k => !(l.any fun e => e.1 == k && !calOk e.2)) = (l.filter fun e => calOk e.2).map Prod.fst := by
  rw [List.filter_map]
  refine congrArg _ (List.filter_congr fun e he => ?_)
  have hown : ∀ e' ∈ l, e'.1 = e.1 → e' = e := fun e' he' h => List.inj_on_of_nodup_map hl he' he h
  cases hok : calOk e.2
  · simpa using ⟨e.2, he, hok⟩
  · simp only [Function.comp_apply, Bool.not_eq_true', List.any_eq_false, Bool.and_eq_true, beq_iff_eq, not_and]
    intro e' he' h
    rw [hown e' he' h, hok]
    decide

end

/-- The slices that no calibration has marked. -/
def State.goodSlices (s : State) : List Nat := (List.range 13).filter fun k => !(s.get R.ADC_CALSTAT.BAD).testBit k

theorem fst_lt_of_mem_zip_range {cal : List SliceCal} : ∀ e ∈ (List.range 13).zip cal, e.1 < 13 :=
  fun _ he => List.mem_range.1 (List.of_mem_zip he).1

section
variable {cal : List SliceCal} (h13 : cal.length = 13)
include h13

theorem map_fst_zip_range : ((List.range 13).zip cal).map Prod.fst = List.range 13 := List.map_fst_zip (by simp [h13])

theorem State.length_goodSlices {s : State} (hbad : s.get R.ADC_CALSTAT.BAD = 0) :
    (s.startCals ((List.range 13).zip cal)).goodSlices.length = (cal.filter calOk).length := by
  have htest : ∀ k, ((s.startCals ((List.range 13).zip cal)).get R.ADC_CALSTAT.BAD).testBit k =
      ((List.range 13).zip cal).any fun e => e.1 == k && !calOk e.2 := fun k => by
    rw [← State.bitI, State.bad_startCals s fst_lt_of_mem_zip_range, State.bitI, hbad, Nat.zero_testBit, Bool.false_or]
  have hfilter := filter_not_failed (l := (List.range 13).zip cal) (by rw [map_fst_zip_range h13]; exact List.nodup_range)
  have hcal : cal = ((List.range 13).zip cal).map Prod.snd := (List.map_snd_zip (by simp [h13])).symm
  rw [map_fst_zip_range h13] at hfilter
  rw [State.goodSlices]
  simp only [htest]
  rw [hfilter, List.length_map]
  conv_rhs => rw [hcal, List.filter_map, List.length_map]
  rfl

end

theorem State.setSliceAt_writes (s : State) (p k : Nat) :
    s.convWrites (s.setSliceAt p k) [R.ADC_SMAP0.POS0_7, R.ADC_SMAP1.POS8_11] := by
  unfold State.setSliceAt
  split
  · exact (State.convWrites_refl s _).set (by simp) _
  · exact (State.convWrites_refl s _).set (by simp) _

theorem State.setSliceAt_frame (s : State) (p k : Nat) : s.onlyConvDiffers (s.setSliceAt p k) := by
  unfold State.setSliceAt
  split <;> rfl

theorem State.placeSlices_spec (l : List Nat) (s : State) (p : Nat) :
    s.convWrites (s.placeSlices p l) [R.ADC_SMAP0.POS0_7, R.ADC_SMAP1.POS8_11] ∧ s.onlyConvDiffers (s.placeSlices p l) := by
  induction l generalizing s p with
  | nil => exact ⟨State.convWrites_refl s _, rfl⟩
  | cons k l ih =>
    obtain ⟨hwrites, hframe⟩ := ih (s.setSliceAt p k) (p + 1)
    exact ⟨(s.setSliceAt_writes p k).trans hwrites, (s.setSliceAt_frame p k).trans hframe⟩

/-! #### Thirteen good slices -/

theorem State.startCalEnd_ready {s : State} (h : s.goodSlices.length = 13) : ∃ f : Adc → Adc,
    s.startCalEnd = (((s.placeSlices 0 (s.goodSlices.take 12)).setB R.ADC_CALSTAT.INIT true).modAdc f).set R.ADC_CALSTAT.SPARE 12 := by
  unfold State.startCalEnd
  extract_lets bad good s2 s3
  have hlen : good.length = 13 := h
  rw [if_neg (by omega), if_pos hlen]
  exact ⟨_, rfl⟩

theorem State.startCalEnd_ready_spec {s u : State} (h : s.goodSlices.length = 13) (hu : s.startCalEnd = u) :
    u.bit R.ADC_CALSTAT.INIT = true ∧ u.get R.ADC_CALSTAT.SPARE = 12 ∧ s.onlyConvDiffers u ∧
      s.convWrites u [R.ADC_SMAP0.POS0_7, R.ADC_SMAP1.POS8_11, R.ADC_CALSTAT.INIT, R.ADC_CALSTAT.SPARE] := by
  obtain ⟨f, hend⟩ := State.startCalEnd_ready h
  obtain ⟨hwrites, hframe⟩ := State.placeSlices_spec (s.goodSlices.take 12) s 0
  rw [← hu, hend]
  generalize s.placeSlices 0 (s.goodSlices.take 12) = v at *
  refine ⟨?init, ?spare, ((hframe.setB _ _).modAdc _).set _ _, (((hwrites.mono ?_).setB (by simp) _).modAdc _).set (by simp) _⟩
  case init =>
    rw [State.bit_set_other _ _ _ _ (by decide) (by decide), State.bit_modAdc]
    exact State.bit_setB_same v _ _ (by decide) (by decide)
  case spare => rw [State.get_set_same _ _ _ (by decide)]; rfl
  · simp

/-! #### Fewer than twelve good slices (07 R166; 14_thermal.md R314) -/

/-- The states of a broken die sensor and the fields of an event. -/
def brokenFlds : List Fld :=
  ((List.range 9).flatMap fun i => [R.THM_TS.BRK i, R.THM_TS.SD i, R.THM_TS.THR i, R.THM_TS.WRN i]) ++ evFields

/-- The summary that shows every die sensor and NTC broken and too hot. -/
def State.brokenShown (s : State) : State :=
  (((s.set R.THM_STAT.BRK 0x1FF).set R.THM_STAT.NBRK 0xF).set R.THM_STAT.NWARN 0xF).set R.THM_STAT.NTHR 0xF

theorem State.tsBroken_writes (s : State) {i : Nat} (hi : i < 9) : s.convWrites (s.tsBroken i) brokenFlds :=
  (State.convWrites_refl s _).foldl fun t _ hf => (State.convWrites_refl t _).setB
    (List.mem_append_left _ (List.mem_flatMap.2 ⟨i, List.mem_range.2 hi, hf⟩)) true

theorem State.allBroken_writes (s : State) : s.brokenShown.convWrites s.allBroken brokenFlds := by
  unfold State.allBroken
  extract_lets s1 s2 ev
  have hsensors : s1.convWrites s2 brokenFlds :=
    (State.convWrites_refl s1 _).foldl fun t i hi => t.tsBroken_writes (List.mem_range.1 hi)
  have hev : ∀ (t : State) (code sev v : Nat), t.convWrites (ev t code sev v) brokenFlds := fun t code sev v =>
    (State.convWrites_refl t _).foldl fun v i _ => (State.convWrites_refl v _).raise _ _ _ (List.subset_append_right _ _)
  exact ((hsensors.trans (hev _ _ _ _)).trans (hev _ _ _ _)).trans (hev _ _ _ _)

theorem State.brokenShown_spec (s : State) : s.brokenShown.get R.THM_STAT.BRK = 511 ∧ s.brokenShown.get R.THM_STAT.NBRK = 15 ∧
    s.convWrites s.brokenShown [R.THM_STAT.BRK, R.THM_STAT.NBRK, R.THM_STAT.NWARN, R.THM_STAT.NTHR] := by
  refine ⟨?brk, ?nbrk, ((((State.convWrites_refl s _).set (by simp) _).set (by simp) _).set (by simp) _).set (by simp) _⟩
  all_goals simp (disch := decide) only [State.brokenShown, State.get_set_other, State.get_set_same]
  all_goals rfl

theorem State.startCalEnd_failed {s : State} (h : s.goodSlices.length < 12) : ∃ data : List Byte,
    s.startCalEnd = (((s.setB R.ADC_CALSTAT.FAIL true).set R.ADC_CALSTAT.SPARE 15).raise 0x0602 3 data).allBroken := by
  unfold State.startCalEnd
  extract_lets bad good
  have hlen : good.length < 12 := h
  rw [if_pos hlen]
  exact ⟨_, rfl⟩

/-- The fields that a failed start calibration writes beside FAIL and SPARE. -/
def failFlds : List Fld := [R.THM_STAT.BRK, R.THM_STAT.NBRK, R.THM_STAT.NWARN, R.THM_STAT.NTHR] ++ brokenFlds

theorem evFields_subset_failFlds : evFields ⊆ failFlds :=
  List.Subset.trans (List.subset_append_right _ _) (List.subset_append_right _ brokenFlds)

theorem failFlds_apart : ∀ g ∈ [R.ADC_CALSTAT.FAIL, R.ADC_CALSTAT.SPARE, R.ADC_CALSTAT.INIT], ∀ f ∈ failFlds, apart f g := by
  decide

theorem State.startCalEnd_failed_spec {s u : State} (h : s.goodSlices.length < 12) (hu : s.startCalEnd = u) :
    u.bit R.ADC_CALSTAT.FAIL = true ∧ u.bit R.ADC_CALSTAT.INIT = s.bit R.ADC_CALSTAT.INIT ∧ u.get R.ADC_CALSTAT.SPARE = 15 ∧
      u.get R.THM_STAT.BRK = 511 ∧ u.get R.THM_STAT.NBRK = 15 ∧
      u = { s with regs := u.regs, adc := u.adc, fls := u.fls, freeCtr := u.freeCtr } := by
  obtain ⟨data, hend⟩ := State.startCalEnd_failed h
  rw [← hu, hend]
  generalize hv : (s.setB R.ADC_CALSTAT.FAIL true).set R.ADC_CALSTAT.SPARE 15 = v
  obtain ⟨hbrk, hnbrk, hshown⟩ := State.brokenShown_spec (v.raise 0x0602 3 data)
  have hbroken := State.allBroken_writes (v.raise 0x0602 3 data)
  have hafter : v.convWrites (v.raise 0x0602 3 data).allBroken failFlds :=
    (((State.convWrites_refl v _).raise _ _ _ evFields_subset_failFlds).trans
      (hshown.mono (List.subset_append_left _ _))).trans (hbroken.mono (List.subset_append_right _ _))
  refine ⟨?fail, ?init, ?spare, (hbroken.get _ (by decide)).trans hbrk, (hbroken.get _ (by decide)).trans hnbrk, ?frame⟩
  case fail =>
    rw [hafter.bit _ (failFlds_apart _ (by simp)), ← hv, State.bit_set_other _ _ _ _ (by decide) (by decide)]
    exact State.bit_setB_same s _ _ (by decide) (by decide)
  case init =>
    rw [hafter.bit _ (failFlds_apart _ (by simp)), ← hv, State.bit_set_other _ _ _ _ (by decide) (by decide), State.setB,
      State.bit_set_other _ _ _ _ (by decide) (by decide)]
  case spare =>
    rw [hafter.get _ (failFlds_apart _ (by simp)), ← hv, State.get_set_same _ _ _ (by decide)]
    rfl
  case frame =>
    have hset : s.convWrites v [R.ADC_CALSTAT.FAIL, R.ADC_CALSTAT.SPARE] := by
      rw [← hv]
      exact ((State.convWrites_refl s _).setB (by simp) _).set (by simp) _
    exact ((hset.mono (List.subset_append_left _ failFlds)).trans (hafter.mono (List.subset_append_right _ _))).2

/-! #### The command -/

theorem execStartCalibrationDone_runs {cal : List SliceCal} {s : State} (hc : s.coreRuns = true) (ht : s.tb.run = true)
    (hi : s.bit R.ADC_CALSTAT.INIT = false) (hf : s.bit R.ADC_CALSTAT.FAIL = false) (h13 : cal.length = 13) :
    exec (.startCalibrationDone cal) s = .next (s.startCals ((List.range 13).zip cal)).startCalEnd.settle := by
  change execStartCalibrationDone cal s = _
  rw [execStartCalibrationDone, if_pos (by simp [hc, ht, hi, hf, h13]), State.startCals]

/-- Thirteen calibrations within the limits mark no slice. -/
theorem State.startCals_allOk {cal : List SliceCal} {s t : State} (h13 : cal.length = 13) (hok : cal.all calOk = true)
    (hbad : s.get R.ADC_CALSTAT.BAD = 0) (ht : s.startCals ((List.range 13).zip cal) = t) :
    t.goodSlices.length = 13 ∧ t.get R.ADC_CALSTAT.BAD = 0 ∧ s.onlyConvDiffers t := by
  subst ht
  have hall : ∀ e ∈ (List.range 13).zip cal, calOk e.2 = true := fun e he =>
    List.all_eq_true.1 hok _ (List.of_mem_zip he).2
  refine ⟨?good, ?bad, s.startCals_frame hall⟩
  case good =>
    rw [State.length_goodSlices h13 hbad, List.filter_eq_self.2 (List.all_eq_true.1 hok), h13]
  case bad =>
    refine Nat.eq_of_testBit_eq fun k => ?_
    rw [← State.bitI, State.bad_startCals s fst_lt_of_mem_zip_range, State.bitI, hbad,
      List.any_eq_false.2 fun e he => by simp [hall e he]]
    simp

/-! ### Swaps (07 R167, R169) -/

theorem State.swapRegister_spec (s : State) :
    s.swapRegister.bit R.ADC_CALSTAT.ROTPEND = true ∧ s.swapRegister.adc.swapWait = false ∧
    s.swapRegister.adc.spareOk = s.adc.spareOk ∧ s.swapRegister.adc.calNew = s.adc.calNew ∧
    s.onlyFields s.swapRegister [R.ADC_CALSTAT.ROTPEND] ∧ s.onlyConvDiffers s.swapRegister :=
  ⟨State.bit_setB_same _ _ _ (by decide) (by decide), by simp [State.swapRegister], by simp [State.swapRegister],
    by simp [State.swapRegister], (((State.convWrites_refl s _).modAdc _).setB List.mem_cons_self _).1,
    (s.onlyConvDiffers_refl.modAdc _).setB _ _⟩

theorem State.swapAsk_spec {s t : State} (h : s.bit R.ADC_CALSTAT.ROTPEND = false) (ht : s.swapAsk = t) :
    t.bit R.ADC_CALSTAT.ROTPEND = s.adc.spareOk ∧ t.adc.swapWait = !s.adc.spareOk ∧ s.onlyFields t [R.ADC_CALSTAT.ROTPEND] ∧
      s.onlyConvDiffers t := by
  rw [State.swapAsk, if_neg (by simp [h])] at ht
  subst ht
  cases hs : s.adc.spareOk
  · exact ⟨h, rfl, State.onlyFields_of_regs _ rfl, rfl⟩
  · obtain ⟨hpend, hwait, -, -, hflds, hframe⟩ := s.swapRegister_spec
    exact ⟨hpend, hwait, hflds, hframe⟩

section
variable {c : Instr} {s : State} (hc : c = .swapRequest ∨ c = .now)
include hc

theorem execSwapAsks_rotates (h : s.rotates = true) : exec c s = .next s.swapAsk := by
  rcases hc with rfl | rfl
  · change execSwapRequest s = _
    rw [execSwapRequest, if_pos h]
  · change execNow s = _
    rw [execNow, if_pos h]

theorem execSwapAsks_stopped (h : s.rotates = false) : exec c s = .next s := by
  rcases hc with rfl | rfl
  · change execSwapRequest s = _
    rw [execSwapRequest, if_neg (by simp [h])]
  · change execNow s = _
    rw [execNow, if_neg (by simp [h])]

end

theorem State.swapAsk_pending {s : State} (h : s.bit R.ADC_CALSTAT.ROTPEND = true) : s.swapAsk = s := by
  rw [State.swapAsk, if_pos h]

/-! #### A swap takes effect (07 R155, R169) -/

theorem State.sliceAt_setSliceAt (s : State) {p k : Nat} (hp : p < 12) (hk : k < 16) : (s.setSliceAt p k).sliceAt p = k := by
  have hmod : k % 2 ^ 4 = k := Nat.mod_eq_of_lt hk
  unfold State.sliceAt State.setSliceAt
  by_cases h : p < 8
  · rw [if_pos h, if_pos h, State.bitsAt_get_set s (by decide : 31 < 32) _ (by change _ ≤ 32; omega), bitsAt_setBits_same, hmod]
  · rw [if_neg h, if_neg h, State.bitsAt_get_set s (by decide : 15 < 32) _ (by change _ ≤ 16; omega), bitsAt_setBits_same, hmod]

theorem State.sliceAt_lt (s : State) (p : Nat) : s.sliceAt p < 16 := by
  unfold State.sliceAt
  split <;> exact Nat.mod_lt _ (by decide)

/-- The slice at a position after writes beside the slice map. -/
theorem State.convWrites.sliceAt {s t : State} {l : List Fld} (h : s.convWrites t l)
    (hl : ∀ f ∈ l, apart f R.ADC_SMAP0.POS0_7 ∧ apart f R.ADC_SMAP1.POS8_11) (p : Nat) : t.sliceAt p = s.sliceAt p := by
  rw [State.sliceAt, h.get _ fun f hf => (hl f hf).1, h.get _ fun f hf => (hl f hf).2, State.sliceAt]

/-- Without a lost slice the spare goes to NEXTPOS, and the slice displaced becomes the spare. -/
theorem State.swapEffect_rotates {s : State} (h : s.adc.lost = []) : ∃ (c : Cal) (f : Adc → Adc), s.swapEffect =
    (((((s.setSliceAt (s.get R.ADC_CALSTAT.NEXTPOS) (s.get R.ADC_CALSTAT.SPARE)).setCal (s.get R.ADC_CALSTAT.SPARE) c).modAdc f).setB
      R.ADC_CALSTAT.ROTPEND false).set R.ADC_CALSTAT.SPARE (s.sliceAt (s.get R.ADC_CALSTAT.NEXTPOS))).set R.ADC_CALSTAT.NEXTPOS
        ((s.get R.ADC_CALSTAT.NEXTPOS + 1) % 12) := by
  unfold State.swapEffect
  rw [h]
  exact ⟨_, _, rfl⟩

theorem State.swapEffect_spec {s t : State} (hl : s.adc.lost = []) (hn : s.get R.ADC_CALSTAT.NEXTPOS < 12)
    (hs : s.get R.ADC_CALSTAT.SPARE < 13) (ht : s.swapEffect = t) :
    t.bit R.ADC_CALSTAT.ROTPEND = false ∧ t.sliceAt (s.get R.ADC_CALSTAT.NEXTPOS) = s.get R.ADC_CALSTAT.SPARE ∧
      t.get R.ADC_CALSTAT.SPARE = s.sliceAt (s.get R.ADC_CALSTAT.NEXTPOS) ∧
      t.get R.ADC_CALSTAT.NEXTPOS = (s.get R.ADC_CALSTAT.NEXTPOS + 1) % 12 ∧ s.onlyConvDiffers t := by
  obtain ⟨c, f, heq⟩ := State.swapEffect_rotates hl
  rw [← ht, heq]
  have hplaced := s.sliceAt_setSliceAt hn (Nat.lt_trans hs (by decide))
  have hframe := s.setSliceAt_frame (s.get R.ADC_CALSTAT.NEXTPOS) (s.get R.ADC_CALSTAT.SPARE)
  have hold := s.sliceAt_lt (s.get R.ADC_CALSTAT.NEXTPOS)
  generalize s.get R.ADC_CALSTAT.NEXTPOS = p at *
  generalize s.get R.ADC_CALSTAT.SPARE = k at *
  generalize s.setSliceAt p k = v at *
  have hcal : v.convWrites ((v.setCal k c).modAdc f) scalFlds := (v.setCal_writes hs c).modAdc f
  have hvframe : s.onlyConvDiffers ((v.setCal k c).modAdc f) := (hframe.trans (v.setCal_frame k c)).modAdc f
  generalize (v.setCal k c).modAdc f = w at *
  refine ⟨?pend, ?placed, ?spare, ?next, ((hvframe.setB _ _).set _ _).set _ _⟩
  case pend =>
    rw [State.bit_set_other _ _ _ _ (by decide) (by decide), State.bit_set_other _ _ _ _ (by decide) (by decide)]
    exact State.bit_setB_same w _ _ (by decide) (by decide)
  case placed =>
    have hstat : w.convWrites (((w.setB R.ADC_CALSTAT.ROTPEND false).set R.ADC_CALSTAT.SPARE (s.sliceAt p)).set R.ADC_CALSTAT.NEXTPOS
        ((p + 1) % 12)) [R.ADC_CALSTAT.ROTPEND, R.ADC_CALSTAT.SPARE, R.ADC_CALSTAT.NEXTPOS] :=
      (((State.convWrites_refl w _).setB (by simp) _).set (by simp) _).set (by simp) _
    rw [hstat.sliceAt (by decide), hcal.sliceAt (by decide), hplaced]
  case spare =>
    rw [State.get_set_other _ _ _ _ (by decide) (by decide), State.get_set_same _ _ _ (by decide)]
    exact Nat.mod_eq_of_lt hold
  case next =>
    rw [State.get_set_same _ _ _ (by decide)]
    exact Nat.mod_eq_of_lt (Nat.lt_trans (Nat.mod_lt _ (by decide)) (by decide))

theorem execSwapTakesEffect_acts {s : State} (hc : s.coreRuns = true) (hp : s.bit R.ADC_CALSTAT.ROTPEND = true)
    (hq : s.adc.inj.any (fun q => q.marked && q.slot.isNone) = false) (ha : s.adc.swapAt ≤ s.now)
    (hr : s.bit R.ADC_CALCTL.ROTEN = true) : exec .swapTakesEffect s = .next s.swapEffect := by
  change execSwapTakesEffect s = _
  rw [execSwapTakesEffect, if_pos (by simp [hc, hp, hq, ha, State.swapAllowed, hr])]

theorem execSwapTakesEffect_waits {s : State} (h : s.coreRuns = false ∨ s.bit R.ADC_CALSTAT.ROTPEND = false ∨ s.now < s.adc.swapAt ∨
    (s.bit R.ADC_CALCTL.ROTEN = false ∧ s.adc.lost = [])) : exec .swapTakesEffect s = .next s := by
  change execSwapTakesEffect s = _
  rw [execSwapTakesEffect, if_neg]
  rcases h with h | h | h | ⟨hr, hl⟩
  · simp [h]
  · simp [h]
  · simp [Nat.not_le.2 h]
  · simp [State.swapAllowed, hr, hl]

/-! ### The calibration of the spare (07 R167, R168) -/

/-- A displaced slice waits for its calibration. -/
def State.awaitsCal (s : State) : Bool :=
  s.coreRuns && s.bit R.ADC_CALSTAT.INIT && !s.bit R.ADC_CALSTAT.NOSPARE && !s.adc.spareOk

section
variable {s : State} {cal : SliceCal}

theorem execSliceCalibrationDone_idle (h : s.awaitsCal = false) : exec (.sliceCalibrationDone cal) s = .next s := by
  change execSliceCalibrationDone cal s = _
  rw [execSliceCalibrationDone, ← State.awaitsCal, h]
  rfl

theorem execSliceCalibrationDone_within (h : s.awaitsCal = true) (hok : calOk cal = true) : exec (.sliceCalibrationDone cal) s =
    .next (if s.adc.swapWait && s.swapAllowed then
      (s.modAdc fun a => { a with calNew := some (calOf cal), spareOk := true }).swapRegister
      else s.modAdc fun a => { a with calNew := some (calOf cal), spareOk := true }) := by
  change execSliceCalibrationDone cal s = _
  rw [execSliceCalibrationDone, ← State.awaitsCal, h, hok]
  rfl

theorem execSliceCalibrationDone_outside (h : s.awaitsCal = true) (hbad : calOk cal = false) : exec (.sliceCalibrationDone cal) s =
    .next ((s.badSlice (s.get R.ADC_CALSTAT.SPARE) cal.ofs.toInt cal.gndev.toInt).noSpare (s.get R.ADC_CALSTAT.SPARE)) := by
  change execSliceCalibrationDone cal s = _
  rw [execSliceCalibrationDone, ← State.awaitsCal, h, hbad]
  rfl

end

/-- The state that rotation without a spare leaves, before its event. -/
def State.spareGone (s : State) : State :=
  ((s.setB R.ADC_CALSTAT.NOSPARE true).set R.ADC_CALSTAT.SPARE 15).modAdc fun a => { a with spareOk := false, swapWait := false }

theorem State.spareGone_spec (s : State) :
    s.spareGone.bit R.ADC_CALSTAT.NOSPARE = true ∧ s.spareGone.get R.ADC_CALSTAT.SPARE = 15 ∧
    s.spareGone.adc = { s.adc with spareOk := false, swapWait := false } ∧
    s.convWrites s.spareGone ([R.ADC_CALSTAT.NOSPARE, R.ADC_CALSTAT.SPARE] ++ evFields) := by
  rw [State.spareGone]
  refine ⟨?nospare, ?spare, by rw [State.modAdc_adc, State.set_adc, State.setB_adc],
    (((State.convWrites_refl s _).setB (by simp) _).set (by simp) _).modAdc _⟩
  case nospare =>
    rw [State.bit_modAdc, State.bit_set_other _ _ _ _ (by decide) (by decide)]
    exact State.bit_setB_same s _ _ (by decide) (by decide)
  case spare =>
    rw [State.get_modAdc, State.get_set_same _ _ _ (by decide)]
    rfl

theorem State.noSpare_eq (s : State) (k : Nat) :
    s.noSpare k = s.spareGone.raise 0x0609 1 (le 1 k ++ le 1 (s.get R.ADC_CALSTAT.NEXTPOS)) := rfl

theorem State.noSpare_spec (s : State) (k : Nat) :
    (s.noSpare k).bit R.ADC_CALSTAT.NOSPARE = true ∧ (s.noSpare k).get R.ADC_CALSTAT.SPARE = 15 ∧
      (s.noSpare k).adc = { s.adc with spareOk := false, swapWait := false } ∧
      s.convWrites (s.noSpare k) ([R.ADC_CALSTAT.NOSPARE, R.ADC_CALSTAT.SPARE] ++ evFields) := by
  obtain ⟨hno, hspare, hadc, hwrites⟩ := s.spareGone_spec
  rw [State.noSpare_eq]
  exact ⟨(State.bit_raise _ _ _ _ (by decide)).trans hno, (State.get_raise _ _ _ _ _ (by decide)).trans hspare,
    (State.raise_adc _ _ _ _).trans hadc, hwrites.raise _ _ _ (List.subset_append_right _ _)⟩

/-- A spare outside the limits is marked, and rotation stops without a spare. -/
theorem State.spareMarked_spec {s t : State} {k : Nat} {ofs gndev : Int} (ht : (s.badSlice k ofs gndev).noSpare k = t) :
    t.bit R.ADC_CALSTAT.NOSPARE = true ∧ t.get R.ADC_CALSTAT.SPARE = 15 ∧
      t.adc = { s.adc with spareOk := false, swapWait := false } ∧ (k < 13 → t.bitI R.ADC_CALSTAT.BAD k = true) ∧
      s.convWrites t ([R.ADC_CALSTAT.BAD, R.ADC_CALSTAT.NOSPARE, R.ADC_CALSTAT.SPARE] ++ evFields) := by
  obtain ⟨hno, hspare, hadc, hwrites⟩ := (s.badSlice k ofs gndev).noSpare_spec k
  have hbadc : (s.badSlice k ofs gndev).adc = s.adc := State.raise_adc _ _ _ _
  rw [ht] at hno hspare hadc hwrites
  refine ⟨hno, hspare, by rw [hadc, hbadc], fun hk => ?bad, ((s.badSlice_writes k ofs gndev).mono ?_).trans
    (hwrites.mono (List.subset_cons_self _ _))⟩
  case bad =>
    rw [hwrites.within.bitI _ (by decide), State.bad_badSlice s hk, if_pos rfl]
  · exact List.cons_subset_cons _ (List.subset_append_right _ _)

/-! ### The statement of R166 to R169 -/

/-- Settles O25: the slices marked are those whose calibration fails, and a swap is `swapRegister` and then `swapEffect`. -/
theorem calibrationPutsSlicesInService : Obligations.CalibrationPutsSlicesInService := by
  unfold Obligations.CalibrationPutsSlicesInService
  refine ⟨fun cal s hc ht hi hf h13 hok hbad => ?ready, fun cal s hc ht hi hf h13 hfew hbad => ?failed,
    fun cal s hc hi hn hs hok hw => ?within, fun cal s hc hi hn hs hok hw ha => ?registers, fun cal s hc hi hn hs hout => ?outside,
    fun cal s h => ?unawaited, fun c s h hr hp => ?asks, fun c s h hr => ?asksNot, fun s hc hp hq ha hr hl hn hs => ?swaps,
    fun s h => execSwapTakesEffect_waits h⟩
  case ready =>
    obtain ⟨hgood, hbad', hframe⟩ := State.startCals_allOk h13 hok hbad rfl
    have hcals := s.startCals_writes (fst_lt_of_mem_zip_range (cal := cal))
    refine ⟨_, execStartCalibrationDone_runs hc ht hi hf h13, ?_⟩
    obtain ⟨hinit, hspare, hend, hwrites⟩ := State.startCalEnd_ready_spec hgood rfl
    exact ⟨hinit, by rw [hwrites.bit _ (by decide), hcals.bit _ (by decide), hf], (hwrites.get _ (by decide)).trans hbad', hspare,
      hframe.trans hend⟩
  case failed =>
    have hcals := s.startCals_writes (fst_lt_of_mem_zip_range (cal := cal))
    refine ⟨_, execStartCalibrationDone_runs hc ht hi hf h13, ?_⟩
    obtain ⟨hfail, hinit, hspare, hbrk, hnbrk, hframe⟩ :=
      State.startCalEnd_failed_spec (by rwa [State.length_goodSlices h13 hbad]) rfl
    exact ⟨hfail, by rw [hinit, hcals.bit _ (by decide), hi], hspare, hbrk, hnbrk, by rw [hframe, hcals.2]⟩
  case within =>
    rw [execSliceCalibrationDone_within (by simp [State.awaitsCal, hc, hi, hn, hs]) hok,
      if_neg (by rcases hw with h | h <;> simp [h])]
    rfl
  case registers =>
    refine ⟨_, (execSliceCalibrationDone_within (by simp [State.awaitsCal, hc, hi, hn, hs]) hok).trans
      (congrArg _ (if_pos (by simp [hw, ha]))), ?_⟩
    obtain ⟨hpend, hwait, hspare, hcal, hflds, hframe⟩ :=
      (s.modAdc fun a => { a with calNew := some (calOf cal), spareOk := true }).swapRegister_spec
    exact ⟨hpend, hwait, hspare, hcal, hflds, hframe⟩
  case outside =>
    refine ⟨_, execSliceCalibrationDone_outside (by simp [State.awaitsCal, hc, hi, hn, hs]) hout, ?_⟩
    obtain ⟨hno, hspare, hadc, hmark, hflds, hframe⟩ := State.spareMarked_spec (s := s) rfl
    exact ⟨hno, hspare, hadc, hmark, hflds, hframe⟩
  case unawaited =>
    refine execSliceCalibrationDone_idle ?_
    rcases h with h | h | h | h <;> simp [State.awaitsCal, h]
  case asks => exact ⟨_, execSwapAsks_rotates h hr, State.swapAsk_spec hp rfl⟩
  case asksNot =>
    cases hrot : s.rotates
    · exact execSwapAsks_stopped h hrot
    · rw [execSwapAsks_rotates h hrot, State.swapAsk_pending (by simpa [hrot] using hr)]
  case swaps => exact ⟨_, execSwapTakesEffect_acts hc hp hq ha hr, State.swapEffect_spec hl hn hs rfl⟩

end Sys2Proof.Machine
end

section
/-! The requests of the converter: injection, the start of a scan cycle, the read of the queue, the reference and the committed
corrections (07_feedback_converter.md R157, R170 to R177). -/

namespace Sys2Proof.Machine

/-! ### Injection (07 R157, R173) -/

theorem anyScanCode_legal (v : Nat) : scanCode (anyScanCode v) = true := by
  unfold anyScanCode
  split
  · assumption
  · simp [scanCode, Nat.mod_lt v (show 0 < 0x20 by decide)]

theorem anyScanCode_lt (v : Nat) : anyScanCode v < 2 ^ 8 := by
  unfold anyScanCode
  split <;> omega

section
variable {s : State} (hc : s.coreRuns = true)
include hc

theorem execAdcInj_runs (code : BitVec 8) : exec (.adcInj code) s = .next (s.injAct code.toNat) := by
  change execAdcInj code s = _
  rw [execAdcInj, if_pos hc]

theorem execAdcInj_known {code : BitVec 8} (hk : scanCode code.toNat = true) :
    exec (.adcInj code) s = .next (s.inject code.toNat 0) := by
  rw [execAdcInj_runs hc, State.injAct, if_pos hk]

/-- An unknown code acts as a known one, after one free value (00_scope.md R7; log 4). -/
theorem execAdcInj_unknown {code : BitVec 8} (hk : scanCode code.toNat = false) : ∃ k : BitVec 8, scanCode k.toNat = true ∧
    exec (.adcInj code) s = exec (.adcInj k) { s with freeCtr := s.freeCtr + 1 } := by
  have hval : (BitVec.ofNat 8 (anyScanCode (s.freeWord R.ADC_INJ.at).toNat)).toNat = anyScanCode (s.freeWord R.ADC_INJ.at).toNat := by
    rw [BitVec.toNat_ofNat, Nat.mod_eq_of_lt (anyScanCode_lt _)]
  have hknown : scanCode (BitVec.ofNat 8 (anyScanCode (s.freeWord R.ADC_INJ.at).toNat)).toNat = true := by
    rw [hval]
    exact anyScanCode_legal _
  refine ⟨_, hknown, ?_⟩
  change _ = exec _ s.bump
  rw [execAdcInj_known (s := s.bump) hc hknown, execAdcInj_runs hc, State.injAct, if_neg (by simp [hk]), hval]

end

theorem State.inject_queues {s : State} (h : s.injPend.length < 8) (code org : Nat) :
    s.inject code org = s.modAdc fun a => { a with inj := s.injPend ++ [{ code := code, org := org, marked := false }] } := by
  rw [State.inject, if_neg (by omega)]

theorem State.inject_refused {s : State} (h : 8 ≤ s.injPend.length) (code org : Nat) :
    s.inject code org = s.setB R.ADC_INJSTAT.REJ true := by
  rw [State.inject, if_pos h]

/-! ### The start of a scan cycle (07 R170) -/

theorem State.scanList_legal (s : State) : ∀ e ∈ s.scanList, scanCode e.1 = true := by
  intro e he
  obtain ⟨i, -, rfl⟩ := List.mem_map.1 he
  dsimp only
  split
  · assumption
  · exact anyScanCode_legal _

/-- Where every entry in use names a known code, the cycle takes the codes as they stand. -/
theorem State.scanList_known {s : State} (h : s.scanBad = false) :
    s.scanList = ((List.range 32).filter fun i => s.bit (R.ADC_SCAN.EN i)).map fun i =>
      (s.get (R.ADC_SCAN.CODE i), s.bit (R.ADC_SCAN.QEN i)) := by
  refine List.map_congr_left fun i hi => ?_
  obtain ⟨hrange, hen⟩ := List.mem_filter.1 hi
  have hcode : scanCode (s.get (R.ADC_SCAN.CODE i)) = true := by simpa [hen] using List.any_eq_false.1 h i hrange
  dsimp only
  rw [if_pos hcode]

/-- The state after the start of a cycle: the entries to convert, and SCANLATE with its event for a cycle that had to wait. -/
def State.scanStarted (s : State) : State :=
  let s1 := (s.bumpIf s.scanBad).modAdc fun a => { a with scanLeft := s.scanList, scanPend := false }
  if s.adc.scanPend then
    (s1.setB R.ADC_STAT.SCANLATE true).raise 0x0606 0 (le 1 (s.get R.ADC_SCANCTL.SPER) ++ le 3 s.now)
  else s1

theorem State.scanStarted_spec (s : State) :
    s.scanStarted.adc = { s.adc with scanLeft := s.scanList, scanPend := false } ∧
      s.convWrites s.scanStarted (R.ADC_STAT.SCANLATE :: evFields) := by
  unfold State.scanStarted
  extract_lets s1
  have hs1 : s1.adc = { s.adc with scanLeft := s.scanList, scanPend := false } := by
    cases hb : s.scanBad <;> simp only [s1, hb] <;> rfl
  have hwrites : s.convWrites s1 (R.ADC_STAT.SCANLATE :: evFields) := by
    have hbump : s.convWrites (s.bumpIf s.scanBad) (R.ADC_STAT.SCANLATE :: evFields) := by
      cases s.scanBad <;> exact ⟨State.onlyFields_of_regs _ rfl, rfl⟩
    exact hbump.modAdc _
  split
  · exact ⟨(State.raise_adc _ _ _ _).trans ((State.setB_adc _ _ _).trans hs1),
      (hwrites.setB List.mem_cons_self _).raise _ _ _ (List.subset_cons_self _ _)⟩
  · exact ⟨hs1, hwrites⟩

section
variable {s : State}

theorem execScanCycleStart_idle (h : s.coreRuns = false ∨ s.bit R.ADC_CALSTAT.INIT = false) : exec .scanCycleStart s = .next s := by
  change execScanCycleStart s = _
  rw [execScanCycleStart, if_pos (by rcases h with h | h <;> simp [h])]

variable (hc : s.coreRuns = true) (hi : s.bit R.ADC_CALSTAT.INIT = true)
include hc hi

theorem execScanCycleStart_late (hr : s.scanRuns = true) :
    exec .scanCycleStart s = .next (s.modAdc fun a => { a with scanPend := true }) := by
  change execScanCycleStart s = _
  rw [execScanCycleStart, if_neg (by simp [hc, hi]), if_pos hr]

theorem execScanCycleStart_starts (hr : s.scanRuns = false) : exec .scanCycleStart s = .next s.scanStarted := by
  change execScanCycleStart s = _
  rw [execScanCycleStart, if_neg (by simp [hc, hi]), if_neg (by simp [hr])]
  rfl

end

/-! ### The read of the queue (07 R172) -/

theorem State.qRead_spec {s t : State} {w : Word} {k m : Nat} {q : List (Word × Nat)} (h : s.adc.queue = (w, k) :: q)
    (ht : (s.qRead m).1 = t) : t.adc.queue = q ∧ tblGet (fun _ => 0) t.adc.qts m = BitVec.ofNat 32 k ∧
      (∀ l : Nat, l ≠ m → tblGet (fun _ => 0) t.adc.qts l = tblGet (fun _ => 0) s.adc.qts l) ∧
      t = { s with adc := { s.adc with queue := t.adc.queue, qts := t.adc.qts } } := by
  rw [State.qRead, h] at ht
  subst ht
  exact ⟨rfl, tblGet_tblSet_same _ _ _ _, fun l hl => tblGet_tblSet_other _ _ _ hl, rfl⟩

theorem State.qRead_empty {s : State} (h : s.adc.queue = []) (m : Nat) : (s.qRead m).1 = s := by
  rw [State.qRead, h]

/-! ### Every comparator starts (08_monitors_and_protection.md R181) -/

/-- Both filtered states of a monitor are asserted. -/
def State.monAsserted (s : State) (m : Nat) : Prop := s.bit (R.MON_ST.FHI m) = true ∧ s.bit (R.MON_ST.FLO m) = true

/-- The fields of a monitor that its start asserts. -/
def monStartFlds (m : Nat) : List Fld := [R.MON_ST.RLO m, R.MON_ST.FLO m, R.MON_ST.RHI m, R.MON_ST.FHI m]

/-- Nothing but registers and monitors differs. -/
def State.onlyMonDiffers (s t : State) : Prop := t = { s with regs := t.regs, mon := t.mon }

theorem State.onlyMonDiffers.trans {s t u : State} (h : s.onlyMonDiffers t) (k : t.onlyMonDiffers u) : s.onlyMonDiffers u := by
  unfold State.onlyMonDiffers at *
  rw [k, h]

theorem State.onlyMonDiffers.setB {s t : State} (h : s.onlyMonDiffers t) (f : Fld) (b : Bool) : s.onlyMonDiffers (t.setB f b) :=
  h.trans rfl

theorem State.onlyMonDiffers.modMon {s t : State} (h : s.onlyMonDiffers t) (f : Mon → Mon) : s.onlyMonDiffers (t.modMon f) :=
  h.trans rfl

theorem State.onlyMonDiffers_refl (s : State) : s.onlyMonDiffers s := rfl

theorem State.monStart_eq (s : State) {m : Nat} (hm : m < 42) : ∃ f g : Mon → Mon, s.monStart m =
    (((((s.setB (R.MON_ST.RLO m) true).setB (R.MON_ST.FLO m) true).modMon f).setB (R.MON_ST.RHI m) true).setB (R.MON_ST.FHI m)
      true).modMon g := by
  obtain ⟨hlo, heven, hlom⟩ : 2 * m < 84 ∧ 2 * m % 2 ≠ 1 ∧ 2 * m / 2 = m := by omega
  obtain ⟨hhi, hodd, hhim⟩ : 2 * m + 1 < 84 ∧ (2 * m + 1) % 2 = 1 ∧ (2 * m + 1) / 2 = m := by omega
  simp only [State.monStart, State.cmpStart, State.setRaw, State.setFiltered, if_pos hlo, if_neg heven, if_pos hhi, if_pos hodd, hlom,
    hhim]
  exact ⟨_, _, rfl⟩

theorem State.monStart_spec (s : State) {m : Nat} (hm : m < 42) :
    (s.monStart m).monAsserted m ∧ s.writesWithin (s.monStart m) (monStartFlds m) ∧ s.onlyMonDiffers (s.monStart m) := by
  obtain ⟨f, g, heq⟩ := s.monStart_eq hm
  rw [heq]
  refine ⟨⟨?hi, ?lo⟩, ((((((State.writesWithin_refl s _).setB _ _ ?_).setB _ _ ?_).modMon _).setB _ _ ?_).setB _ _ ?_).modMon _,
    (((((s.onlyMonDiffers_refl.setB _ _).setB _ _).modMon _).setB _ _).setB _ _).modMon _⟩
  case hi =>
    rw [State.bit_modMon]
    exact State.bit_setB_same _ _ _ (by decide : 3 < 32) (Nat.le_refl 3)
  case lo =>
    rw [State.bit_modMon, State.bit_setB_other _ _ _ _ (by decide : 2 < 32) (.inr (.inl (by decide : 2 < 3))),
      State.bit_setB_other _ _ _ _ (by decide : 2 < 32) (.inr (.inr (by decide : 1 < 2))), State.bit_modMon]
    exact State.bit_setB_same _ _ _ (by decide : 2 < 32) (Nat.le_refl 2)
  all_goals simp [monStartFlds]

/-- The status register of a monitor lies apart from the fields that the start of another one asserts. -/
theorem monStartFlds_apart {k : Nat} {g : Fld} (h : g.addr ≠ R.MON_ST.at k) : ∀ f ∈ monStartFlds k, apart f g := by
  intro f hf
  simp only [monStartFlds, List.mem_cons, List.not_mem_nil, or_false] at hf
  rcases hf with rfl | rfl | rfl | rfl <;> exact .inl (Ne.symm h)

/-- Monitors that start keep what others have asserted. -/
theorem State.monAsserted.monStart {s : State} {m k : Nat} (h : s.monAsserted m) (hk : k < 42) : (s.monStart k).monAsserted m := by
  obtain ⟨hown, hwrites, -⟩ := s.monStart_spec hk
  by_cases hmk : m = k
  · rwa [hmk]
  · have haddr : R.MON_ST.at m ≠ R.MON_ST.at k := by unfold R.MON_ST.at; omega
    exact ⟨(hwrites.bit _ (monStartFlds_apart haddr)).trans h.1, (hwrites.bit _ (monStartFlds_apart haddr)).trans h.2⟩

theorem State.foldl_monStart_spec {l : List Nat} (hl : ∀ k ∈ l, k < 42) (s : State) :
    (∀ m : Nat, m ∈ l ∨ s.monAsserted m → (l.foldl State.monStart s).monAsserted m) ∧
      (∀ g : Fld, g.addr < R.MON_ST.at 0 → (l.foldl State.monStart s).get g = s.get g) ∧
      s.onlyMonDiffers (l.foldl State.monStart s) := by
  induction l generalizing s with
  | nil => exact ⟨fun m hm => hm.resolve_left List.not_mem_nil, fun _ _ => rfl, rfl⟩
  | cons k l ih =>
    have hk := hl k List.mem_cons_self
    obtain ⟨hown, hwrites, hframe⟩ := s.monStart_spec hk
    obtain ⟨hall, hkeeps, hrest⟩ := ih (fun j hj => hl j (List.mem_cons_of_mem k hj)) (s.monStart k)
    refine ⟨fun m hm => hall m ?_, fun g hg => (hkeeps g hg).trans (hwrites.get g (monStartFlds_apart ?_)), hframe.trans hrest⟩
    · rcases hm with hm | hm
      · rcases List.mem_cons.1 hm with rfl | hm
        · exact .inr hown
        · exact .inl hm
      · exact .inr (hm.monStart hk)
    · unfold R.MON_ST.at at *
      omega

theorem State.allMonStart_spec (s : State) :
    (∀ m : Nat, m < 42 → s.allMonStart.monAsserted m) ∧ (∀ g : Fld, g.addr < R.MON_ST.at 0 → s.allMonStart.get g = s.get g) ∧
      s.onlyMonDiffers s.allMonStart := by
  obtain ⟨hall, hkeeps, hframe⟩ := State.foldl_monStart_spec (l := List.range 42) (fun _ hk => List.mem_range.1 hk) s
  exact ⟨fun m hm => hall m (.inl (List.mem_range.2 hm)), hkeeps, hframe⟩

/-! ### The reference (07 R174) -/

theorem execReferenceSelect_runs {s t : State} (hc : s.coreRuns = true) {src : BitVec 2} (ht : s.refWrite src.toNat = t) :
    exec (.referenceSelect src) s = .next t.settle := by
  change execReferenceSelect src s = _
  rw [execReferenceSelect, if_pos hc, ht]

/-- A change asked for while a loop runs is refused. -/
theorem State.refWrite_refused {s u : State} {src : Nat} (h : ∃ d : Nat, d < 4 ∧ s.get (R.LFC_RUN.RUN d) ≠ 0)
    (hu : s.refWrite src = u) : u.bit R.ADC_STAT.REFREJ = true ∧ s.onlyFields u (R.ADC_STAT.REFREJ :: evFields) ∧
      s.onlyRegsFlsDiffer u := by
  obtain ⟨d, hd, hrun⟩ := h
  rw [State.refWrite, if_pos (List.any_eq_true.2 ⟨d, List.mem_range.2 hd, by simpa using hrun⟩)] at hu
  subst hu
  refine ⟨?_, (((State.convWrites_refl s _).setB List.mem_cons_self _).raise _ _ _ (List.subset_cons_self _ _)).1,
    ((State.onlyRegsFlsDiffer_refl s).setB _ _).raise _ _ _⟩
  rw [State.bit_raise _ _ _ _ (by decide)]
  exact State.bit_setB_same s _ _ (by decide) (by decide)

theorem State.refWrite_changes {s : State} (h : ∀ d : Nat, d < 4 → s.get (R.LFC_RUN.RUN d) = 0) (ht : s.pwr.htRun = false)
    (src : Nat) : s.refWrite src = (s.set R.ADC_REFCTL.SRC src).refChange := by
  have hstill : ((List.range 4).any fun d => s.get (R.LFC_RUN.RUN d) != 0) = false :=
    List.any_eq_false.2 fun d hd => by simp [h d (List.mem_range.1 hd)]
  rw [State.refWrite, hstill, if_neg (by decide)]
  exact if_neg (by rw [ht]; decide)

/-- A change of the reference under way, before the comparators start. -/
def State.refBegun (s : State) : State :=
  (s.setB R.ADC_REFCTL.SETTLING true).modAdc fun a => { a with refAt := some (((s.now / 48 + 1) * 48 : Nat) : Int), refNext := none }

theorem State.refChange_eq (s : State) : s.refChange = s.refBegun.allMonStart := rfl

theorem State.refBegun_spec (s : State) : s.refBegun.get R.ADC_REFCTL.SRC = s.get R.ADC_REFCTL.SRC ∧
    s.refBegun.bit R.ADC_REFCTL.SETTLING = true ∧ s.refBegun.adc.refAt = some (((s.now / 48 + 1) * 48 : Nat) : Int) ∧
    s.onlyConvDiffers s.refBegun := by
  refine ⟨?_, ?_, by rw [State.refBegun, State.modAdc_adc], (s.onlyConvDiffers_refl.setB _ _).modAdc _⟩
  · rw [State.refBegun, State.get_modAdc]
    exact State.get_set_other s _ _ _ (by decide) (by decide)
  · rw [State.refBegun, State.bit_modAdc]
    exact State.bit_setB_same s _ _ (by decide) (by decide)

theorem State.refChange_spec {s u : State} (hu : s.refChange = u) : u.get R.ADC_REFCTL.SRC = s.get R.ADC_REFCTL.SRC ∧
    u.bit R.ADC_REFCTL.SETTLING = true ∧ u.adc.refAt = some (((s.now / 48 + 1) * 48 : Nat) : Int) ∧
    u = { s with regs := u.regs, adc := u.adc, mon := u.mon } := by
  obtain ⟨hsrc, hset, hat, hconv⟩ := s.refBegun_spec
  obtain ⟨-, hkeeps, hmon⟩ := s.refBegun.allMonStart_spec
  rw [← State.refChange_eq, hu] at hkeeps hmon
  generalize s.refBegun = v at *
  refine ⟨(hkeeps _ (by decide)).trans hsrc, ?settling, ?reference, ?frame⟩
  case settling => rw [State.bit, hkeeps _ (by decide), ← State.bit, hset]
  case reference => rw [hmon, ← hat]
  case frame =>
    unfold State.onlyMonDiffers at hmon
    unfold State.onlyConvDiffers at hconv
    rw [hmon, hconv]

theorem State.refSettled_spec {s u : State} (hu : (s.setB R.ADC_REFCTL.SETTLING false).allMonStart = u) :
    u.bit R.ADC_REFCTL.SETTLING = false ∧ (∀ m : Nat, m < 42 → u.monAsserted m) ∧ s.onlyMonDiffers u := by
  obtain ⟨hall, hkeeps, hframe⟩ := (s.setB R.ADC_REFCTL.SETTLING false).allMonStart_spec
  rw [hu] at hall hkeeps hframe
  refine ⟨?_, hall, (s.onlyMonDiffers_refl.setB _ _).trans hframe⟩
  rw [State.bit, hkeeps _ (by decide), ← State.bit]
  exact State.bit_setB_same s _ _ (by decide) (by decide)

theorem execReferenceSettled_settles {s : State} (hc : s.coreRuns = true) (hs : s.bit R.ADC_REFCTL.SETTLING = true) :
    exec .referenceSettled s = .next (s.setB R.ADC_REFCTL.SETTLING false).allMonStart.settle := by
  change execReferenceSettled s = _
  rw [execReferenceSettled, if_pos (by simp [hc, hs])]

theorem execReferenceSettled_idle {s : State} (h : s.coreRuns = false ∨ s.bit R.ADC_REFCTL.SETTLING = false) :
    exec .referenceSettled s = .next s := by
  change execReferenceSettled s = _
  rw [execReferenceSettled, if_neg (by rcases h with h | h <;> simp [h])]

/-! ### Committed corrections (07 R177) -/

theorem execAdcCorrsCommit_runs {code : BitVec 8} {s : State} (hc : s.coreRuns = true) (hk : corrCode code.toNat = true) (w : Word) :
    exec (.adcCorrsCommit code w) s = .next (s.corrCommit code.toNat w) := by
  change execAdcCorrsCommit code w s = _
  rw [execAdcCorrsCommit, if_pos (by simp [hc, hk])]

theorem execAdcCorrsCommit_idle {code : BitVec 8} {s : State} (h : s.coreRuns = false ∨ corrCode code.toNat = false) (w : Word) :
    exec (.adcCorrsCommit code w) s = .next s := by
  change execAdcCorrsCommit code w s = _
  rw [execAdcCorrsCommit, if_neg (by rcases h with h | h <;> simp [h])]

theorem corrAddr_ne (c : Nat) : (corrAddr c).1 ≠ (corrAddr c).2 := by
  unfold corrAddr R.ADC_CORRM.at R.ADC_CORRS.at R.ADC_CORRMB.at R.ADC_CORRSB.at
  split <;> (dsimp only; omega)

theorem State.corrPut_spec (s : State) (c : Nat) (m w : Word) : (s.corrPut c m w).reg (corrAddr c).1 = m ∧
    s.onlyRegs (s.corrPut c m w) [(corrAddr c).1, (corrAddr c).2] ∧ s.onlyConvDiffers (s.corrPut c m w) := by
  obtain ⟨hregs, hframe⟩ := (s.setReg (corrAddr c).1 m).plainWrite_frame (corrAddr c).2 w
  unfold State.corrPut
  extract_lets old
  generalize (s.setReg (corrAddr c).1 m).plainWrite (corrAddr c).2 w = t at *
  refine ⟨?mantissa, fun a ha => ?other, ?frame⟩
  case mantissa => exact (hregs _ (by simpa using corrAddr_ne c)).trans (State.reg_setReg_same s _ m)
  case other =>
    simp only [List.mem_cons, List.not_mem_nil, or_false, not_or] at ha
    exact (hregs a (by simpa using ha.2)).trans (State.reg_setReg_other s m ha.1)
  case frame =>
    have ht : s.onlyConvDiffers t := by
      unfold State.onlyConvDiffers
      rw [hframe]
      rfl
    exact ht.modAdc _

theorem State.corrCommit_held {s : State} {c : Nat} (h : ∀ d : Nat, codeDom c = some d → dstRuns (s.dom d).dst = false) (w : Word) :
    s.corrCommit c w = s.corrPut c s.adc.corrHold w := by
  have hnone : ((codeDom c).any fun d => dstRuns (s.dom d).dst) = false := by
    cases hd : codeDom c with
    | none => rfl
    | some d => exact h d hd
  rw [State.corrCommit, hnone, if_neg (by decide)]

/-- The entry of a code of a running domain takes free words (00_scope.md R7; log 4). -/
theorem State.corrCommit_free {s : State} {c d : Nat} (hd : codeDom c = some d) (hr : dstRuns (s.dom d).dst = true) (w : Word) :
    ∃ m v : Word, s.corrCommit c w = s.bump.corrPut c m v := by
  rw [State.corrCommit, if_pos (by simp [hd, hr])]
  exact ⟨_, _, rfl⟩

/-! ### The statement of R157 and R170 to R177 -/

/-- Settles O26: queues change the converter alone, a reference change ends in `allMonStart`, and a commit is one `corrPut`. -/
theorem converterRequestsQueueReadAndCommit : Obligations.ConverterRequestsQueueReadAndCommit := by
  unfold Obligations.ConverterRequestsQueueReadAndCommit
  refine ⟨fun code s hc hk hn => ?injects, fun code s hc hk hn => ?refuses, fun code s hc hk => execAdcInj_unknown hc hk,
    fun s hc hi hr => ?scans, fun s hc hi hr => execScanCycleStart_late hc hi hr, fun s h => execScanCycleStart_idle h,
    fun m w k q s hc hq => ?reads, fun m s hq => ?empty, fun src s hc h => ?refRefused, fun src s hc h ht => ?refChanges,
    fun s hc hs => ?settled, fun s h => execReferenceSettled_idle h, fun code w s hc hk hd => ?commits,
    fun code w d s hc hk hd hr => ?free, fun code w s h => execAdcCorrsCommit_idle h w⟩
  case injects => rw [execAdcInj_known hc hk, State.inject_queues hn, State.modAdc]
  case refuses =>
    refine ⟨_, (execAdcInj_known hc hk).trans (congrArg _ (State.inject_refused hn _ _)), ?_⟩
    exact ⟨State.bit_setB_same s _ _ (by decide) (by decide), State.onlyFields_setB s _ _, State.onlyRegsDiffer_set s _ _⟩
  case scans =>
    obtain ⟨hadc, hflds, hframe⟩ := s.scanStarted_spec
    exact ⟨_, execScanCycleStart_starts hc hi hr, hadc, s.scanList_legal, State.scanList_known, hflds, hframe⟩
  case reads =>
    refine ⟨(s.qRead m).1, ?_, State.qRead_spec hq rfl⟩
    change execAdcQdataRead m s = _
    rw [execAdcQdataRead, if_pos hc]
  case empty =>
    change execAdcQdataRead m s = _
    rw [execAdcQdataRead, State.qRead_empty hq, ite_self]
  case refRefused => exact ⟨_, execReferenceSelect_runs hc rfl, State.refWrite_refused h rfl⟩
  case refChanges =>
    refine ⟨_, execReferenceSelect_runs hc (State.refWrite_changes h ht _), ?_⟩
    obtain ⟨hsrc, hset, hat, hframe⟩ := State.refChange_spec (s := s.set R.ADC_REFCTL.SRC src.toNat) rfl
    refine ⟨hsrc.trans ?_, hset, hat, hframe⟩
    rw [State.get_set_same _ _ _ (by decide)]
    exact Nat.mod_eq_of_lt src.isLt
  case settled => exact ⟨_, execReferenceSettled_settles hc hs, State.refSettled_spec rfl⟩
  case commits =>
    exact ⟨_, (execAdcCorrsCommit_runs hc hk w).trans (congrArg _ (State.corrCommit_held hd w)), s.corrPut_spec _ _ w⟩
  case free =>
    obtain ⟨m, v, heq⟩ := State.corrCommit_free hd hr w
    obtain ⟨-, hregs, hframe⟩ := s.bump.corrPut_spec code.toNat m v
    exact ⟨_, (execAdcCorrsCommit_runs hc hk w).trans (congrArg _ heq), hregs, hframe⟩

end Sys2Proof.Machine
end

section
/-! The window monitors and the driver-fault inputs: the levels that their status registers show
(08_monitors_and_protection.md R190, R196). -/

namespace Sys2Proof.Machine

-- Proofs in the thread that reads the text, and small terms: the one text compiles within the memory of its check only while few
-- threads run beside it and its compiled form stays below 64 MiB.
set_option deprecated.oldSectionVars true

/-! ### What a command of the monitors may change -/

/-- Registers differ in the fields listed at most; beside them only the monitors do. -/
def State.monWrites (s t : State) (l : List Fld) : Prop := s.onlyFields t l ∧ s.onlyMonDiffers t

/-- A change within fields is a change within their registers. -/
theorem State.onlyFields.regs {s t : State} {l : List Fld} {as : List Nat} (h : s.onlyFields t l) (ha : ∀ f ∈ l, f.addr ∈ as) :
    s.onlyRegs t as :=
  fun a hout => BitVec.eq_of_getLsbD_eq fun i _ => h a i fun f hf hin => hout (hin.1 ▸ ha f hf)

section
variable {s t u : State} {l m : List Fld}

theorem State.monWrites_refl (s : State) (l : List Fld) : s.monWrites s l := ⟨State.onlyFields_refl s l, rfl⟩

theorem State.monWrites.trans (h : s.monWrites t l) (k : t.monWrites u l) : s.monWrites u l :=
  ⟨State.onlyFields_trans_same h.1 k.1, h.2.trans k.2⟩

theorem State.monWrites.mono (h : s.monWrites t l) (hm : l ⊆ m) : s.monWrites t m :=
  ⟨State.onlyFields_mono h.1 fun _ hf => hm hf, h.2⟩

theorem State.monWrites.set (h : s.monWrites t l) {f : Fld} (hf : f ∈ l) (v : Nat) : s.monWrites (t.set f v) l :=
  h.trans ⟨State.onlyFields_mono (State.onlyFields_set t f v) fun _ hg => List.mem_singleton.1 hg ▸ hf, rfl⟩

theorem State.monWrites.modMon (h : s.monWrites t l) (f : Mon → Mon) : s.monWrites (t.modMon f) l :=
  h.trans ⟨State.onlyFields_of_regs l rfl, rfl⟩

theorem State.monWrites.get (h : s.monWrites t l) (g : Fld) (hg : ∀ f ∈ l, apart f g) : t.get g = s.get g :=
  State.onlyFields_get h.1 g hg

end

/-! ### The levels shown (08 R196) -/

/-- Where the status registers show level k of source i: its raw level for k = 0, the filtered one for 1, its latch for 2. -/
def srcFld (k i : Nat) : Fld :=
  if i < 84 then ⟨R.MON_ST.at (i / 2), 2 * k + i % 2, 2 * k + i % 2⟩ else ⟨R.MON_NFST.at, 8 * k + 7, 8 * k⟩

/-- Level k of a comparator or a driver-fault input. -/
def State.level (s : State) (k i : Nat) : Bool := if i < 84 then s.bit (srcFld k i) else s.bitI (srcFld k i) (i - 84)

/-- Level k of a comparator or a driver-fault input written. -/
def State.setLevel (s : State) (k i : Nat) (b : Bool) : State :=
  if i < 84 then s.setB (srcFld k i) b else s.setI (srcFld k i) (i - 84) b

theorem lo_half (m : Nat) : 2 * m / 2 = m := Nat.mul_div_cancel_left m (by decide)

theorem hi_half (m : Nat) : (2 * m + 1) / 2 = m := Nat.mul_add_div (by decide : 0 < 2) m 1

theorem lo_lt {m : Nat} (hm : m < 42) : 2 * m < 84 := Nat.mul_lt_mul_of_pos_left hm (by decide)

theorem hi_lt {m : Nat} (hm : m < 42) : 2 * m + 1 < 84 := Nat.mul_le_mul_left 2 (Nat.succ_le_of_lt hm)

theorem source_of_mon {i : Nat} (h : i < 84) : i < 92 := Nat.lt_trans h (by decide)

theorem hi_ne_lo (m : Nat) : 2 * m + 1 ≠ 2 * m := Nat.succ_ne_self _

theorem srcFld_mon {i : Nat} (h : i < 84) (k : Nat) : srcFld k i = ⟨R.MON_ST.at (i / 2), 2 * k + i % 2, 2 * k + i % 2⟩ := if_pos h

theorem srcFld_nflt {i : Nat} (h : ¬i < 84) (k : Nat) : srcFld k i = ⟨R.MON_NFST.at, 8 * k + 7, 8 * k⟩ := if_neg h

theorem srcFld_hi {m : Nat} (hm : m < 42) (k : Nat) : srcFld k (2 * m + 1) = ⟨R.MON_ST.at m, 2 * k + 1, 2 * k + 1⟩ := by
  rw [srcFld_mon (hi_lt hm), Nat.mul_add_mod, hi_half]

theorem srcFld_lo {m : Nat} (hm : m < 42) (k : Nat) : srcFld k (2 * m) = ⟨R.MON_ST.at m, 2 * k, 2 * k⟩ := by
  rw [srcFld_mon (lo_lt hm), Nat.mul_mod_right, lo_half, Nat.add_zero]

/-- The field of a comparator, by its place in the register. -/
theorem srcFld_cases {α : Type} (f : Fld → α) {i : Nat} (h : i < 84) (k : Nat) : f (srcFld k i) =
    if i % 2 = 1 then f ⟨R.MON_ST.at (i / 2), 2 * k + 1, 2 * k + 1⟩ else f ⟨R.MON_ST.at (i / 2), 2 * k, 2 * k⟩ := by
  rw [srcFld_mon h]
  by_cases ho : i % 2 = 1
  · rw [if_pos ho, ho]
  · rw [if_neg ho, (Nat.mod_two_eq_zero_or_one i).resolve_right ho, Nat.add_zero]

theorem State.level_eq (s : State) (k i : Nat) : s.level k i =
    if i < 84 then
      if i % 2 = 1 then s.bit ⟨R.MON_ST.at (i / 2), 2 * k + 1, 2 * k + 1⟩ else s.bit ⟨R.MON_ST.at (i / 2), 2 * k, 2 * k⟩
    else s.bitI ⟨R.MON_NFST.at, 8 * k + 7, 8 * k⟩ (i - 84) :=
  ite_congr rfl (fun h => srcFld_cases s.bit h k) fun h => congrArg (s.bitI · (i - 84)) (srcFld_nflt h k)

theorem State.setLevel_eq (s : State) (k i : Nat) (b : Bool) : s.setLevel k i b =
    if i < 84 then
      if i % 2 = 1 then s.setB ⟨R.MON_ST.at (i / 2), 2 * k + 1, 2 * k + 1⟩ b else s.setB ⟨R.MON_ST.at (i / 2), 2 * k, 2 * k⟩ b
    else s.setI ⟨R.MON_NFST.at, 8 * k + 7, 8 * k⟩ (i - 84) b :=
  ite_congr rfl (fun h => srcFld_cases (s.setB · b) h k) fun h => congrArg (s.setI · (i - 84) b) (srcFld_nflt h k)

theorem State.filtered_eq_level (s : State) (i : Nat) : s.filtered i = s.level 1 i := (s.level_eq 1 i).symm

theorem State.srcLat_eq_level (s : State) {i : Nat} (hi : i < 92) : s.srcLat i = s.level 2 i :=
  (ite_congr rfl (fun _ => rfl) fun _ => if_pos hi).trans (s.level_eq 2 i).symm

theorem State.setRaw_eq_setLevel (s : State) (i : Nat) (b : Bool) : s.setRaw i b = s.setLevel 0 i b := (s.setLevel_eq 0 i b).symm

theorem State.setFiltered_eq_setLevel (s : State) (i : Nat) (b : Bool) : s.setFiltered i b = s.setLevel 1 i b :=
  (s.setLevel_eq 1 i b).symm

theorem State.setLat_eq_setLevel (s : State) {i : Nat} (hi : i < 92) (b : Bool) : s.setLat i b = s.setLevel 2 i b :=
  (ite_congr rfl (fun _ => rfl) fun _ => if_pos hi).trans (s.setLevel_eq 2 i b).symm

/-! ### The fields of the levels -/

theorem monStatus_ne {m n : Nat} (h : m ≠ n) : R.MON_ST.at m ≠ R.MON_ST.at n :=
  fun he => h (Nat.eq_of_mul_eq_mul_left (by decide : 0 < 4) (Nat.add_left_cancel he))

theorem monStatus_lt {m : Nat} (hm : m < 84) : R.MON_ST.at m < R.MON_NFST.at :=
  Nat.lt_of_lt_of_le (Nat.add_lt_add_left (Nat.mul_lt_mul_of_pos_left hm (by decide)) _) (by decide)

theorem monStatus_lt_nfst {i : Nat} (h : i < 84) : R.MON_ST.at (i / 2) < R.MON_NFST.at :=
  monStatus_lt (Nat.lt_of_le_of_lt (Nat.div_le_self i 2) h)

theorem nfstLevel_lt {k l : Nat} (h : k < l) : 8 * k + 7 < 8 * l := Nat.mul_le_mul_left 8 (Nat.succ_le_of_lt h)

theorem nfstLevel_hi {k : Nat} (hk : k < 3) : 8 * k + 7 < 32 := nfstLevel_lt (Nat.lt_trans hk (by decide : 3 < 4))

theorem nfstLevel_width (k : Nat) {i : Nat} (hi : i < 92) : i - 84 < 8 * k + 7 + 1 - 8 * k :=
  Nat.lt_of_lt_of_eq (Nat.lt_succ_of_le (Nat.sub_le_sub_right (Nat.le_of_lt_succ hi) 84)) (Nat.add_sub_cancel_left (8 * k) 8).symm

theorem statusBit_lt {k n : Nat} (h : k < n) (i : Nat) : 2 * k + i % 2 < 2 * n :=
  Nat.lt_of_lt_of_le (Nat.add_lt_add_left (Nat.mod_lt i (by decide)) _) (Nat.mul_le_mul_left 2 (Nat.succ_le_of_lt h))

theorem statusBit_level (k i : Nat) : (2 * k + i % 2) / 2 = k :=
  (Nat.mul_add_div (by decide) k _).trans (congrArg (k + ·) (Nat.div_eq_of_lt (Nat.mod_lt i (by decide))))

theorem statusBit_parity (k i : Nat) : (2 * k + i % 2) % 2 = i % 2 := (Nat.mul_add_mod 2 k _).trans (Nat.mod_mod i 2)

/-- Two levels that share a status register and a bit are one level of one comparator. -/
theorem statusBit_inj {k l i j : Nat} (hhalf : i / 2 = j / 2) (h : 2 * k + i % 2 = 2 * l + j % 2) : k = l ∧ i = j :=
  ⟨(statusBit_level k i).symm.trans ((congrArg (· / 2) h).trans (statusBit_level l j)),
    (Nat.div_add_mod i 2).symm.trans ((congrArg₂ (2 * · + ·) hhalf ((statusBit_parity k i).symm.trans ((congrArg (· % 2) h).trans
      (statusBit_parity l j)))).trans (Nat.div_add_mod j 2))⟩

theorem srcFld_addr (k i : Nat) : (srcFld k i).addr = if i < 84 then R.MON_ST.at (i / 2) else R.MON_NFST.at :=
  apply_ite Fld.addr _ _ _

theorem srcFld_addr_ge (k i : Nat) : R.MON_ST.at 0 ≤ (srcFld k i).addr := by
  rw [srcFld_addr]
  split
  · exact Nat.add_le_add_left (Nat.zero_le _) _
  · decide

theorem srcFld_addr_le (k i : Nat) : (srcFld k i).addr ≤ R.MON_NFST.at := by
  rw [srcFld_addr]
  split
  · exact Nat.le_of_lt (monStatus_lt_nfst (by assumption))
  · exact Nat.le_refl _

/-- Two levels lie in fields of their own, but for the same level of two driver-fault inputs. -/
theorem srcFld_apart {k l i j : Nat} (h : k ≠ l ∨ (i ≠ j ∧ (i < 84 ∨ j < 84))) : apart (srcFld k i) (srcFld l j) := by
  by_cases hi : i < 84
  · rw [srcFld_mon hi]
    by_cases hj : j < 84
    · rw [srcFld_mon hj]
      by_cases hhalf : j / 2 = i / 2
      · exact .inr (Nat.lt_or_gt_of_ne fun he => (statusBit_inj hhalf he).elim fun hk hij =>
          h.elim (fun h => h hk.symm) fun h => h.1 hij.symm)
      · exact .inl (monStatus_ne (Ne.symm hhalf))
    · rw [srcFld_nflt hj]
      exact .inl (Nat.ne_of_lt (monStatus_lt_nfst hi))
  · rw [srcFld_nflt hi]
    by_cases hj : j < 84
    · rw [srcFld_mon hj]
      exact .inl (Nat.ne_of_gt (monStatus_lt_nfst hj))
    · rw [srcFld_nflt hj]
      exact .inr ((Nat.lt_or_gt_of_ne (h.resolve_right fun h => h.2.elim hi hj)).symm.imp nfstLevel_lt nfstLevel_lt)

/-! ### A level read after a level is written -/

theorem State.setLevel_writes (s : State) (k i : Nat) (b : Bool) : s.monWrites (s.setLevel k i b) [srcFld k i] := by
  unfold State.setLevel
  split
  · exact (s.monWrites_refl _).set List.mem_cons_self _
  · exact (s.monWrites_refl _).set List.mem_cons_self _

theorem State.level_apart {s t : State} {l : List Fld} (h : s.onlyFields t l) {k i : Nat} (hl : ∀ f ∈ l, apart f (srcFld k i)) :
    t.level k i = s.level k i := by
  unfold State.level State.bit State.bitI
  rw [State.onlyFields_get h _ hl]

theorem State.level_setLevel_same (s : State) {k i : Nat} (hk : k < 3) (hi : i < 92) (b : Bool) :
    (s.setLevel k i b).level k i = b := by
  unfold State.setLevel State.level
  by_cases h : i < 84
  · rw [if_pos h, if_pos h, srcFld_mon h]
    exact State.bit_setB_same s _ b (Nat.lt_trans (statusBit_lt hk i) (by decide)) (Nat.le_refl _)
  · rw [if_neg h, if_neg h, srcFld_nflt h]
    exact (State.bitI_setI s (nfstLevel_hi hk) (nfstLevel_width k hi) b _).trans (if_pos rfl)

theorem State.level_setLevel_nflt (s : State) {k i j : Nat} (hk : k < 3) (hi : i < 92) (hni : ¬i < 84) (hnj : ¬j < 84) (h : i ≠ j)
    (b : Bool) : (s.setLevel k i b).level k j = s.level k j := by
  have hne : j - 84 ≠ i - 84 := fun he => h ((Nat.sub_add_cancel (Nat.le_of_not_lt hni)).symm.trans
    ((congrArg (· + 84) he.symm).trans (Nat.sub_add_cancel (Nat.le_of_not_lt hnj))))
  unfold State.setLevel State.level
  rw [if_neg hni, if_neg hnj, if_neg hnj, srcFld_nflt hni, srcFld_nflt hnj]
  exact (State.bitI_setI s (nfstLevel_hi hk) (nfstLevel_width k hi) b _).trans (if_neg hne)

theorem State.level_setLevel_other (s : State) {k l i j : Nat} (hk : k < 3) (hi : i < 92) (h : k ≠ l ∨ i ≠ j) (b : Bool) :
    (s.setLevel k i b).level l j = s.level l j := by
  by_cases hap : k ≠ l ∨ (i ≠ j ∧ (i < 84 ∨ j < 84))
  · exact State.level_apart (s.setLevel_writes k i b).1 (List.forall_mem_singleton.2 (srcFld_apart hap))
  · obtain ⟨hkl, hij⟩ := not_or.1 hap
    have hij' := h.resolve_left hkl
    obtain ⟨hni, hnj⟩ := not_or.1 fun hmon => hij ⟨hij', hmon⟩
    exact not_not.1 hkl ▸ s.level_setLevel_nflt hk hi hni hnj hij' b

end Sys2Proof.Machine
end

section
/-! The latches of the monitors and of the driver-fault inputs, and the ball that waited out its dead time
(08_monitors_and_protection.md R190, R197; 06_edges_and_phases.md R147). -/

namespace Sys2Proof.Machine

-- Proofs in the thread that reads the text, and small terms: the one text compiles within the memory of its check only while few
-- threads run beside it and its compiled form stays below 64 MiB.
set_option deprecated.oldSectionVars true

/-- The condition of a source is its filtered level, but for the masked inputs of drivers (08 R184, R185). -/
theorem State.srcCond_eq (s : State) {i : Nat} (hi : i < 92) :
    s.srcCond i = (s.level 1 i && !(decide (84 ≤ i) && s.nfltMasked ((i - 84) / 2))) := by
  rw [← State.filtered_eq_level]
  unfold State.srcCond State.filtered
  by_cases h : i < 84
  · rw [if_pos h, if_pos h, decide_eq_false (Nat.not_le.2 h)]
    exact (Bool.and_true _).symm
  · rw [if_neg h, if_neg h, if_pos hi, decide_eq_true (Nat.not_lt.1 h)]
    rfl

/-- No event writes the status registers of monitors and driver-fault inputs. -/
theorem evFields_apart_srcFld (k i : Nat) : ∀ f ∈ evFields, apart f (srcFld k i) := by
  have houtside : ∀ f ∈ evFields, f.addr < R.MON_ST.at 0 ∨ R.MON_NFST.at < f.addr := by decide
  exact fun f hf => .inl ((houtside f hf).elim (fun hlt => Nat.ne_of_lt (Nat.lt_of_lt_of_le hlt (srcFld_addr_ge k i)))
    fun hgt => Nat.ne_of_gt (Nat.lt_of_le_of_lt (srcFld_addr_le k i) hgt))

/-- What a latch bit of source i may change: of the others it leaves latch and condition. -/
def State.clearsLatch (s u : State) (i : Nat) : Prop :=
  (∀ j : Nat, j < 92 → j ≠ i → u.srcLat j = s.srcLat j) ∧ (∀ j : Nat, j < 92 → u.srcCond j = s.srcCond j) ∧
    s.onlyFields u (srcFld 2 i :: evFields) ∧ s.onlyRegsFlsDiffer u

/-- A latch cleared, with its event. -/
def State.unlatched (s : State) (i src : Nat) : State := (s.setLevel 2 i false).raise 0x0705 0 (le 1 src ++ le 3 s.now)

theorem State.latchBit_eq (s : State) {i : Nat} (hi : i < 92) (src : Nat) (written : Bool) :
    s.latchBit i src written = if written && s.srcLat i && !s.srcCond i then s.unlatched i src else s :=
  congrArg (fun t : State => if written && s.srcLat i && !s.srcCond i then t.raise 0x0705 0 (le 1 src ++ le 3 s.now) else s)
    (s.setLat_eq_setLevel hi false)

theorem State.level_raise (s : State) (code sev : Nat) (data : List Byte) (k i : Nat) :
    (s.raise code sev data).level k i = s.level k i :=
  State.level_apart (State.raise_frame s code sev data).2 (evFields_apart_srcFld k i)

theorem State.unlatched_srcLat (s : State) {i : Nat} (hi : i < 92) (src : Nat) : (s.unlatched i src).srcLat i = false :=
  (State.srcLat_eq_level _ hi).trans ((State.level_raise _ _ _ _ 2 i).trans (s.level_setLevel_same (by decide) hi false))

theorem State.onlyRegsFlsDiffer.cond {s t : State} (h : s.onlyRegsFlsDiffer t) {j : Nat} (hj : j < 92)
    (hlevel : t.level 1 j = s.level 1 j) : t.srcCond j = s.srcCond j := by
  rw [State.srcCond_eq t hj, State.srcCond_eq s hj, hlevel, h]
  rfl

theorem State.unlatched_clears (s : State) {i : Nat} (hi : i < 92) (src : Nat) : s.clearsLatch (s.unlatched i src) i := by
  have hframe : s.onlyRegsFlsDiffer (s.unlatched i src) := by
    refine State.onlyRegsFlsDiffer.raise ?_ _ _ _
    unfold State.setLevel
    split
    · exact State.onlyRegsFlsDiffer_set s _ _
    · exact State.onlyRegsFlsDiffer_set s _ _
  have hlevel : ∀ k j : Nat, 2 ≠ k ∨ i ≠ j → (s.unlatched i src).level k j = s.level k j := fun k j h =>
    (State.level_raise _ _ _ _ k j).trans (s.level_setLevel_other (by decide) hi h false)
  exact ⟨fun j hj hne => (State.srcLat_eq_level _ hj).trans ((hlevel 2 j (.inr hne.symm)).trans (s.srcLat_eq_level hj).symm),
    fun j hj => hframe.cond hj (hlevel 1 j (.inl (by decide))),
    State.onlyFields_trans (l := [srcFld 2 i]) (s.setLevel_writes 2 i false).1 (State.raise_frame _ _ _ _).2, hframe⟩

/-- A latch bit written with 1 clears only where its condition is false (08 R190). -/
theorem State.latchBit_spec {s u : State} {i : Nat} (hi : i < 92) {src : Nat} {written : Bool} (hu : s.latchBit i src written = u) :
    u.srcLat i = (s.srcLat i && !(written && !s.srcCond i)) ∧ s.clearsLatch u i := by
  have htable : ∀ w l c : Bool, (if (w && l && !c) = true then false else l) = (l && !(w && !c)) := by decide
  rw [State.latchBit_eq s hi] at hu
  rw [← htable, ← hu]
  split
  · exact ⟨s.unlatched_srcLat hi src, s.unlatched_clears hi src⟩
  · exact ⟨rfl, fun _ _ _ => rfl, fun _ _ => rfl, State.onlyFields_refl s _, rfl⟩

/-- Two latch bits of different sources, one after the other. -/
theorem State.latchBit_latchBit {s u : State} {i j : Nat} (hi : i < 92) (hj : j < 92) (hij : i ≠ j) {m n : Nat} {w v : Bool}
    {f g : Fld} (hf : srcFld 2 i = f) (hg : srcFld 2 j = g) (hu : (s.latchBit i m w).latchBit j n v = u) :
    u.srcLat i = (s.srcLat i && !(w && !s.srcCond i)) ∧ u.srcLat j = (s.srcLat j && !(v && !s.srcCond j)) ∧
      s.onlyFields u (f :: g :: evFields) ∧ s.onlyRegsFlsDiffer u := by
  obtain ⟨hlat, hothers, hcond, hflds, hframe⟩ := State.latchBit_spec hi (rfl : s.latchBit i m w = _)
  obtain ⟨hlat', hothers', -, hflds', hframe'⟩ := State.latchBit_spec hj hu
  rw [hothers j hj hij.symm, hcond j hj] at hlat'
  subst hf hg
  exact ⟨(hothers' i hi hij).trans hlat, hlat', State.onlyFields_trans_same
    (State.onlyFields_mono hflds (List.cons_subset_cons _ (List.subset_cons_self _ _)))
    (State.onlyFields_mono hflds' (List.subset_cons_self _ _)), State.onlyRegsFlsDiffer_trans hframe hframe'⟩

/-- The latch bits of a monitor, HI first. -/
theorem State.latchWrite_mon {s u : State} {m : Nat} (hm : m < 42) {hi lo : Bool}
    (hu : (s.latchBit (2 * m + 1) m hi).latchBit (2 * m) m lo = u) :
    u.srcLat (2 * m + 1) = (s.srcLat (2 * m + 1) && !(hi && !s.srcCond (2 * m + 1))) ∧
      u.srcLat (2 * m) = (s.srcLat (2 * m) && !(lo && !s.srcCond (2 * m))) ∧
      s.onlyFields u ([R.MON_ST.LATH m, R.MON_ST.LATL m] ++ evFields) ∧ s.onlyRegsFlsDiffer u :=
  State.latchBit_latchBit (source_of_mon (hi_lt hm)) (source_of_mon (lo_lt hm)) (hi_ne_lo m) (srcFld_hi hm 2) (srcFld_lo hm 2) hu

/-- What latch bits of the driver-fault inputs listed leave: w says which were written with 1. -/
def State.nfltCleared (s u : State) (l : List Nat) (w : Nat → Bool) : Prop :=
  (∀ i : Nat, i < 8 → u.srcLat (84 + i) = if i ∈ l then s.srcLat (84 + i) && !(w i && !s.srcCond (84 + i)) else s.srcLat (84 + i)) ∧
    s.onlyFields u (R.MON_NFST.LAT :: evFields) ∧ s.onlyRegsFlsDiffer u

theorem nflt_source {i : Nat} (hi : i < 8) : 84 + i < 92 := Nat.add_lt_add_left hi 84

/-- One more latch bit in front. -/
theorem State.nfltCleared.cons {s t u : State} {w : Nat → Bool} {l : List Nat} {k : Nat} (hk : k < 8) (hkl : k ∉ l)
    (ht : s.latchBit (84 + k) (0x40 + k) (w k) = t) (h : t.nfltCleared u l w) : s.nfltCleared u (k :: l) w := by
  obtain ⟨hlat, hothers, hcond, hflds, hframe⟩ := State.latchBit_spec (nflt_source hk) ht
  rw [srcFld_nflt (Nat.not_lt.2 (Nat.le_add_right 84 k)) 2] at hflds
  refine ⟨fun i hi => (h.1 i hi).trans ?_, h.2.imp (State.onlyFields_trans_same hflds) (State.onlyRegsFlsDiffer_trans hframe)⟩
  by_cases hik : i = k
  · subst hik
    exact (if_neg hkl).trans (hlat.trans (if_pos List.mem_cons_self).symm)
  · have hlat' := hothers _ (nflt_source hi) fun he => hik (Nat.add_left_cancel he)
    exact ite_congr (propext (List.mem_cons.trans (or_iff_right hik)).symm)
      (fun _ => congrArg₂ (fun x c => x && !(w i && !c)) hlat' (hcond _ (nflt_source hi))) fun _ => hlat'

/-- A run of latch bits of driver-fault inputs. -/
theorem State.foldl_latchBit_spec {s : State} {w : Nat → Bool} {l : List Nat} (hl : ∀ i ∈ l, i < 8) (hn : l.Nodup) :
    s.nfltCleared (l.foldl (fun t i => t.latchBit (84 + i) (0x40 + i) (w i)) s) l w := by
  induction l generalizing s with
  | nil => exact ⟨fun _ _ => rfl, State.onlyFields_refl s _, rfl⟩
  | cons k l ih =>
    obtain ⟨hkl, hn⟩ := List.nodup_cons.1 hn
    obtain ⟨hk, hl⟩ := List.forall_mem_cons.1 hl
    exact State.nfltCleared.cons hk hkl rfl (ih hl hn)

theorem State.latchWrite_nfst {s u : State} {w : Word} (hu : s.latchWrite .nfst w = u) :
    (∀ i : Nat, i < 8 → u.srcLat (84 + i) = (s.srcLat (84 + i) && !(w.getLsbD (16 + i) && !s.srcCond (84 + i)))) ∧
      s.onlyFields u (R.MON_NFST.LAT :: evFields) ∧ s.onlyRegsFlsDiffer u :=
  (hu ▸ State.foldl_latchBit_spec (w := fun i => w.getLsbD (16 + i)) (fun _ => List.mem_range.1) List.nodup_range :
    s.nfltCleared u (List.range 8) _).imp_left fun hall i hi => (hall i hi).trans (if_pos (List.mem_range.2 hi))

/-! ### The statement of R147, R190 and R197 -/

theorem execLatchClear_eq (r : LatchReg) (w : Word) (s : State) : exec (.latchClear r w) s =
    .next (if s.coreRuns then (s.latchWrite r w).settle else s) := rfl

theorem execAssertAfterDeadtime_eq (d : Fin 4) (g : Fin 17) (s : State) : exec (.assertAfterDeadtime d g) s =
    .next (if s.coreRuns && (s.ball d g).hold then s.refreshBalls else s) := rfl

/-- Settles O21: each latch bit is one `latchBit`, which leaves the latches and the conditions of the others. -/
theorem latchesClearOnlyWithoutTheirCondition : Obligations.LatchesClearOnlyWithoutTheirCondition :=
  ⟨fun m w s hc => ⟨_, (execLatchClear_eq _ w s).trans (congrArg _ (if_pos hc)), State.latchWrite_mon m.isLt rfl⟩,
    fun w s hc => ⟨_, (execLatchClear_eq _ w s).trans (congrArg _ (if_pos hc)), State.latchWrite_nfst rfl⟩,
    fun r w s hc => (execLatchClear_eq r w s).trans (congrArg _ (if_neg (Bool.not_eq_true _ ▸ hc))),
    fun d g s hc hh => (execAssertAfterDeadtime_eq d g s).trans (congrArg _ (if_pos (Bool.and_eq_true_iff.2 ⟨hc, hh⟩))),
    fun d g s h => (execAssertAfterDeadtime_eq d g s).trans (congrArg _ (if_neg fun hand =>
      h.elim (Bool.eq_false_iff.1 · (Bool.and_eq_true_iff.1 hand).1) (Bool.eq_false_iff.1 · (Bool.and_eq_true_iff.1 hand).2)))⟩

end Sys2Proof.Machine
end

section
/-! The comparators of the window monitors and the filters (08_monitors_and_protection.md R178 to R183, R194). -/

namespace Sys2Proof.Machine

-- Proofs in the thread that reads the text, and small terms: the one text compiles within the memory of its check only while few
-- threads run beside it and its compiled form stays below 64 MiB.
set_option deprecated.oldSectionVars true

/-! ### What belongs to one source -/

/-- What a source shows: its output, its history, its raw and its filtered level. -/
def State.view (s : State) (i : Nat) : Bool × List Bool × Bool × Bool := (s.cmpOn i, s.history i, s.level 0 i, s.filtered i)

/-- Only source i changes. -/
def State.onlySource (s u : State) (i : Nat) : Prop :=
  s.monWrites u [srcFld 0 i, srcFld 1 i] ∧ ∀ j : Nat, j ≠ i → u.view j = s.view j

section
variable {s t u : State} {i j m : Nat} {b c take held : Bool}

theorem State.onlySource.trans (h : s.onlySource t i) (k : t.onlySource u i) : s.onlySource u i :=
  ⟨h.1.trans k.1, fun j hj => (k.2 j hj).trans (h.2 j hj)⟩

theorem State.onlySource.history (h : s.onlySource u i) (hj : j ≠ i) : u.history j = s.history j := congrArg (·.2.1) (h.2 j hj)

theorem State.onlySource.onlyMon (h : s.onlySource u i) : s.onlyMonDiffers u := h.1.2

theorem forall_mem_pair {p : Fld → Prop} {f g : Fld} (hf : p f) (hg : p g) : ∀ a ∈ [f, g], p a :=
  List.forall_mem_cons.2 ⟨hf, List.forall_mem_singleton.2 hg⟩

theorem State.mon_setLevel (s : State) (k i : Nat) (b : Bool) : (s.setLevel k i b).mon = s.mon :=
  (apply_ite State.mon _ _ _).trans (ite_self _)

theorem State.cmpOn_setLevel (s : State) (k i : Nat) (b : Bool) (j : Nat) : (s.setLevel k i b).cmpOn j = s.cmpOn j :=
  congrArg (fun m : Mon => tblGet (fun _ => true) m.cmp j) (s.mon_setLevel k i b)

theorem State.history_setLevel (s : State) (k i : Nat) (b : Bool) (j : Nat) : (s.setLevel k i b).history j = s.history j :=
  congrArg (fun m : Mon => tblGet (fun _ => List.replicate 15 true) m.hist j) (s.mon_setLevel k i b)

theorem State.filtered_setLevel_other (s : State) {k : Nat} (hk : k < 3) (hi : i < 92) (h : k ≠ 1 ∨ i ≠ j) (b : Bool) :
    (s.setLevel k i b).filtered j = s.filtered j :=
  (State.filtered_eq_level _ j).trans ((s.level_setLevel_other hk hi h b).trans (s.filtered_eq_level j).symm)

theorem State.view_setLevel (s : State) {k : Nat} (hk : k < 3) (hi : i < 92) (hj : j ≠ i) (b : Bool) :
    (s.setLevel k i b).view j = s.view j :=
  congrArg₂ Prod.mk (s.cmpOn_setLevel k i b j) (congrArg₂ Prod.mk (s.history_setLevel k i b j)
    (congrArg₂ Prod.mk (s.level_setLevel_other hk hi (.inr hj.symm) b) (s.filtered_setLevel_other hk hi (.inr hj.symm) b)))

theorem State.onlySource.setRaw (h : s.onlySource t i) (hi : i < 92) (b : Bool) : s.onlySource (t.setRaw i b) i :=
  t.setRaw_eq_setLevel i b ▸ h.trans ⟨(t.setLevel_writes 0 i b).mono (List.cons_subset_cons _ (List.nil_subset _)), fun _ hj =>
    t.view_setLevel (by decide) hi hj b⟩

theorem State.onlySource.setFiltered (h : s.onlySource t i) (hi : i < 92) (b : Bool) : s.onlySource (t.setFiltered i b) i :=
  t.setFiltered_eq_setLevel i b ▸ h.trans ⟨(t.setLevel_writes 1 i b).mono (List.subset_cons_self _ _), fun _ hj =>
    t.view_setLevel (by decide) hi hj b⟩

theorem State.pushSample_onlySource (s : State) (i : Nat) (b : Bool) : s.onlySource (s.pushSample i b) i :=
  ⟨(s.monWrites_refl _).modMon _, fun j hj =>
    congrArg (fun l => (s.cmpOn j, l, s.level 0 j, s.filtered j)) (tblGet_tblSet_other _ _ _ hj)⟩

/-! ### A sample of a filter (08 R182, R183) -/

/-- What a filter does after a sample, where r of its n last samples must be asserted and k are. -/
def majority {α : Type} (held : Bool) (n r k : Nat) (keep set clear : α) : α :=
  if held then keep else if r ≤ k then set else if k ≤ n - r then clear else keep

theorem majority_of_all {α : Type} {p : α → Prop} {n r k : Nat} {keep set clear : α} (hkeep : p keep) (hset : p set)
    (hclear : p clear) : p (majority held n r k keep set clear) := by
  unfold majority
  split
  · exact hkeep
  split
  · exact hset
  split
  · exact hclear
  · exact hkeep

theorem map_majority {α β : Type} (f : α → β) {n r k : Nat} {keep set clear : α} :
    f (majority held n r k keep set clear) = majority held n r k (f keep) (f set) (f clear) :=
  (apply_ite f _ _ _).trans (congrArg _ ((apply_ite f _ _ _).trans (congrArg _ (apply_ite f _ _ _))))

/-- A release is noted for the consequences. -/
def State.noteRelease (s : State) (i : Nat) : State :=
  s.modMon fun m => { m with released := tblSet (fun _ => false) m.released i true }

/-- The state after a sample has entered the history and the raw level. -/
def State.sampled (s : State) (i : Nat) (b : Bool) : State := (s.pushSample i b).setRaw i b

theorem State.filterStep_eq (s : State) (i : Nat) (held b : Bool) : s.filterStep i held b =
    majority held (s.filterEff i).1 (s.filterEff i).2 (asserted ((s.sampled i b).history i) (s.filterEff i).1) (s.sampled i b)
      ((s.sampled i b).setFiltered i true) (((s.sampled i b).setFiltered i false).noteRelease i) := rfl

/-- What every sample does: it enters the history and the raw level. -/
def State.sampleTaken (s u : State) (i : Nat) (b : Bool) : Prop :=
  s.onlySource u i ∧ u.history i = (b :: s.history i).take 15 ∧ u.cmpOn i = s.cmpOn i ∧ u.level 0 i = b

theorem State.sampled_taken (s : State) (hi : i < 92) (b : Bool) : s.sampleTaken (s.sampled i b) i b := by
  refine ⟨(s.pushSample_onlySource i b).setRaw hi b, ?_⟩
  unfold State.sampled
  rw [State.setRaw_eq_setLevel]
  exact ⟨(State.history_setLevel _ 0 i b i).trans (tblGet_tblSet_same _ _ i _), State.cmpOn_setLevel _ 0 i b i,
    State.level_setLevel_same _ (by decide) hi b⟩

theorem State.sampleTaken.setFiltered (h : s.sampleTaken t i b) (hi : i < 92) (c : Bool) : s.sampleTaken (t.setFiltered i c) i b := by
  refine ⟨h.1.setFiltered hi c, ?_⟩
  rw [State.setFiltered_eq_setLevel, State.history_setLevel, State.cmpOn_setLevel,
    State.level_setLevel_other t (by decide) hi (.inl (by decide))]
  exact h.2

theorem State.sampleTaken.noteRelease (h : s.sampleTaken t i b) : s.sampleTaken (t.noteRelease i) i b :=
  ⟨⟨h.1.1.modMon _, h.1.2⟩, h.2⟩

theorem State.filterStep_taken (hi : i < 92) (hu : u = s.filterStep i held b) : s.sampleTaken u i b :=
  have h := s.sampled_taken hi b
  hu ▸ majority_of_all (p := fun t => s.sampleTaken t i b) h (h.setFiltered hi true) (h.setFiltered hi false).noteRelease

theorem State.filterStep_onlySource (hi : i < 92) (hu : u = s.filterStep i held b) : s.onlySource u i := (State.filterStep_taken hi hu).1

theorem State.filterStep_history (hi : i < 92) (hu : u = s.filterStep i held b) : u.history i = (b :: s.history i).take 15 :=
  (State.filterStep_taken hi hu).2.1

theorem State.filtered_setFiltered (s : State) (hi : i < 92) (c : Bool) : (s.setFiltered i c).filtered i = c :=
  (State.filtered_eq_level _ i).trans (s.setFiltered_eq_setLevel i c ▸ s.level_setLevel_same (by decide) hi c)

/-- The filtered level: held by a test, else by the majority of the samples (08 R182, R194). -/
theorem State.filterStep_filtered {f : Nat × Nat} (hi : i < 92) (hu : u = s.filterStep i held b) (hf : f = s.filterEff i) :
    u.filtered i = majority held f.1 f.2 (asserted (u.history i) f.1) (s.filtered i) true false := by
  have hkept : (s.sampled i b).filtered i = s.filtered i :=
    (congrArg (State.filtered · i) (State.setRaw_eq_setLevel _ i b)).trans
      (State.filtered_setLevel_other _ (by decide) hi (.inl (by decide)) b)
  rw [State.filterStep_history hi hu, ← (s.sampled_taken hi b).2.1, ← hkept, hu, s.filterStep_eq, ← hf,
    map_majority (State.filtered · i), State.filtered_setFiltered _ hi]
  exact congrArg _ (State.filtered_setFiltered _ hi false)

/-- A filter works with n samples and a majority of them. -/
theorem filterOk_majority {n r : Nat} (h : r < n - n / 2) : filterOk n (n / 2 + 1 + r) = true := by
  have hmajority : n < 2 * (n / 2 + 1) := Nat.lt_mul_div_succ n (by decide)
  have hle : n / 2 + 1 + r ≤ n := Nat.add_right_comm _ _ _ ▸ Nat.succ_le_of_lt (Nat.add_comm _ _ ▸ Nat.lt_sub_iff_add_lt.1 h)
  exact Bool.and_eq_true_iff.2 ⟨Bool.and_eq_true_iff.2 ⟨bne_iff_ne.2 (Nat.ne_of_gt (Nat.lt_of_lt_of_le (Nat.succ_pos _)
    ((Nat.le_add_right _ r).trans hle))), decide_eq_true (Nat.lt_of_lt_of_le hmajority (Nat.mul_le_mul_left 2 (Nat.le_add_right _ r)))⟩,
    decide_eq_true hle⟩

/-- Settings as one truth value. -/
def filterOkPair (f : Nat × Nat) : Bool := filterOk f.1 f.2

/-- The settings that a filter works with are legal (08 R182; log 4). -/
theorem State.filterEff_ok (s : State) (i : Nat) : filterOkPair (s.filterEff i) = true := by
  by_cases h : filterOkPair (s.filterSet i) = true
  · exact (congrArg filterOkPair (if_pos h : s.filterEff i = _)).trans h
  · exact (congrArg filterOkPair (if_neg h : s.filterEff i = _)).trans (filterOk_majority (Nat.mod_lt _
      (Nat.sub_pos_of_lt (Nat.div_lt_self (Nat.add_pos_left (by decide) _) (by decide)))))

/-! ### A level at a comparator (08 R178 to R180) -/

/-- The next output of a HI comparator with threshold t and hysteresis h, whose output is o, at level x. -/
def hiNext (o : Bool) (t h x : Int) : Bool :=
  decide (((t - (if o then h else 0) - 512) * 1024 < x) ∨ (o = true ∧ (t - h - 512) * 1024 = x))

/-- The next output of a LO comparator with threshold t and hysteresis h, whose output is o, at level x. -/
def loNext (o : Bool) (t h x : Int) : Bool :=
  decide (x < ((t + (if o then h else 0) - 512) * 1024) ∨ (o = true ∧ (t + h - 512) * 1024 = x))

theorem not_lt_decide (x y : Int) : (!decide (x < y)) = decide (y < x ∨ (true = true ∧ y = x)) :=
  decide_not.symm.trans (decide_eq_decide.2 ((Int.not_lt.trans Int.le_iff_lt_or_eq).trans (or_congr_right (and_iff_right rfl).symm)))

theorem hiNext_eq (o : Bool) (t h x : Int) :
    (if o then !decide (x < dacLevel (t - h)) else decide (dacLevel t < x)) = hiNext o t h x := by
  cases o
  · exact decide_eq_decide.2 ((Int.sub_zero t).symm ▸ (or_iff_left fun h => Bool.false_ne_true h.1).symm)
  · exact not_lt_decide x _

theorem loNext_eq (o : Bool) (t h x : Int) :
    (if o then !decide (dacLevel (t + h) < x) else decide (x < dacLevel t)) = loNext o t h x := by
  cases o
  · exact decide_eq_decide.2 ((Int.add_zero t).symm ▸ (or_iff_left fun h => Bool.false_ne_true h.1).symm)
  · exact (not_lt_decide _ x).trans (decide_eq_decide.2 (or_congr_right (and_congr_right_iff.2 fun _ => eq_comm)))

theorem State.cmpNext_hi (s : State) (h : i / 2 = m) (ho : i % 2 = 1) (x : Int) :
    s.cmpNext i x = hiNext (s.cmpOn i) (s.get (R.MON_THR.THI m)) (s.get (R.MON_THR.HYS m)) x := by
  subst h
  exact (if_pos ho).trans (hiNext_eq _ _ _ x)

theorem State.cmpNext_lo (s : State) (h : i / 2 = m) (he : i % 2 = 0) (x : Int) :
    s.cmpNext i x = loNext (s.cmpOn i) (s.get (R.MON_THR.TLO m)) (s.get (R.MON_THR.HYS m)) x := by
  subst h
  exact (if_neg (he ▸ by decide)).trans (loNext_eq _ _ _ x)

/-- The state in which a comparator has an output. -/
def State.setOutput (s : State) (i : Nat) (c : Bool) : State := s.modMon fun m => { m with cmp := tblSet (fun _ => true) m.cmp i c }

theorem State.setOutput_onlySource (s : State) (i : Nat) (c : Bool) : s.onlySource (s.setOutput i c) i :=
  ⟨(s.monWrites_refl _).modMon _, fun j hj =>
    congrArg (fun o => (o, s.history j, s.level 0 j, s.filtered j)) (tblGet_tblSet_other _ _ _ hj)⟩

/-- From the view v to w a comparator takes the output c, its raw level with it; c enters its history if the instant is a sample, else
history and filtered level stay. -/
def takesLevel (v w : Bool × List Bool × Bool × Bool) (c take : Bool) : Prop :=
  w.1 = c ∧ w.2.2.1 = c ∧ (take = false → w.2.1 = v.2.1 ∧ w.2.2.2 = v.2.2.2) ∧ (take = true → w.2.1 = (c :: v.2.1).take 15)

/-- The state in which a comparator has taken an output in the test mode k, and where the instant is a sample its filter too. -/
def State.cmpTake (s : State) (i : Nat) (x : Int) (take : Bool) (k : Nat) (held : Bool) : State :=
  if take then ((s.setOutput i (s.cmpNext i (testInput k x))).setRaw i (testRaw k (s.cmpNext i (testInput k x)))).filterStep i held
    (testRaw k (s.cmpNext i (testInput k x)))
  else (s.setOutput i (s.cmpNext i (testInput k x))).setRaw i (testRaw k (s.cmpNext i (testInput k x)))

/-- The state in which a comparator has an output, with its raw level. -/
def State.compared (s : State) (i : Nat) (c : Bool) : State := (s.setOutput i c).setRaw i c

theorem State.compared_view (s : State) (hi : i < 92) (c : Bool) : (s.compared i c).view i = (c, s.history i, c, s.filtered i) := by
  unfold State.compared
  rw [State.setRaw_eq_setLevel]
  exact congrArg₂ Prod.mk ((State.cmpOn_setLevel _ 0 i c i).trans (tblGet_tblSet_same _ _ i c)) (congrArg₂ Prod.mk
    (State.history_setLevel _ 0 i c i) (congrArg₂ Prod.mk (State.level_setLevel_same _ (by decide) hi c)
      (State.filtered_setLevel_other _ (by decide) hi (.inl (by decide)) c)))

theorem State.compared_onlySource (s : State) (hi : i < 92) (c : Bool) : s.onlySource (s.compared i c) i :=
  (s.setOutput_onlySource i c).setRaw hi c

theorem State.compared_takes (s : State) (hi : i < 92) (c : Bool) : takesLevel (s.view i) ((s.compared i c).view i) c false :=
  s.compared_view hi c ▸ ⟨rfl, rfl, fun _ => ⟨rfl, rfl⟩, fun h => absurd h Bool.false_ne_true⟩

theorem State.compared_sampled_takes (s : State) (hi : i < 92) (c : Bool) :
    takesLevel (s.view i) (((s.compared i c).filterStep i false c).view i) c true ∧
      s.onlySource ((s.compared i c).filterStep i false c) i := by
  obtain ⟨hsource, hhist, hcmp, hraw⟩ := State.filterStep_taken hi (rfl : (s.compared i c).filterStep i false c = _)
  have hview := s.compared_view hi c
  exact ⟨⟨hcmp.trans (congrArg Prod.fst hview), hraw, fun h => absurd h.symm Bool.false_ne_true,
    fun _ => hhist.trans (congrArg (fun v : Bool × List Bool × Bool × Bool => (c :: v.2.1).take 15) hview)⟩,
    (s.compared_onlySource hi c).trans hsource⟩

theorem State.testMode_none (s : State) (ht : s.bit (R.MON_ST.TST m) = false) : s.testMode m = 0 := if_pos (congrArg not ht)

/-- Outside a test a comparator takes the output that its thresholds give. -/
theorem State.cmpInput_eq (s : State) (ht : s.bit (R.MON_ST.TST (i / 2)) = false) (x : Int) (take : Bool) :
    s.cmpInput i x take = s.cmpTake i x take 0 false :=
  congrArg₂ (s.cmpTake i x take) (s.testMode_none ht) ht

theorem State.cmpInput_spec (hi : i < 92) (ht : s.bit (R.MON_ST.TST (i / 2)) = false) {x : Int} (hc : s.cmpNext i x = c) (take : Bool) :
    takesLevel (s.view i) ((s.cmpInput i x take).view i) c take ∧ s.onlySource (s.cmpInput i x take) i := by
  subst hc
  rw [s.cmpInput_eq ht]
  cases take
  · exact ⟨s.compared_takes hi _, s.compared_onlySource hi _⟩
  · exact s.compared_sampled_takes hi _

theorem monThr_lt_monStatus (hm : m < 42) : R.MON_THR.at m < R.MON_ST.at 0 :=
  Nat.lt_of_lt_of_le (Nat.add_lt_add_left (Nat.mul_lt_mul_of_pos_left hm (by decide)) _) (by decide)

/-- A source leaves the settings of the comparators. -/
theorem State.onlySource.get_thr (h : s.onlySource t i) (hm : m < 42) {g : Fld} (hg : g.addr = R.MON_THR.at m) : t.get g = s.get g :=
  have hne : ∀ k : Nat, apart (srcFld k i) g := fun k =>
    .inl (Nat.ne_of_gt (Nat.lt_of_lt_of_le (hg.symm ▸ monThr_lt_monStatus hm) (srcFld_addr_ge k i)))
  h.1.get g (forall_mem_pair (hne 0) (hne 1))

theorem statusBit_apart (hi : i < 84) {k : Nat} (hk : k < 2) (m : Nat) : apart (srcFld k i) (R.MON_ST.TST m) :=
  srcFld_mon hi k ▸ .inr (.inr (Nat.lt_of_lt_of_le (statusBit_lt hk i) (by decide : 2 * 2 ≤ 6)))

/-- A comparator leaves the marks of the tests. -/
theorem State.onlySource.bit_tst (h : s.onlySource t i) (hi : i < 84) (m : Nat) : t.bit (R.MON_ST.TST m) = s.bit (R.MON_ST.TST m) :=
  congrArg (fun n : Nat => decide (n ≠ 0))
    (h.1.get _ (forall_mem_pair (statusBit_apart hi (by decide) m) (statusBit_apart hi (by decide) m)))

theorem State.onlySource.addr (h : s.onlySource u i) : s.onlyRegs u [if i < 84 then R.MON_ST.at (i / 2) else R.MON_NFST.at] :=
  State.onlyFields.regs h.1.1 (forall_mem_pair (List.mem_singleton.2 (srcFld_addr 0 i)) (List.mem_singleton.2 (srcFld_addr 1 i)))

theorem State.onlySource.addr_mon (h : s.onlySource u i) (hi : i < 84) (hm : i / 2 = m) : s.onlyRegs u [R.MON_ST.at m] :=
  hm ▸ (if_pos hi : (if i < 84 then R.MON_ST.at (i / 2) else R.MON_NFST.at) = _) ▸ h.addr

theorem State.onlySource.cmpNext_hi_after (h : s.onlySource t (2 * m)) (hm : m < 42) (x : Int) :
    t.cmpNext (2 * m + 1) x = s.cmpNext (2 * m + 1) x := by
  have hcmp : t.cmpOn (2 * m + 1) = s.cmpOn (2 * m + 1) := congrArg Prod.fst (h.2 _ (hi_ne_lo m))
  rw [State.cmpNext_hi t (hi_half m) (Nat.mul_add_mod 2 m 1), State.cmpNext_hi s (hi_half m) (Nat.mul_add_mod 2 m 1), hcmp,
    h.get_thr hm rfl, h.get_thr hm rfl]

/-- Both comparators of a monitor outside a test take what a level gives them. -/
theorem State.monInput_spec (hm : m < 42) (ht : s.bit (R.MON_ST.TST m) = false) {x : Int} (hhi : s.cmpNext (2 * m + 1) x = b)
    (hlo : s.cmpNext (2 * m) x = c) (hu : u = s.monInput m x take) :
    takesLevel (s.view (2 * m + 1)) (u.view (2 * m + 1)) b take ∧ takesLevel (s.view (2 * m)) (u.view (2 * m)) c take ∧
      s.onlyRegs u [R.MON_ST.at m] ∧ s.onlyMonDiffers u := by
  obtain ⟨hlow, hsrc⟩ := State.cmpInput_spec (source_of_mon (lo_lt hm)) ((lo_half m).symm ▸ ht) hlo take
  obtain ⟨hhigh, hsrc'⟩ := State.cmpInput_spec (source_of_mon (hi_lt hm))
    ((hi_half m).symm ▸ (hsrc.bit_tst (lo_lt hm) m).trans ht) ((hsrc.cmpNext_hi_after hm x).trans hhi) take
  exact hu ▸ ⟨hsrc.2 _ (hi_ne_lo m) ▸ hhigh, hsrc'.2 _ (hi_ne_lo m).symm ▸ hlow,
    fun a ha => (hsrc'.addr_mon (hi_lt hm) (hi_half m) a ha).trans (hsrc.addr_mon (lo_lt hm) (lo_half m) a ha),
    hsrc.onlyMon.trans hsrc'.onlyMon⟩

end

/-! ### The statement of R178 to R183 and R194 -/

section
variable {s u : State} {i m : Nat}

theorem State.level_hi (s : State) (hm : m < 42) : s.level 0 (2 * m + 1) = s.bit (R.MON_ST.RHI m) :=
  (if_pos (hi_lt hm)).trans (congrArg s.bit (srcFld_hi hm 0))

theorem State.level_lo (s : State) (hm : m < 42) : s.level 0 (2 * m) = s.bit (R.MON_ST.RLO m) :=
  (if_pos (lo_lt hm)).trans (congrArg s.bit (srcFld_lo hm 0))

/-- What two comparators take, one level after the other. -/
theorem takesLevel_pair {v w v' w' : Bool × List Bool × Bool × Bool} {b c r r' take : Bool} {p : Prop} (hr : w.2.2.1 = r)
    (hr' : w'.2.2.1 = r') (h : takesLevel v w b take ∧ takesLevel v' w' c take ∧ p) : w.1 = b ∧ r = b ∧ w'.1 = c ∧ r' = c ∧
      (take = false → w.2.1 = v.2.1 ∧ w'.2.1 = v'.2.1 ∧ w.2.2.2 = v.2.2.2 ∧ w'.2.2.2 = v'.2.2.2) ∧
      (take = true → w.2.1 = (b :: v.2.1).take 15 ∧ w'.2.1 = (c :: v'.2.1).take 15) ∧ p := by
  obtain ⟨⟨hcmp, hraw, hwait, htake⟩, ⟨hcmp', hraw', hwait', htake'⟩, hp⟩ := h
  exact ⟨hcmp, hr.symm.trans hraw, hcmp', hr'.symm.trans hraw', fun h => ⟨(hwait h).1, (hwait' h).1, (hwait h).2, (hwait' h).2⟩,
    fun h => ⟨htake h, htake' h⟩, hp⟩

theorem State.filterSet_mon (s : State) (hm : i / 2 = m) (hi : i < 84) :
    s.filterSet i = (s.get (R.MON_FILT.FWIN m), s.get (R.MON_FILT.FTHR m)) := hm ▸ if_pos hi

theorem State.filterSet_nflt (s : State) (hm : i - 84 = m) (hi : ¬i < 84) :
    s.filterSet i = (s.get (R.MON_FFILT.FWIN m), s.get (R.MON_FFILT.FTHR m)) := hm ▸ if_neg hi

theorem State.filterBump_eq {f : Nat × Nat} (h : s.filterSet i = f) (t : State) :
    s.filterBump i t = if filterOk f.1 f.2 then t else t.bump := h ▸ rfl

end

/-- Settles O20: each comparator of a level takes `cmpNext`, and a sample is one `filterStep`. -/
theorem monitorFiltersFollowTheMajority : Obligations.MonitorFiltersFollowTheMajority :=
  ⟨fun m _ _ _ s => ⟨fun hc hs => congrArg Host.Outcome.next ((if_pos (Bool.and_eq_true_iff.2 ⟨hc, congrArg not hs⟩)).trans
        (State.filterBump_eq (s.filterSet_mon (lo_half m) (lo_lt m.isLt)) _)),
      fun h => congrArg Host.Outcome.next (if_neg fun hand => h.elim (Bool.eq_false_iff.1 · (Bool.and_eq_true_iff.1 hand).1) fun hs =>
        Bool.false_ne_true ((congrArg not hs).symm.trans (Bool.and_eq_true_iff.1 hand).2)), rfl, fun _ _ => rfl⟩,
    fun i _ s => ⟨fun hc => congrArg Host.Outcome.next ((if_pos hc).trans (State.filterBump_eq (s.filterSet_nflt
      (Nat.add_sub_cancel_left 84 i) (Nat.not_lt.2 (Nat.le_add_right 84 i))) _)),
      fun hc => congrArg Host.Outcome.next (if_neg (Bool.eq_false_iff.1 hc)), rfl, fun _ => rfl⟩,
    fun m x _ s u _ _ ht hu hhi hlo => takesLevel_pair (u.level_hi m.isLt) (u.level_lo m.isLt) (State.monInput_spec m.isLt ht
      ((s.cmpNext_hi (hi_half m) (Nat.mul_add_mod 2 m 1) x).trans hhi.symm)
      ((s.cmpNext_lo (lo_half m) (Nat.mul_mod_right 2 m) x).trans hlo.symm) hu),
    fun i _ _ _ _ s _ hi hu hnk => ⟨(congrArg filterOkPair hnk).trans (s.filterEff_ok i), fun hok => hnk.trans (if_pos hok),
      State.filterStep_history hi hu, fun _ hj => (State.filterStep_onlySource hi hu).history hj, State.filterStep_filtered hi hu hnk,
      (State.filterStep_onlySource hi hu).addr, (State.filterStep_onlySource hi hu).onlyMon⟩⟩

end Sys2Proof.Machine
end
